-- ==== Sys2Proof/Word.lean ====
section
/-! DEFINITION. The word types of the Ixquembe and their plainest arithmetic (spec/00 R1, spec/02 R21). -/

namespace Sys2Proof

/-- A 32-bit register value (spec/03 R60). -/
abbrev Word := BitVec 32

/-- A 64-bit value: a register pair, a program counter, VA[63:0]. -/
abbrev DWord := BitVec 64

/-- A byte of memory. -/
abbrev Byte := BitVec 8

/-- A set of lanes of a group, bit i for lane i (spec/09 R217). -/
abbrev LaneMask := BitVec 32

/-- An instruction word (spec/02 R21). -/
abbrev InstrWord := BitVec 128

/-- A virtual address VA[79:0] (spec/11 R246). -/
abbrev VAddr := BitVec 80

/-- A physical address, 52 bits (spec/01 R15). -/
abbrev PAddr := BitVec 52

/-- One value for each of the 32 lanes of a group. -/
abbrev Lanes (α : Type) := Vector α 32

end Sys2Proof
end

