-- ==== Sys2Proof/Syntax.lean ====
section
/-! DEFINITION. The abstract syntax: the operand fields and control clause of a 128-bit word (spec/02 R21-R44),
the arguments of the package's other steps, and `Instr`, one constructor per row of spec/opcode_table.json. -/

namespace Sys2Proof

/-! ## Parts of an instruction word -/

/-- The storage level of an operand field, bits [11:10] (spec/02 R25). -/
inductive Level where
  | main | oper | latch | special
  deriving DecidableEq, Repr

/-- A 12-bit operand field (spec/02 R25): level, index, the last-read mark (latch-only on D), negate-or-invert. -/
structure Operand where
  level : Level
  index : BitVec 8
  mark  : Bool
  neg   : Bool
  deriving DecidableEq, Repr

/-- The next-address selectors that exist (spec/02 R36); codes 11-15 are no selector (check 5 of R24). -/
inductive Nx where
  | seq | jmp | jt | jf | jut | juf | call | ret | loop | exit | jidx
  deriving DecidableEq, Repr

/-- The fields of a word beside P and OP (spec/02 R21). `guardNeg` is G[111], `guardSel` is G[110:108]. -/
structure Fields where
  guardNeg : Bool
  guardSel : BitVec 3
  mod : BitVec 6
  d   : Operand
  a   : Operand
  b   : Operand
  c   : Operand
  st  : BitVec 4
  wt  : BitVec 12
  sf  : BitVec 4
  yd  : Bool
  nx  : Nx
  imm : Word
  deriving DecidableEq, Repr

/-- Widths of LDX, STX, LDA, STR, RLD, RST (spec/05 R103): `.b32` then `.b64`. -/
inductive Width2 where
  | b32 | b64
  deriving DecidableEq, Repr

/-- Widths of LD, in codepoint order (spec/05 R103, spec/07 R150). -/
inductive LdWidth where
  | b8 | s8 | b16 | s16 | b32 | b64 | b128
  deriving DecidableEq, Repr

/-- Widths of ST, in codepoint order (spec/05 R103, spec/07 R153). -/
inductive StWidth where
  | b8 | b16 | b32 | b64 | b128
  deriving DecidableEq, Repr

/-- Widths of ULD and UST (spec/05 R104). -/
inductive UWidth where
  | b32 | b64 | b128
  deriving DecidableEq, Repr

/-- The store mode, OP[0] (spec/05 R100, spec/07 R154). -/
inductive StoreMode where
  | ef | ga
  deriving DecidableEq, Repr

/-- The atomic operations, by their index in spec/05 R100. -/
inductive AtomOp where
  | add | min | max | and | or | xor | exch | cas
  deriving DecidableEq, Repr

/-- The operations RED has: indices 0 to 5 of spec/05 R100. -/
inductive RedOp where
  | add | min | max | and | or | xor
  deriving DecidableEq, Repr

/-- The scopes of spec/05 R101. -/
inductive Scope where
  | group | team | cluster | die | package | fabric
  deriving DecidableEq, Repr

/-- The access paths of spec/05 R101. -/
inductive AccPath where
  | l | p | c | g | x | h
  deriving DecidableEq, Repr

/-- The memories DRAIN names (spec/05 R101). -/
inductive MemKind where
  | near | far | cream | host | fabric | deep
  deriving DecidableEq, Repr

/-! ## Arguments of the other steps -/

/-- Whose access a translation unit walks for (spec/15 R300): an operation's lanes, a copy's next piece, a
macro-operation, or the fetch of a path of a group. -/
inductive WalkFor where
  | op (id : Nat)
  | copy (id : Nat)
  | churnOp (cluster : Nat)
  | fetch (group : Nat) (pc : DWord)
  deriving DecidableEq, Repr

/-- What the home reports of a store whose acknowledgement is lost (spec/07 R156): its state, and for state 1 the
dies whose acknowledgement is missing. -/
inductive AckState where
  | noRecord
  | held (missing : BitVec 8)
  | done
  deriving DecidableEq, Repr

/-- Work that waits for a peer package (spec/17 R323). -/
inductive RemoteWork where
  | op (id : Nat)
  | copy (id : Nat)
  deriving DecidableEq, Repr

/-- What an uncorrectable error struck during an exchange, spill or fill, or a wait-swap (spec/15 R296). -/
inductive CrockHit where
  | image (ctx : Nat)
  | team (uid : Nat)
  deriving DecidableEq, Repr

/-- An access of the host through BAR 2 (spec/15 R305). -/
inductive HostAccess where
  | read (len : Nat)
  | write (bytes : List Byte)
  deriving DecidableEq, Repr

/-- A flit on a die-to-die link, field by field as it was sent (spec/18 R341), with the CRC that arrives: `rsv` holds the
reserved bytes 0x05 to 0x07 and `payload` the 240 bytes from 0x08. -/
structure Flit where
  seq     : BitVec 16
  ack     : BitVec 16
  kind    : Byte
  rsv     : BitVec 24
  payload : List Byte
  crc     : DWord
  deriving DecidableEq, Repr

/-- A circuit-agent message, the 32 bytes of spec/17 R328 field by field: `slot` and `seq` are XID, `rsv` and `rsv2` the
reserved bytes, and `value` is SWUS or REASON. -/
structure SwitchMsg where
  ver      : Byte
  kind     : Byte
  len      : BitVec 16
  slot     : Byte
  seq      : BitVec 24
  plane    : Byte
  rsv      : BitVec 56
  pkg      : Byte
  swPort   : Byte
  peerPkg  : Byte
  peerPort : Byte
  value    : Word
  rsv2     : BitVec 64
  deriving DecidableEq, Repr

/-- What a peer package asks of this one (spec/07 R161, R163, spec/08 R186): a load of so many bytes, a store, an
atomic of an AT type, or the reductions of a copy's piece, whose D8 elements have their block's scale byte at `scale`.
`poison` says that the data are poisoned (spec/21 R366). -/
inductive PeerAsk where
  | load (bytes : Nat)
  | store (bytes : List Byte) (poison : Bool)
  | atom (op : AtomOp) (ty : Nat) (data : BitVec 128)
  | reduce (op : AtomOp) (ty : Nat) (operands : List (BitVec 64)) (scale : Option VAddr)
  deriving DecidableEq, Repr

/-- A request that a fabric flit brings (log 91): the peer's own name for it, the context of this package that the peer's
context is bound to, and the address. -/
structure PeerReq where
  tag : Nat
  ctx : Nat
  va  : VAddr
  ask : PeerAsk
  deriving DecidableEq, Repr

/-- Whose session keys are agreed (spec/17 R334, R335). -/
inductive KeyFor where
  | port (n : Nat)
  | session (n : Nat)
  deriving DecidableEq, Repr

/-- What the peer's message of a key agreement brings (spec/17 R334): whose keys they are, its ephemeral key, identity key
and signature, 56, 57 and 114 bytes, and whether the signature of the transcript verifies. -/
structure KeysEnd where
  who      : KeyFor
  message  : List Byte
  verified : Bool
  deriving DecidableEq, Repr

/-- What PORT_TRAINED tells of a port's lanes: those that have locked, and those that have trained (spec/17 R312). -/
structure LanesUp where
  locked  : BitVec 4
  trained : BitVec 4
  deriving DecidableEq, Repr

/-- Whether a fabric flit authenticates, and whether it is the marked one with which its sender's new keys begin
(spec/17 R335). -/
inductive FlitSeal where
  | bad | good | marked
  deriving DecidableEq, Repr

/-- FINISH of a requester (spec/21 R375, R377): the certificate it has shown in its session, and the message. -/
structure FinishMsg where
  cert  : List Byte
  bytes : List Byte
  deriving DecidableEq, Repr

/-- What a Whey frame travels in (spec/17 R336): an Ethernet II frame with its EtherType, or an IPv6 packet with its next
header, hop limit and UDP ports, and whether its UDP checksum holds. -/
inductive WheyOuter where
  | ether (etherType : BitVec 16)
  | udp (next hops : Byte) (src dst : BitVec 16) (sumGood : Bool)
  deriving DecidableEq, Repr

/-- A frame received on a port of the Whey plane (spec/17 R336, R337): what it travels in, the transport header field by
field (`kind` is TYPE, `rsv` the 18 reserved bytes), its message, whether it is authentic (in a key agreement before there
are keys: whether its signature verifies), and whether it is the marked one with which its sender's new keys begin
(R335). -/
structure WheyFrame where
  port    : Nat
  outer   : WheyOuter
  ver     : Byte
  kind    : Byte
  session : BitVec 16
  seq     : Word
  ack     : Word
  len     : BitVec 16
  rsv     : BitVec 144
  message : List Byte
  auth    : Bool
  mark    : Bool
  deriving DecidableEq, Repr

/-- What patrol scrub finds in a line (spec/21 R367). -/
inductive ScrubResult where
  | clean | corrected | uncorrectable
  deriving DecidableEq, Repr

/-- The storage an uncorrectable error strikes, a row of the table of spec/21 R365; a victim tag or a translation by its
place among its core's or its unit's. -/
inductive ErrorSite where
  | mainReg (group : Nat) (name : Nat)
  | operReg (group : Nat) (index : Nat)
  | laneLatch (group : Nat)
  | uniLatch (group : Nat)
  | deepEntry (group : Nat) (entry : Nat)
  | crock (ctx : Nat)
  | l1Line (core : Nat) (line : PAddr)
  | victim (core : Nat) (place : Nat)
  | tlu (unit : Nat) (place : Nat)
  | slice (base : Nat) (line : PAddr)
  | creamOrWindow (line : PAddr)
  | churn (cluster : Nat)
  | stackedDram (line : PAddr)
  | lpddr6 (line : PAddr)
  deriving DecidableEq, Repr

/-- The package resources firmware assigns to a context when it creates it (spec/17 R325, R326; spec/21 R377): the
peer bindings that `context create` lists, and ports, ticket slots and circuit-live barriers as sets. -/
structure ContextResources where
  binds    : List (Nat × Nat)
  ports    : BitVec 64
  slots    : BitVec 64
  barriers : BitVec 64
  deriving DecidableEq, Repr

/-- A firmware image as management stages it (spec/21 R372, R373): does its signature verify, its version, the major
handover version it accepts, and its digest. -/
structure FirmwareImage where
  signed  : Bool
  version : Nat
  major   : BitVec 8
  digest  : List Byte
  deriving DecidableEq, Repr

/-- What `debug resume` names (spec/21 R381). -/
inductive DebugTarget where
  | group (key : Nat)
  | die (n : Nat)
  deriving DecidableEq, Repr

/-- What the debugger reads or writes of a stopped group (spec/21 R382). -/
inductive DebugObj where
  | main (n : Nat) (lanes : LaneMask)
  | oper (n : Nat) (lanes : LaneMask)
  | pred (n : Nat) (lanes : LaneMask)
  | deep (e : Nat) (lanes : LaneMask)
  | uni (n : Nat)
  | upred (n : Nat)
  | space (n : Nat)
  | rejoin (n : Nat)
  | flag (n : Nat)
  | latches
  | paths
  | stopAddress
  | lease
  | special (n : Nat)
  | mem (va : VAddr) (size : Nat)
  deriving DecidableEq, Repr

/-- The value of a debugger's write: one value for every lane or byte named, and for a lease the mode. -/
structure DebugVal where
  value    : BitVec 128
  declared : Bool
  deriving DecidableEq, Repr

/-! ## Instructions and steps -/

/-- One constructor per row of spec/opcode_table.json: the 230 instructions of the two pipes, each with the fields of
its word, then the 148 steps of the package's other agents. -/
inductive Instr where
  /-- NOP (R23). -/
  | nop (f : Fields)
  /-- IADD (R117). -/
  | iadd (f : Fields)
  /-- ISUB (R117). -/
  | isub (f : Fields)
  /-- IMUL (R117). -/
  | imul (f : Fields)
  /-- IMULHI (R117). -/
  | imulhi (f : Fields)
  /-- IMAD (R117). -/
  | imad (f : Fields)
  /-- IMIN (R117). -/
  | imin (f : Fields)
  /-- IMAX (R117). -/
  | imax (f : Fields)
  /-- IABS (R117). -/
  | iabs (f : Fields)
  /-- IDIV (R118). -/
  | idiv (f : Fields)
  /-- IREM (R118). -/
  | irem (f : Fields)
  /-- ISAD (R117). -/
  | isad (f : Fields)
  /-- IDP4 (R117). -/
  | idp4 (f : Fields)
  /-- ISUM (R117). -/
  | isum (f : Fields)
  /-- IMADW (R117). -/
  | imadw (f : Fields)
  /-- LEA (R119). -/
  | lea (f : Fields)
  /-- LEAS (R119). -/
  | leas (f : Fields)
  /-- AND (R120). -/
  | and (f : Fields)
  /-- OR (R120). -/
  | or (f : Fields)
  /-- XOR (R120). -/
  | xor (f : Fields)
  /-- LUT3 (R120). -/
  | lut3 (f : Fields)
  /-- SHL (R120). -/
  | shl (f : Fields)
  /-- SHR (R120). -/
  | shr (f : Fields)
  /-- SAR (R120). -/
  | sar (f : Fields)
  /-- ROT (R120). -/
  | rot (f : Fields)
  /-- CATSH (R120). -/
  | catsh (f : Fields)
  /-- BXTR (R121). -/
  | bxtr (f : Fields)
  /-- BINS (R121). -/
  | bins (f : Fields)
  /-- ONES (R120). -/
  | ones (f : Fields)
  /-- CLZ (R120). -/
  | clz (f : Fields)
  /-- BITREV (R120). -/
  | bitrev (f : Fields)
  /-- BYSEL (R122). -/
  | bysel (f : Fields)
  /-- ICMP (R123). -/
  | icmp (f : Fields)
  /-- FCMP (R123). -/
  | fcmp (f : Fields)
  /-- DCMP (R123). -/
  | dcmp (f : Fields)
  /-- D8CMP (R123). -/
  | d8cmp (f : Fields)
  /-- PLOG (R124). -/
  | plog (f : Fields)
  /-- PTOX (R124). -/
  | ptox (f : Fields)
  /-- XTOP (R124). -/
  | xtop (f : Fields)
  /-- FCLASS (R128). -/
  | fclass (f : Fields)
  /-- MOV (R125). -/
  | mov (f : Fields)
  /-- SEL (R125). -/
  | sel (f : Fields)
  /-- MOVQ (R125). -/
  | movq (f : Fields)
  /-- FADD (R126). -/
  | fadd (f : Fields)
  /-- FMUL (R126). -/
  | fmul (f : Fields)
  /-- FFMA (R126). -/
  | ffma (f : Fields)
  /-- FMIN (R127). -/
  | fmin (f : Fields)
  /-- FMAX (R127). -/
  | fmax (f : Fields)
  /-- FINT (R126). -/
  | fint (f : Fields)
  /-- FABS (R126). -/
  | fabs (f : Fields)
  /-- DADD (R126). -/
  | dadd (f : Fields)
  /-- DMUL (R126). -/
  | dmul (f : Fields)
  /-- DFMA (R126). -/
  | dfma (f : Fields)
  /-- DMIN (R127). -/
  | dmin (f : Fields)
  /-- DMAX (R127). -/
  | dmax (f : Fields)
  /-- DINT (R126). -/
  | dint (f : Fields)
  /-- DABS (R126). -/
  | dabs (f : Fields)
  /-- FRCP (R130). -/
  | frcp (f : Fields)
  /-- FRSQ (R130). -/
  | frsq (f : Fields)
  /-- FSQRT (R130). -/
  | fsqrt (f : Fields)
  /-- FEX2 (R130). -/
  | fex2 (f : Fields)
  /-- FLG2 (R130). -/
  | flg2 (f : Fields)
  /-- FEX10 (R130). -/
  | fex10 (f : Fields)
  /-- FLG10 (R130). -/
  | flg10 (f : Fields)
  /-- FSIN (R130). -/
  | fsin (f : Fields)
  /-- FCOS (R130). -/
  | fcos (f : Fields)
  /-- FDIV (R130). -/
  | fdiv (f : Fields)
  /-- DRCP (R130). -/
  | drcp (f : Fields)
  /-- DSQRT (R130). -/
  | dsqrt (f : Fields)
  /-- DDIV (R130). -/
  | ddiv (f : Fields)
  /-- CVTI2F (R131). -/
  | cvti2f (f : Fields)
  /-- CVTF2I (R131). -/
  | cvtf2i (f : Fields)
  /-- CVTF2F (R131). -/
  | cvtf2f (f : Fields)
  /-- CVTI2I (R131). -/
  | cvti2i (f : Fields)
  /-- D8PACK (R132). -/
  | d8pack (f : Fields)
  /-- D8UNPK (R132). -/
  | d8unpk (f : Fields)
  /-- D8SCALE (R133). -/
  | d8scale (f : Fields)
  /-- D8MIN (R134). -/
  | d8min (f : Fields)
  /-- D8MAX (R134). -/
  | d8max (f : Fields)
  /-- PKADD (R129). -/
  | pkadd (f : Fields)
  /-- PKMUL (R129). -/
  | pkmul (f : Fields)
  /-- PKFMA (R129). -/
  | pkfma (f : Fields)
  /-- PKMIN (R129). -/
  | pkmin (f : Fields)
  /-- PKMAX (R129). -/
  | pkmax (f : Fields)
  /-- PERM (R135). -/
  | perm (f : Fields)
  /-- PERMUP (R135). -/
  | permup (f : Fields)
  /-- PERMDN (R135). -/
  | permdn (f : Fields)
  /-- PERMX (R135). -/
  | permx (f : Fields)
  /-- VOTE (R136). -/
  | vote (f : Fields)
  /-- BALLOT (R136). -/
  | ballot (f : Fields)
  /-- MATCH (R136). -/
  | matchEq (f : Fields)
  /-- GREDI (R137). -/
  | gredi (f : Fields)
  /-- GREDF (R137). -/
  | gredf (f : Fields)
  /-- GSCAN (R137). -/
  | gscan (f : Fields)
  /-- LDX (R138). -/
  | ldx (w : Width2) (f : Fields)
  /-- STX (R138). -/
  | stx (w : Width2) (f : Fields)
  /-- LD (R150). -/
  | ld (w : LdWidth) (f : Fields)
  /-- LDA (R152). -/
  | lda (w : Width2) (f : Fields)
  /-- PREF (R151). -/
  | pref (f : Fields)
  /-- ST (R153). -/
  | st (w : StWidth) (m : StoreMode) (f : Fields)
  /-- STR (R153). -/
  | str (w : Width2) (m : StoreMode) (f : Fields)
  /-- ATOM (R158). -/
  | atom (op : AtomOp) (m : StoreMode) (f : Fields)
  /-- RED (R160). -/
  | red (op : RedOp) (m : StoreMode) (f : Fields)
  /-- RATOM (R161). -/
  | ratom (op : AtomOp) (f : Fields)
  /-- RLD (R161). -/
  | rld (w : Width2) (f : Fields)
  /-- RST (R161). -/
  | rst (w : Width2) (f : Fields)
  /-- FFENCE (R163). -/
  | ffence (f : Fields)
  /-- FENCE (R164). -/
  | fence (f : Fields)
  /-- FENCEX (R165). -/
  | fencex (f : Fields)
  /-- DRAIN (R166). -/
  | drain (f : Fields)
  /-- XBEGIN (R167). -/
  | xbegin (f : Fields)
  /-- XEND (R168). -/
  | xend (f : Fields)
  /-- XABORT (R170). -/
  | xabort (f : Fields)
  /-- BAR (R173). -/
  | bar (f : Fields)
  /-- BARA (R173). -/
  | bara (f : Fields)
  /-- BARC (R174). -/
  | barc (f : Fields)
  /-- BARD (R174). -/
  | bard (f : Fields)
  /-- JSET (R176). -/
  | jset (f : Fields)
  /-- JOIN (R176). -/
  | join (f : Fields)
  /-- JDROP (R176). -/
  | jdrop (f : Fields)
  /-- WWAIT (R177). -/
  | wwait (f : Fields)
  /-- CBPOST (R178). -/
  | cbpost (f : Fields)
  /-- CBWAIT (R178). -/
  | cbwait (f : Fields)
  /-- TFEED (R191). -/
  | tfeed (f : Fields)
  /-- TFEED_STAB (R193). -/
  | tfeedStab (f : Fields)
  /-- TDRAIN (R194). -/
  | tdrain (f : Fields)
  /-- EMIT (R201). -/
  | emit (f : Fields)
  /-- TRAP (R211). -/
  | trap (f : Fields)
  /-- BKPT (R211). -/
  | bkpt (f : Fields)
  /-- YIELD (R211). -/
  | yield (f : Fields)
  /-- UNOP (R23). -/
  | unop (f : Fields)
  /-- UIADD (R116). -/
  | uiadd (f : Fields)
  /-- UISUB (R116). -/
  | uisub (f : Fields)
  /-- UIMUL (R116). -/
  | uimul (f : Fields)
  /-- UIMULHI (R116). -/
  | uimulhi (f : Fields)
  /-- UIMAD (R116). -/
  | uimad (f : Fields)
  /-- UIMIN (R116). -/
  | uimin (f : Fields)
  /-- UIMAX (R116). -/
  | uimax (f : Fields)
  /-- UIABS (R116). -/
  | uiabs (f : Fields)
  /-- UIDIV (R116). -/
  | uidiv (f : Fields)
  /-- UIREM (R116). -/
  | uirem (f : Fields)
  /-- UISAD (R116). -/
  | uisad (f : Fields)
  /-- UIDP4 (R116). -/
  | uidp4 (f : Fields)
  /-- UISUM (R116). -/
  | uisum (f : Fields)
  /-- UIMADW (R116). -/
  | uimadw (f : Fields)
  /-- ULEA (R116). -/
  | ulea (f : Fields)
  /-- ULEAS (R116). -/
  | uleas (f : Fields)
  /-- UAND (R116). -/
  | uand (f : Fields)
  /-- UOR (R116). -/
  | uor (f : Fields)
  /-- UXOR (R116). -/
  | uxor (f : Fields)
  /-- ULUT3 (R116). -/
  | ulut3 (f : Fields)
  /-- USHL (R116). -/
  | ushl (f : Fields)
  /-- USHR (R116). -/
  | ushr (f : Fields)
  /-- USAR (R116). -/
  | usar (f : Fields)
  /-- UROT (R116). -/
  | urot (f : Fields)
  /-- UCATSH (R116). -/
  | ucatsh (f : Fields)
  /-- UBXTR (R116). -/
  | ubxtr (f : Fields)
  /-- UBINS (R116). -/
  | ubins (f : Fields)
  /-- UONES (R116). -/
  | uones (f : Fields)
  /-- UCLZ (R116). -/
  | uclz (f : Fields)
  /-- UBITREV (R116). -/
  | ubitrev (f : Fields)
  /-- UBYSEL (R116). -/
  | ubysel (f : Fields)
  /-- UICMP (R116). -/
  | uicmp (f : Fields)
  /-- UFCMP (R116). -/
  | ufcmp (f : Fields)
  /-- UPLOG (R124). -/
  | uplog (f : Fields)
  /-- UPTOX (R124). -/
  | uptox (f : Fields)
  /-- UXTOP (R124). -/
  | uxtop (f : Fields)
  /-- UMOV (R116). -/
  | umov (f : Fields)
  /-- USEL (R116). -/
  | usel (f : Fields)
  /-- UREADL (R140). -/
  | ureadl (f : Fields)
  /-- UFADD (R116). -/
  | ufadd (f : Fields)
  /-- UFMUL (R116). -/
  | ufmul (f : Fields)
  /-- UFFMA (R116). -/
  | uffma (f : Fields)
  /-- UFMIN (R116). -/
  | ufmin (f : Fields)
  /-- UFMAX (R116). -/
  | ufmax (f : Fields)
  /-- UCVTI2F (R131). -/
  | ucvti2f (f : Fields)
  /-- UCVTF2I (R131). -/
  | ucvtf2i (f : Fields)
  /-- ULD (R150). -/
  | uld (w : UWidth) (f : Fields)
  /-- ULDA (R152). -/
  | ulda (w : Width2) (f : Fields)
  /-- UST (R153). -/
  | ust (w : UWidth) (m : StoreMode) (f : Fields)
  /-- USTR (R153). -/
  | ustr (w : Width2) (m : StoreMode) (f : Fields)
  /-- UATOM (R158). -/
  | uatom (op : AtomOp) (m : StoreMode) (f : Fields)
  /-- URED (R160). -/
  | ured (op : RedOp) (m : StoreMode) (f : Fields)
  /-- URLD (R161). -/
  | urld (w : Width2) (f : Fields)
  /-- URST (R161). -/
  | urst (w : Width2) (f : Fields)
  /-- UFFENCE (R163). -/
  | uffence (f : Fields)
  /-- UFENCE (R164). -/
  | ufence (f : Fields)
  /-- UFENCEX (R165). -/
  | ufencex (f : Fields)
  /-- UDRAIN (R166). -/
  | udrain (f : Fields)
  /-- UWWAIT (R177). -/
  | uwwait (f : Fields)
  /-- UCBPOST (R178). -/
  | ucbpost (f : Fields)
  /-- UCBWAIT (R178). -/
  | ucbwait (f : Fields)
  /-- UTRAP (R211). -/
  | utrap (f : Fields)
  /-- UBKPT (R211). -/
  | ubkpt (f : Fields)
  /-- UYIELD (R211). -/
  | uyield (f : Fields)
  /-- TCOPY (R187). -/
  | tcopy (f : Fields)
  /-- TCLOSE (R188). -/
  | tclose (f : Fields)
  /-- TWAIT (R188). -/
  | twait (f : Fields)
  /-- LEASE (R200). -/
  | lease (f : Fields)
  /-- LEASEM (R200). -/
  | leasem (f : Fields)
  /-- LREL (R200). -/
  | lrel (f : Fields)
  /-- ENQ (R202). -/
  | enq (f : Fields)
  /-- ERET (R212). -/
  | eret (f : Fields)
  /-- CRD (R213). -/
  | crd (f : Fields)
  /-- CWR (R213). -/
  | cwr (f : Fields)
  /-- HALT (R214). -/
  | halt (f : Fields)
  /-- MMA (R196). -/
  | mma (f : Fields)
  /-- MMAG (R196). -/
  | mmag (f : Fields)
  /-- MZERO (R199). -/
  | mzero (f : Fields)
  /-- MMOV_DRAIN (R199). -/
  | mmovDrain (f : Fields)
  /-- MMOV_COPY (R199). -/
  | mmovCopy (f : Fields)
  /-- MLD (R199). -/
  | mld (f : Fields)
  /-- MST (R199). -/
  | mst (f : Fields)
  /-- CREQ (R203). -/
  | creq (f : Fields)
  /-- CAWAIT (R204). -/
  | cawait (f : Fields)
  /-- CUSE (R205). -/
  | cuse (f : Fields)
  /-- CREL (R205). -/
  | crel (f : Fields)
  /-- PLDRAIN (R206). -/
  | pldrain (f : Fields)
  /-- PLJOIN (R206). -/
  | pljoin (f : Fields)
  /-- WSEND (R207). -/
  | wsend (f : Fields)
  /-- WRECV (R207). -/
  | wrecv (f : Fields)
  /-- WPOLL (R207). -/
  | wpoll (f : Fields)
  /-- TMR_READ (R208). -/
  | tmrRead (f : Fields)
  /-- TMR_SET (R208). -/
  | tmrSet (f : Fields)
  /-- TMR_WAIT (R208). -/
  | tmrWait (f : Fields)
  /-- TMR_CANCEL (R388). -/
  | tmrCancel (f : Fields)
  /-- EVTAKE (R209). -/
  | evtake (f : Fields)
  /-- EVPOST (R209). -/
  | evpost (f : Fields)
  /-- QLOCK (R209). -/
  | qlock (f : Fields)
  /-- QFREE (R209). -/
  | qfree (f : Fields)
  /-- ISSUE_SELECT (R243): Each cycle each partition picks groups and paths to issue on its two pipes. -/
  | issueSelect (part : Nat)
  /-- FIXED_RESULT_WRITEBACK (R63): A fixed-latency result is written to its register and latch at issue plus L. -/
  | fixedResultWriteback (op : Nat)
  /-- VARIABLE_OP_COMPLETE (R33): A variable-latency operation completes and its flag count falls. -/
  | variableOpComplete (op : Nat)
  /-- BOOST_DECAY (R234): After 4,096 instructions without an event the boost falls by 64. -/
  | boostDecay (group : Nat)
  /-- ACTIVATION_EVALUATE (R239): Every 256 cycles the activation controllers activate inactive groups. -/
  | activationEvaluate (core : Nat)
  /-- LEASE_OVERRUN_DEACTIVATE (R238): When S exceeds B, the youngest unprotected active groups are deactivated. -/
  | leaseOverrunDeactivate (core : Nat)
  /-- PROTECTION_EXPIRY (R240): A forced group's 10 us protection ends. -/
  | protectionExpiry (group : Nat)
  /-- DORMANT_ENTRY (R237): A group waiting 1,024 cycles becomes dormant. -/
  | dormantEntry (group : Nat)
  /-- WWAIT_REREAD (R177): An unsatisfied word-wait lane rereads its word on a visible store or every 1 us. -/
  | wwaitReread (op : Nat)
  /-- WAIT_SWAP_CHECK (R226): Every 1 us a partition chooses a waiting team for the wait-swap. -/
  | waitSwapCheck (part : Nat)
  /-- WAIT_SWAP_SAVE_END (R227): A team's save ends and its slots go to queued teams. -/
  | waitSwapSaveEnd (team : Nat)
  /-- TEAM_RETURN (R228): A swapped team whose condition holds is placed again on its core. -/
  | teamReturn (team : Nat)
  /-- TEAM_PLACE (R229): A cluster distributor places a team on a core. -/
  | teamPlace (cluster : Nat)
  /-- DISTRIBUTOR_STEAL (R230): An idle distributor takes half of a sibling's remaining range. -/
  | distributorSteal (cluster : Nat)
  /-- TEAM_END (R225): A team ends: groups stop, slots release, the completion is counted. -/
  | teamEnd (team : Nat) (code : BitVec 16)
  /-- GROUP_SLOT_RELEASE (R43): A group whose lanes have all exited releases its slot once its flags are set. -/
  | groupSlotRelease (group : Nat)
  /-- RENNET_RECORD_ACCEPT (R201): The Rennet accepts a held record once its store has room. -/
  | rennetRecordAccept (die : Nat)
  /-- RENNET_BATCH_TIMEOUT (R231): 10 us after a node's last acceptance, its partial batch is launched. -/
  | rennetBatchTimeout (die : Nat) (grid : Nat) (node : Nat)
  /-- RENNET_STALL_END (R280): A graph stalled 1 s on a full store ends with error 0x0024. -/
  | rennetStallEnd (grid : Nat)
  /-- COPY_PIECE_DELIVER (R189): A copy piece is written at its destination and counted in its barrier. -/
  | copyPieceDeliver (copy : Nat)
  /-- CLB_COPY_TEST (R331): A copy tests its circuit-live barrier before its first source read. -/
  | clbCopyTest (copy : Nat)
  /-- MACRO_STEP (R196): The Churn sequencer issues one chunk step once its operands are present. -/
  | macroStep (cluster : Nat)
  /-- MACRO_COMPLETE (R196): A macro-operation completes 24 cycles after its last step and frees its tiles. -/
  | macroComplete (cluster : Nat)
  /-- SCALE_CACHE_MISS_READ (R307): A scale-cache miss read returns its byte to the waiting step. -/
  | scaleCacheMissRead (cluster : Nat) (tid : Nat) (block : Nat)
  /-- PAGE_WALK (R300): A translation unit walk completes with an address or a fault. -/
  | pageWalk (who : WalkFor)
  /-- FAULT_RESOLUTION (R389): When a handler launch completes, firmware applies each record's RESOLVE. -/
  | faultResolution (ctx : Nat)
  /-- ACK_LOST_TIMEOUT (R156): 50 us without completion raises the acknowledgement-lost fault. -/
  | ackLostTimeout (op : Nat) (state : AckState)
  /-- HOME_ATOMIC_APPLY (R158): An atomic reaches its home's write queue and is applied. -/
  | homeAtomicApply (op : Nat)
  /-- RED_ENTRY_DRAIN (R160): A merged reduction entry drains to the array with one rounding. -/
  | redEntryDrain (pa : PAddr)
  /-- XEND_ACK_TIMEOUT (R261): A commit still missing acknowledgements 50 us after validation aborts with code 2. -/
  | xendAckTimeout (op : Nat)
  /-- REMOTE_REQUEST_AT_PEER (R161): A remote operation is translated and applied at the peer, which acknowledges. -/
  | remoteRequestAtPeer (op : Nat) (accept : Bool)
  /-- FABRIC_TIMEOUT (R323): 10 ms without an acknowledgement ends the remote operation's team or copy. -/
  | fabricTimeout (who : RemoteWork)
  /-- RESIDENT_CHOICE (R290): Firmware rechooses the partition's resident context. -/
  | residentChoice (part : BitVec 64)
  /-- CROCK_EXCHANGE (R294): Resident and standby images swap through the Crock. -/
  | crockExchange (part : BitVec 64)
  /-- IMAGE_SPILL (R294): The standby image is written to its save area. -/
  | imageSpill (part : BitVec 64)
  /-- IMAGE_FILL (R294): A context image is filled from its save area into the Crock. -/
  | imageFill (part : BitVec 64) (ctx : Nat)
  /-- CONTEXT_DUE (R291): 3 ms after it left residency a context with work becomes due. -/
  | contextDue (ctx : Nat)
  /-- QUANTUM_EXPIRY (R291): A due context's 1 ms quantum ends. -/
  | quantumExpiry (part : BitVec 64)
  /-- CROCK_UNCORRECTABLE (R296): An uncorrectable error in an image loses that context. -/
  | crockUncorrectable (hit : CrockHit)
  /-- PAGE_MIGRATION (R303): Firmware freezes, drains, copies and forwards a 256 KiB page. -/
  | pageMigration (ctx : Nat) (va : VAddr) (dst : PAddr)
  /-- MIGRATION_ABANDON (R304): A drain not finished in 50 us abandons the migration. -/
  | migrationAbandon (ctx : Nat) (va : VAddr)
  /-- MAPPING_CHANGE (R301): Firmware writes an entry, invalidates TLUs and drops lines. -/
  | mappingChange (ctx : Nat) (va : VAddr) (level : Nat) (entry : DWord)
  /-- HOST_BAR2_ACCESS (R305): A host access through a host window is translated and served at the home. -/
  | hostBar2Access (ctx : Nat) (offset : Nat) (acc : HostAccess)
  /-- HOST_WINDOW_WRITE (R253): A host write to the coherent window becomes visible at one point. -/
  | hostWindowWrite (offset : Nat) (bytes : List Byte)
  /-- HOST_SNOOP_TIMEOUT (R253): A host silent 40 us on a snoop is taken as acknowledged and the link errs. -/
  | hostSnoopTimeout
  /-- CXL_UNCORRECTABLE_ERROR (R378): The host link enters its error state. -/
  | cxlUncorrectableError
  /-- DOORBELL (R267): A QWPTR write announces packets and posts a doorbell event. -/
  | doorbell (queue : Nat) (wptr : DWord)
  /-- QCTL_WRITE (R268): A QCTL write enables or disables a queue and sets its fields. -/
  | qctlWrite (queue : Nat) (value : Word)
  /-- REGISTER_WRITE (R6): A write to a device register with no row of its own. -/
  | registerWrite (offset : Nat) (size : Nat) (value : DWord)
  /-- ICW_WRITE (R236): A write to the issue control word sets LBUDGET and CHK. -/
  | icwWrite (ctx : Nat) (value : Word)
  /-- PACKET_DISPATCH (R269): The front end reads, checks and dispatches the next ready packet. -/
  | packetDispatch
  /-- NOP_PACKET (R270): A NOP packet completes at dispatch. -/
  | nopPacket (queue : Nat)
  /-- LAUNCH_PACKET (R271): A grid launch loads its groups and hands teams to the distributors. -/
  | launchPacket (queue : Nat)
  /-- GRAPH_PACKET (R278): A work-graph launch starts its seed team. -/
  | graphPacket (queue : Nat)
  /-- SCRIPT_PACKET (R333): A circuit script starts on the circuit processor. -/
  | scriptPacket (queue : Nat)
  /-- WAIT_PACKET (R282): A WAIT packet holds its queue until a timeline reaches a threshold. -/
  | waitPacket (queue : Nat)
  /-- FLUSH_PACKET (R284): A FLUSH packet writes back and invalidates a range. -/
  | flushPacket (queue : Nat)
  /-- RESERVED_PACKET (R270): A packet of reserved TYPE completes with error 0x0010. -/
  | reservedPacket (queue : Nat)
  /-- PHASE_CLEANING (R284): A phase change cleans L1s and slices before dispatch. -/
  | phaseCleaning (queue : Nat)
  /-- SCRIPT_HELD_START (R333): When a script ends, a held SCRIPT packet starts. -/
  | scriptHeldStart
  /-- CMC_TRAP (R368): A command-core trap frees its locks, reposts its event and restarts it. -/
  | cmcTrap (core : Nat)
  /-- LINK_DATA_FLIT (R342): A data flit is received, delivered, discarded or answered with a NAK. -/
  | linkDataFlit (link : Nat) (dir : Bool) (flit : Flit)
  /-- LINK_IDLE_FLIT (R342): An idle flit carries an ACK that frees replay entries. -/
  | linkIdleFlit (link : Nat) (dir : Bool) (flit : Flit)
  /-- LINK_NAK (R342): A NAK starts a resend round. -/
  | linkNak (link : Nat) (dir : Bool) (flit : Flit)
  /-- LINK_STATE_FLIT (R344): A link-state flit reports the last SEQ delivered around a down link. -/
  | linkStateFlit (link : Nat) (dir : Bool) (flit : Flit)
  /-- LINK_RESEND_TIMEOUT (R342): 2 us without an ACK starts a resend round. -/
  | linkResendTimeout (link : Nat) (dir : Bool)
  /-- LINK_RETRAIN (R344): Repeated failures stop traffic and retrain the link. -/
  | linkRetrain (link : Nat)
  /-- LINK_RETRAIN_END (R344): The link resumes on 64 or 32 lanes, or goes down. -/
  | linkRetrainEnd (link : Nat) (good : BitVec 64)
  /-- LINK_DOWN_RETEST (R344): Every 1 ms a down link is tested again. -/
  | linkDownRetest (link : Nat) (good : BitVec 64)
  /-- LKCRC_READ (R345): Reading LKCRC returns and clears the discarded-flit count. -/
  | lkcrcRead (link : Nat)
  /-- FABRIC_FLIT_RECEIVE (R322): A fabric flit is delivered in sequence order per peer. -/
  | fabricFlitReceive (port : Nat) (seq : Word) (auth : FlitSeal) (payload : List PeerReq)
  /-- FABRIC_FLIT_ACK (R323): A per-peer acknowledgement frees sent flits. -/
  | fabricFlitAck (peer : Nat) (seq : Word)
  /-- FABRIC_RESEND_TIMEOUT (R323): A flit unacknowledged for 20 us is resent on another port. -/
  | fabricResendTimeout (peer : Nat) (seq : Word)
  /-- STRIPE_RECOMPUTE (R322): A stripe is recomputed after a port enters or leaves live. -/
  | stripeRecompute (peer : Nat)
  /-- CONNECTED (R329): The switch reports a circuit held; the port leaves dark. -/
  | connected (msg : SwitchMsg)
  /-- REFUSED (R329): The switch refuses a request; the ticket is refused. -/
  | refused (msg : SwitchMsg)
  /-- RELEASED (R361): The switch frees a circuit; CREL completes. -/
  | released (msg : SwitchMsg)
  /-- BROKEN (R329): The switch reports a path broken; the port goes dark with cause 0x09. -/
  | broken (msg : SwitchMsg)
  /-- HELLO (R329): A liveness message from a switch agent is received. -/
  | hello (msg : SwitchMsg)
  /-- HELLO_SEND (R329): Every 100 ms a HELLO is sent. -/
  | helloSend
  /-- SWITCH_SILENT (R330): Three missed HELLOs mark the switch silent. -/
  | switchSilent (plane : Nat)
  /-- CONNECT_RETRY (R330): An unanswered CONNECT or RELEASE is resent every 10 ms. -/
  | connectRetry (slot : Nat)
  /-- RELEASE_TIMEOUT (R361): The switch frees a circuit 10 ms after the first RELEASE. -/
  | releaseTimeout (slot : Nat)
  /-- PORT_SETTLED (R312): Lasers and modulators settle and the port enters locking. -/
  | portSettled (port : Nat)
  /-- PORT_TRAINED (R312): Lock and training complete and the port enters trained. -/
  | portTrained (port : Nat) (usable : LanesUp)
  /-- PORT_LOCK_TIMEOUT (R362): 2 ms in locking takes the port dark with cause 0x02 or 0x03. -/
  | portLockTimeout (port : Nat) (unlocked : BitVec 4)
  /-- KEY_AGREEMENT_COMPLETE (R334): Keys are agreed and the port enters live or gated. -/
  | keyAgreementComplete (keys : KeysEnd)
  /-- KEY_AGREEMENT_TIMEOUT (R335): A key agreement failing or exceeding 1 ms takes the port dark. -/
  | keyAgreementTimeout (who : KeyFor)
  /-- REKEY (R335): Fresh keys are agreed after 2^32 frames or 1 hour. -/
  | rekey (who : KeyFor)
  /-- PEER_LOST (R313): No frame for 100 us takes a live port dark with cause 0x08. -/
  | peerLost (port : Nat)
  /-- AUTH_FAILURE_DARK (R313): Sixteen consecutive authentication failures take the port dark. -/
  | authFailureDark (port : Nat)
  /-- LASER_MODULE_REMOVE (R321): A module removal darkens its ports and breaks their tickets. -/
  | laserModuleRemove (module : Nat)
  /-- LASER_MODULE_INSERT (R320): An inserted module is identified and accepted or refused. -/
  | laserModuleInsert (module : Nat) (channels : Nat)
  /-- MODULE_MONITOR_POLL (R320): Every 10 ms the module monitors are polled. -/
  | moduleMonitorPoll (module : Nat) (bias : List (BitVec 16)) (moduleTemp : Int)
  /-- LANE_RATE_STEP_DOWN (R316): A lane leaving its band steps down and retrains. -/
  | laneRateStepDown (port : Nat) (lane : Nat) (temp : BitVec 16)
  /-- LANE_RATE_STEP_UP (R316): A lane 10 ms inside a higher band steps up one rate. -/
  | laneRateStepUp (port : Nat) (lane : Nat) (temp : BitVec 16)
  /-- LANE_RETIRE (R318): Bias reaching 1.5 x BIAS0 retires the lane. -/
  | laneRetire (port : Nat) (lane : Nat)
  /-- LSTAT_RETIRE_WRITE (R317): A W1S write to RETIRE retires a lane. -/
  | lstatRetireWrite (port : Nat) (lane : Nat) (value : Word)
  /-- PCAP_WRITE (R314): PCAP resets every tap's MIN and MAX to CUR. -/
  | pcapWrite (port : Nat) (value : Word)
  /-- TAP_SAMPLE (R319): Every 10 us each tap samples its power. -/
  | tapSample (port : Nat) (lane : Nat) (cpl : BitVec 16) (spl : BitVec 16) (mod : BitVec 16)
  /-- WHEY_FRAME_RECEIVE (R336): A Whey frame is checked, authenticated and delivered, or discarded. -/
  | wheyFrameReceive (frame : WheyFrame)
  /-- WHEY_RETRANSMIT_TIMEOUT (R339): An unacknowledged Whey message is resent with backoff. -/
  | wheyRetransmitTimeout (session : Nat) (seq : Word)
  /-- WHEY_SESSION_TIMEOUT (R339): No acknowledgement for TMO closes the session. -/
  | wheySessionTimeout (session : Nat)
  /-- WHEY_SESSION_OPEN (R338): Firmware opens a session from its record. -/
  | wheySessionOpen (session : Nat) (record : List Byte)
  /-- CAWAIT_TIMEOUT (R204): A CAWAIT limit expires and returns code 1. -/
  | cawaitTimeout (op : Nat)
  /-- TIMER_EXPIRY (R208): An armed timer expires and ends its waits. -/
  | timerExpiry (ctx : Nat) (timer : Nat)
  /-- PATROL_SCRUB (R367): Scrub reads a line, writes back a correction or poisons it. -/
  | patrolScrub (line : PAddr) (result : ScrubResult)
  /-- UNCORRECTABLE_ERROR (R365): An uncorrectable error drops or poisons the storage it struck. -/
  | uncorrectableError (hit : ErrorSite)
  /-- RASCE_READ (R367): Reading RASCE returns and clears the corrected-error count. -/
  | rasceRead (base : Nat)
  /-- RASUE_READ (R367): Reading RASUE returns and clears the uncorrectable count. -/
  | rasueRead (base : Nat)
  /-- POWER_SAMPLE (R376): Every 100 us power and temperature are measured and the clock steps. -/
  | powerSample (pwr : BitVec 16) (tcp : BitVec 8)
  /-- THERMAL_HALT (R376): A cold plate 15 C over its limit for 100 ms halts every compute die. -/
  | thermalHalt
  /-- THERMAL_HALT_END (R376): 1 s at or below TLIMIT resumes the dies. -/
  | thermalHaltEnd
  /-- PWRCTL_WRITE (R376): A PWRCTL write sets the power and temperature limits. -/
  | pwrctlWrite (value : Word)
  /-- PACKAGE_START (R369): The package runs its start steps and updates the boot-step record. -/
  | packageStart (pass : BitVec 16) (cream : List Nat)
  /-- START_STEP_TIMEOUT (R369): A start step exceeds its limit and takes its alternative or fails. -/
  | startStepTimeout (reason : BitVec 16) (pass : BitVec 16)
  /-- HEARTBEAT_TIMEOUT (R374): A missed heartbeat restores the old firmware slot. -/
  | heartbeatTimeout
  /-- HBEAT_WRITE (R374): The new image writes HBEAT and dispatch resumes. -/
  | hbeatWrite (value : Word)
  /-- ROLLBACK_CLEAR (R374): A W1C write clears ROLLBACK. -/
  | rollbackClear (value : Word)
  /-- CONTEXT_CREATE (R287): Management creates a context, generating its key. -/
  | contextCreate (ctx : Nat) (record : List Byte) (res : ContextResources)
  /-- CONTEXT_DESTROY (R306): Management destroys a context and zeroises its key slot. -/
  | contextDestroy (ctx : Nat)
  /-- FABRIC_BIND (R325): Sets or clears a context's binding to a peer context. -/
  | fabricBind (ctx : Nat) (peer : Nat) (peerCtx : Option Nat)
  /-- ROSTER_SET (R377): Sets the pod or operator roster. -/
  | rosterSet (pod : Bool) (keys : List (List Byte))
  /-- FIRMWARE_STAGE (R377): Writes an image to the idle firmware slot. -/
  | firmwareStage (image : FirmwareImage)
  /-- FIRMWARE_UPDATE (R372): Quiesces dispatch, verifies and hands over to the new image. -/
  | firmwareUpdate
  /-- RECORD_CLEAR (R377): Clears ALT, FAILS and STATE of the boot-step record. -/
  | recordClear
  /-- RAS_READ (R377): Reads the RAS log registers. -/
  | rasRead (base : Nat)
  /-- POWER_SET (R377): Writes PWRCTL through management. -/
  | powerSet (value : Word)
  /-- HOST_LINK_RESET (R378): Retrains the host link and leaves its error state. -/
  | hostLinkReset
  /-- DEBUG_ATTACH (R379): Attaches a debugger to a context. -/
  | debugAttach (requester : Nat) (ctx : Nat)
  /-- DEBUG_DETACH (R379): Detaches the debugger and resumes what it stopped. -/
  | debugDetach (requester : Nat) (ctx : Nat)
  /-- DEBUG_HALT (R380): Halts a compute die. -/
  | debugHalt (requester : Nat) (die : Nat)
  /-- DEBUG_RESUME (R381): Resumes a stopped group or a halted die. -/
  | debugResume (requester : Nat) (target : DebugTarget)
  /-- DEBUG_READ (R382): Reads a stopped group's state or memory. -/
  | debugRead (requester : Nat) (group : Nat) (obj : DebugObj)
  /-- DEBUG_WRITE (R382): Writes a stopped group's state or memory. -/
  | debugWrite (requester : Nat) (group : Nat) (obj : DebugObj) (value : DebugVal)
  /-- SPDM_SESSION_END (R379): The end of the debugger's SPDM session detaches it. -/
  | spdmSessionEnd (requester : Nat)
  /-- GET_VERSION (R375): SPDM version request. -/
  | getVersion (msg : List Byte)
  /-- GET_CAPABILITIES (R375): SPDM capabilities request. -/
  | getCapabilities (msg : List Byte)
  /-- NEGOTIATE_ALGORITHMS (R375): SPDM algorithm negotiation. -/
  | negotiateAlgorithms (msg : List Byte)
  /-- GET_DIGESTS (R375): SPDM certificate digest request. -/
  | getDigests (msg : List Byte)
  /-- GET_CERTIFICATE (R375): SPDM certificate request. -/
  | getCertificate (msg : List Byte)
  /-- CHALLENGE (R375): SPDM challenge, answered with the identity key. -/
  | challenge (msg : List Byte)
  /-- GET_MEASUREMENTS (R375): SPDM signed measurement report. -/
  | getMeasurements (msg : List Byte)
  /-- KEY_EXCHANGE (R375): SPDM secure-session key exchange. -/
  | keyExchange (msg : List Byte)
  /-- FINISH (R375): SPDM session finish. -/
  | finish (msg : FinishMsg)
  /-- HOST_WINDOW_READ (R253): The host reads a line of the coherent window through CXL.cache; the home serves it,
  records the host as a sharer, and delivers poison with EP set. -/
  | hostWindowRead (offset : Nat)
  /-- LASER_CHANNEL_FAILURE (R313): A laser module's channel fails while the module stays in place, so the port it
  feeds loses light and goes dark with cause 0x04. -/
  | laserChannelFailure (port : Nat) (lane : Nat)
  /-- LANE_RETRAIN_END (R316): A lane's retraining after a rate change ends within 200 us, and the lane becomes usable
  again at its new rate. -/
  | laneRetrainEnd (port : Nat) (lane : Nat)
  deriving DecidableEq, Repr

end Sys2Proof
end

