-- ==== Sys2Proof/Machine/Fields.lean ====
section
/-! DEFINITION. What the fields of a word mean: the accessors of MOD (spec/05 R101), the operand classes
(spec/06 R110, spec/07 R141-R144), the facts of each codepoint (spec/05 R103, R104) and the decode checks of
spec/02 R24. -/

namespace Sys2Proof

/-! ## Codes -/

/-- The code of a 32- or 64-bit width within its codepoint row. -/
def Width2.code : Width2 → Nat
  | .b32 => 0
  | .b64 => 1

/-- Codepoint offset of an LD width (spec/05 R103). -/
def LdWidth.code : LdWidth → Nat
  | .b8 => 0
  | .s8 => 1
  | .b16 => 2
  | .s16 => 3
  | .b32 => 4
  | .b64 => 5
  | .b128 => 6

/-- Codepoint offset of an ST width, before the store mode (spec/05 R103). -/
def StWidth.code : StWidth → Nat
  | .b8 => 0
  | .b16 => 1
  | .b32 => 2
  | .b64 => 3
  | .b128 => 4

/-- Codepoint offset of a ULD or UST width (spec/05 R104). -/
def UWidth.code : UWidth → Nat
  | .b32 => 0
  | .b64 => 1
  | .b128 => 2

/-- OP[0] of a store: 0 EF, 1 GA (spec/05 R100). -/
def StoreMode.code : StoreMode → Nat
  | .ef => 0
  | .ga => 1

/-- The operation index of spec/05 R100. -/
def AtomOp.code : AtomOp → Nat
  | .add => 0
  | .min => 1
  | .max => 2
  | .and => 3
  | .or => 4
  | .xor => 5
  | .exch => 6
  | .cas => 7

/-- A RED operation as the ATOM operation of the same index. -/
def RedOp.toAtom : RedOp → AtomOp
  | .add => .add
  | .min => .min
  | .max => .max
  | .and => .and
  | .or => .or
  | .xor => .xor

/-- The operation index of spec/05 R100. -/
def RedOp.code (op : RedOp) : Nat := op.toAtom.code

/-- Bytes of an access width. -/
def Width2.bytes : Width2 → Nat
  | .b32 => 4
  | .b64 => 8

/-- Bytes of an LD width. -/
def LdWidth.bytes : LdWidth → Nat
  | .b8 | .s8 => 1
  | .b16 | .s16 => 2
  | .b32 => 4
  | .b64 => 8
  | .b128 => 16

/-- Bytes of an ST width. -/
def StWidth.bytes : StWidth → Nat
  | .b8 => 1
  | .b16 => 2
  | .b32 => 4
  | .b64 => 8
  | .b128 => 16

/-- Bytes of a ULD or UST width. -/
def UWidth.bytes : UWidth → Nat
  | .b32 => 4
  | .b64 => 8
  | .b128 => 16

/-- The scope a 3-bit field names; codes 6 and 7 are none (spec/05 R101). -/
def Scope.ofCode (n : Nat) : Option Scope :=
  [Scope.group, .team, .cluster, .die, .package, .fabric][n]?

/-- The path a 3-bit field names; codes 6 and 7 are none (spec/05 R101). -/
def AccPath.ofCode (n : Nat) : Option AccPath :=
  [AccPath.l, .p, .c, .g, .x, .h][n]?

/-- The 3-bit code of a path (spec/05 R101, used by the record of spec/08 R215). -/
def AccPath.code : AccPath → Nat
  | .l => 0
  | .p => 1
  | .c => 2
  | .g => 3
  | .x => 4
  | .h => 5

/-- The memory a 3-bit field names; codes 6 and 7 are none (spec/05 R101). -/
def MemKind.ofCode (n : Nat) : Option MemKind :=
  [MemKind.near, .far, .cream, .host, .fabric, .deep][n]?

/-! ## MOD accessors (spec/05 R101) -/

/-- MOD[5:3]. -/
def Fields.modHi (f : Fields) : Nat := (f.mod.extractLsb' 3 3).toNat

/-- MOD[2:0]. -/
def Fields.modLo (f : Fields) : Nat := (f.mod.extractLsb' 0 3).toNat

/-- MOD[5:4]. -/
def Fields.mod54 (f : Fields) : Nat := (f.mod.extractLsb' 4 2).toNat

/-- MOD[4:3]. -/
def Fields.mod43 (f : Fields) : Nat := (f.mod.extractLsb' 3 2).toNat

/-- MOD[3:2]. -/
def Fields.mod32 (f : Fields) : Nat := (f.mod.extractLsb' 2 2).toNat

/-- MOD[1:0]. -/
def Fields.mod10 (f : Fields) : Nat := (f.mod.extractLsb' 0 2).toNat

/-- Bit n of MOD. -/
def Fields.modBit (f : Fields) (n : Nat) : Bool := f.mod.getLsbD n

/-- An integer type code 0-3 (`.s32`, `.b32`, `.s64`, `.b64`): is it 64 bits wide? -/
def intTy64 (n : Nat) : Bool := n == 2 || n == 3

/-- An integer type code 0-3: is it signed? -/
def intTySigned (n : Nat) : Bool := n == 0 || n == 2

/-! ## Operand classes -/

/-- The class an opcode's operand field takes (spec/06 R110, spec/07 R141, R144, R161). A Bool argument `n` says
that the opcode allows the negate-or-invert bit on it (spec/06 R112). -/
inductive OpClass where
  /-- the field must hold 0xC00 (R28) -/
  | unused
  /-- V: a 32-bit source -/
  | v (n : Bool)
  /-- W: a 64-bit source -/
  | w (n : Bool)
  /-- a 128-bit source, a quad of registers -/
  | q4 (n : Bool)
  /-- K: a predicate source -/
  | k
  /-- DV, DW, a quad, DK: destinations -/
  | dv | dw | dq | dk
  /-- the base of a memory operand -/
  | base
  /-- a space register -/
  | space
  /-- the peer register of a remote operation -/
  | peer
  /-- a uniform register named from the lane pipe (MOVQ) -/
  | uq (wide : Bool)
  /-- a lane register named from the uniform pipe (UREADL) -/
  | laneSide
  /-- a register source without latches (PERM and its kin) -/
  | permA (wide : Bool) (n : Bool)
  /-- the index register of LDX and STX -/
  | ldxA
  /-- a rejoin mask -/
  | jreg
  /-- `imm` or 0xC00 (CRD and CWR) -/
  | immOr
  deriving DecidableEq, Repr

/-- Sources of layout IA: the type's width. -/
def iaSrc (f : Fields) : OpClass := if intTy64 f.mod43 then .w true else .v true
/-- Destination of layout IA. -/
def iaDst (f : Fields) : OpClass := if intTy64 f.mod43 then .dw else .dv
/-- Sources of layout LG: MOD[3] is the width. -/
def lgSrc (f : Fields) : OpClass := if f.modBit 3 then .w true else .v true
/-- Destination of layout LG. -/
def lgDst (f : Fields) : OpClass := if f.modBit 3 then .dw else .dv
/-- Sources of ICMP: MOD[1:0] is the type. -/
def cpSrc (f : Fields) : OpClass := if intTy64 f.mod10 then .w true else .v true
/-- MOD[3] of layout MV. -/
def mv64 (f : Fields) : Bool := f.modBit 3
/-- Sources of layout MV. -/
def mvSrc (f : Fields) : OpClass := if mv64 f then .w true else .v true
/-- Destination of layout MV. -/
def mvDst (f : Fields) : OpClass := if mv64 f then .dw else .dv
/-- Integer source of layout CV, MOD[3:2]; negation is allowed on it (R112). -/
def cvIntSrc (f : Fields) : OpClass := if intTy64 f.mod32 then .w true else .v true
/-- Integer destination of layout CV, MOD[5:4]. -/
def cvIntDst (f : Fields) : OpClass := if intTy64 f.mod54 then .dw else .dv
/-- Float source of layout CV; R112 lists no negation for it. -/
def cvFloatSrc (f : Fields) : OpClass := if f.mod32 == 3 then .w false else .v false
/-- Float destination of layout CV. -/
def cvFloatDst (f : Fields) : OpClass := if f.mod54 == 3 then .dw else .dv
/-- Sub-operation 1 of PERM and its kin and MATCH is `.b64` (spec/06 R135). -/
def xl64 (f : Fields) : Bool := f.modHi == 1
/-- Destination of PERM and its kin and MATCH. -/
def xlDst (f : Fields) : OpClass := if xl64 f then .dw else .dv
/-- Destination by a 32- or 64-bit width. -/
def w2Dst (w : Width2) : OpClass := if w = .b64 then .dw else .dv
/-- Store data by a 32- or 64-bit width. -/
def w2Src (w : Width2) : OpClass := if w = .b64 then .w true else .v true
/-- Destination of LD. -/
def ldDst : LdWidth → OpClass
  | .b64 => .dw
  | .b128 => .dq
  | .b8 | .s8 | .b16 | .s16 | .b32 => .dv
/-- Data of ST. -/
def stSrc : StWidth → OpClass
  | .b64 => .w true
  | .b128 => .q4 true
  | .b8 | .b16 | .b32 => .v true
/-- Destination of ULD. -/
def uwDst : UWidth → OpClass
  | .b64 => .dw
  | .b128 => .dq
  | .b32 => .dv
/-- Data of UST. -/
def uwSrc : UWidth → OpClass
  | .b64 => .w true
  | .b128 => .q4 true
  | .b32 => .v true
/-- An AT type code 0-5: is it 64 bits wide? (`.b64`, `.s64`, `.f64`) -/
def atTy64 (n : Nat) : Bool := n == 2 || n == 3 || n == 5
/-- Destination of an atomic. -/
def atDst (f : Fields) : OpClass := if atTy64 f.modLo then .dw else .dv
/-- Operand of an atomic; `.cas` takes a pair or a quad (spec/07 R158). -/
def atSrc (op : AtomOp) (f : Fields) : OpClass :=
  match op, atTy64 f.modLo with
  | .cas, true => .q4 true
  | .cas, false => .w true
  | _, true => .w true
  | _, false => .v true
/-- MMA and MMAG read memory operands only in sub-operation 1, `.bs` (spec/08 R196). -/
def bsBase (f : Fields) : OpClass := if f.modHi == 1 then .base else .unused
/-- The space field of `.bs`. -/
def bsSpace (f : Fields) : OpClass := if f.modHi == 1 then .space else .unused
/-- The format word of `.bs`. -/
def bsFmt (f : Fields) : OpClass := if f.modHi == 1 then .v false else .unused
/-- Operand of RATOM: R112 lists no sign flip for its `.add`, `.min` and `.max` of a floating type. -/
def ratSrc (op : AtomOp) (f : Fields) : OpClass :=
  match op, f.modLo with
  | .add, 4 | .min, 4 | .max, 4 => .v false
  | .add, 5 | .min, 5 | .max, 5 => .w false
  | _, _ => atSrc op f

/-! ## The facts of each codepoint -/

/-- The modifier layouts of spec/05 R101. -/
inductive Layout where
  | z | ia | sh | lg | mv | cp | pl | fa | da | sp | cv | d8 | hp | xl | lm | at | fn | sy | en
  deriving DecidableEq, Repr

/-- The instruction classes of spec/05 R103. -/
inductive Klass where
  | compute | memory | atomic | synchronisation | engine | system
  deriving DecidableEq, Repr

/-- The engines that fetch words (spec/05 R106). -/
inductive EngineKind where
  | partition | churn | circuit | command
  deriving DecidableEq, Repr

/-- What spec/05 R103 and R104 give a codepoint: pipe (true is the uniform pipe), OP, layout, the classes of D, A, B,
C, class, and fixed latency (0 for a variable one); and the word's fields. -/
structure Info where
  fields  : Fields
  uniform : Bool
  op      : Nat
  layout  : Layout
  dCls    : OpClass
  aCls    : OpClass
  bCls    : OpClass
  cCls    : OpClass
  klass   : Klass
  latency : Nat
  deriving DecidableEq, Repr

/-- The facts of the word an instruction stands for; the other agents' steps have no word. -/
def Instr.info : Instr → Option Info
  | .nop f => some ⟨f, false, 0x1, .z, .unused, .unused, .unused, .unused, .compute, 1⟩
  | .iadd f => some ⟨f, false, 0x10, .ia, (iaDst f), (iaSrc f), (iaSrc f), .unused, .compute, 4⟩
  | .isub f => some ⟨f, false, 0x11, .ia, (iaDst f), (iaSrc f), (iaSrc f), .unused, .compute, 4⟩
  | .imul f => some ⟨f, false, 0x12, .ia, (iaDst f), (iaSrc f), (iaSrc f), .unused, .compute, 6⟩
  | .imulhi f => some ⟨f, false, 0x13, .ia, (iaDst f), (iaSrc f), (iaSrc f), .unused, .compute, 6⟩
  | .imad f => some ⟨f, false, 0x14, .ia, (iaDst f), (iaSrc f), (iaSrc f), (iaSrc f), .compute, 6⟩
  | .imin f => some ⟨f, false, 0x15, .ia, (iaDst f), (iaSrc f), (iaSrc f), .unused, .compute, 4⟩
  | .imax f => some ⟨f, false, 0x16, .ia, (iaDst f), (iaSrc f), (iaSrc f), .unused, .compute, 4⟩
  | .iabs f => some ⟨f, false, 0x17, .ia, (iaDst f), (iaSrc f), .unused, .unused, .compute, 4⟩
  | .idiv f => some ⟨f, false, 0x18, .ia, (iaDst f), (iaSrc f), (iaSrc f), .unused, .compute, 24⟩
  | .irem f => some ⟨f, false, 0x19, .ia, (iaDst f), (iaSrc f), (iaSrc f), .unused, .compute, 24⟩
  | .isad f => some ⟨f, false, 0x1a, .ia, (iaDst f), (iaSrc f), (iaSrc f), (iaSrc f), .compute, 4⟩
  | .idp4 f => some ⟨f, false, 0x1b, .ia, (iaDst f), (iaSrc f), (iaSrc f), (iaSrc f), .compute, 6⟩
  | .isum f => some ⟨f, false, 0x1c, .ia, (iaDst f), (iaSrc f), (iaSrc f), (iaSrc f), .compute, 4⟩
  | .imadw f => some ⟨f, false, 0x1d, .ia, .dw, (.v true), (.v true), (.w true), .compute, 6⟩
  | .lea f => some ⟨f, false, 0x1e, .sh, .dw, (.w false), (.v true), .unused, .compute, 4⟩
  | .leas f => some ⟨f, false, 0x1f, .sh, .dw, (.w false), (.v true), .unused, .compute, 4⟩
  | .and f => some ⟨f, false, 0x20, .lg, (lgDst f), (lgSrc f), (lgSrc f), .unused, .compute, 4⟩
  | .or f => some ⟨f, false, 0x21, .lg, (lgDst f), (lgSrc f), (lgSrc f), .unused, .compute, 4⟩
  | .xor f => some ⟨f, false, 0x22, .lg, (lgDst f), (lgSrc f), (lgSrc f), .unused, .compute, 4⟩
  | .lut3 f => some ⟨f, false, 0x23, .lg, (lgDst f), (lgSrc f), (lgSrc f), (lgSrc f), .compute, 4⟩
  | .shl f => some ⟨f, false, 0x24, .lg, (lgDst f), (lgSrc f), (.v true), .unused, .compute, 4⟩
  | .shr f => some ⟨f, false, 0x25, .lg, (lgDst f), (lgSrc f), (.v true), .unused, .compute, 4⟩
  | .sar f => some ⟨f, false, 0x26, .lg, (lgDst f), (lgSrc f), (.v true), .unused, .compute, 4⟩
  | .rot f => some ⟨f, false, 0x27, .lg, (lgDst f), (lgSrc f), (.v true), .unused, .compute, 4⟩
  | .catsh f => some ⟨f, false, 0x28, .lg, (lgDst f), (lgSrc f), (lgSrc f), (.v true), .compute, 4⟩
  | .bxtr f => some ⟨f, false, 0x29, .lg, (lgDst f), (lgSrc f), (.v true), .unused, .compute, 4⟩
  | .bins f => some ⟨f, false, 0x2a, .lg, (lgDst f), (lgSrc f), (lgSrc f), (.v true), .compute, 4⟩
  | .ones f => some ⟨f, false, 0x2b, .lg, .dv, (lgSrc f), .unused, .unused, .compute, 4⟩
  | .clz f => some ⟨f, false, 0x2c, .lg, .dv, (lgSrc f), .unused, .unused, .compute, 4⟩
  | .bitrev f => some ⟨f, false, 0x2d, .lg, (lgDst f), (lgSrc f), .unused, .unused, .compute, 4⟩
  | .bysel f => some ⟨f, false, 0x2e, .lg, .dv, (.v true), (.v true), (.v true), .compute, 4⟩
  | .icmp f => some ⟨f, false, 0x30, .cp, .dk, (cpSrc f), (cpSrc f), .unused, .compute, 4⟩
  | .fcmp f => some ⟨f, false, 0x31, .cp, .dk, (.v true), (.v true), .unused, .compute, 4⟩
  | .dcmp f => some ⟨f, false, 0x32, .cp, .dk, (.w true), (.w true), .unused, .compute, 8⟩
  | .d8cmp f => some ⟨f, false, 0x33, .cp, .dk, (.v true), (.v true), .unused, .compute, 4⟩
  | .plog f => some ⟨f, false, 0x34, .pl, .dk, .k, .k, .unused, .compute, 4⟩
  | .ptox f => some ⟨f, false, 0x35, .z, .dv, .unused, .unused, .unused, .compute, 4⟩
  | .xtop f => some ⟨f, false, 0x36, .z, .unused, (.v true), (.v true), .unused, .compute, 4⟩
  | .fclass f => some ⟨f, false, 0x37, .fa, .dv, (.v true), .unused, .unused, .compute, 4⟩
  | .mov f => some ⟨f, false, 0x38, .mv, (mvDst f), (mvSrc f), .unused, .unused, .compute, 4⟩
  | .sel f => some ⟨f, false, 0x39, .mv, (mvDst f), (mvSrc f), (mvSrc f), .k, .compute, 4⟩
  | .movq f => some ⟨f, false, 0x3a, .mv, (mvDst f), (.uq (mv64 f)), .unused, .unused, .compute, 4⟩
  | .fadd f => some ⟨f, false, 0x40, .fa, .dv, (.v true), (.v true), .unused, .compute, 6⟩
  | .fmul f => some ⟨f, false, 0x41, .fa, .dv, (.v true), (.v true), .unused, .compute, 6⟩
  | .ffma f => some ⟨f, false, 0x42, .fa, .dv, (.v true), (.v true), (.v true), .compute, 6⟩
  | .fmin f => some ⟨f, false, 0x43, .fa, .dv, (.v true), (.v true), .unused, .compute, 4⟩
  | .fmax f => some ⟨f, false, 0x44, .fa, .dv, (.v true), (.v true), .unused, .compute, 4⟩
  | .fint f => some ⟨f, false, 0x45, .fa, .dv, (.v true), .unused, .unused, .compute, 6⟩
  | .fabs f => some ⟨f, false, 0x46, .fa, .dv, (.v true), .unused, .unused, .compute, 4⟩
  | .dadd f => some ⟨f, false, 0x48, .da, .dw, (.w true), (.w true), .unused, .compute, 16⟩
  | .dmul f => some ⟨f, false, 0x49, .da, .dw, (.w true), (.w true), .unused, .compute, 16⟩
  | .dfma f => some ⟨f, false, 0x4a, .da, .dw, (.w true), (.w true), (.w true), .compute, 16⟩
  | .dmin f => some ⟨f, false, 0x4b, .da, .dw, (.w true), (.w true), .unused, .compute, 8⟩
  | .dmax f => some ⟨f, false, 0x4c, .da, .dw, (.w true), (.w true), .unused, .compute, 8⟩
  | .dint f => some ⟨f, false, 0x4d, .da, .dw, (.w true), .unused, .unused, .compute, 16⟩
  | .dabs f => some ⟨f, false, 0x4e, .da, .dw, (.w true), .unused, .unused, .compute, 8⟩
  | .frcp f => some ⟨f, false, 0x50, .sp, .dv, (.v true), .unused, .unused, .compute, 20⟩
  | .frsq f => some ⟨f, false, 0x51, .sp, .dv, (.v true), .unused, .unused, .compute, 20⟩
  | .fsqrt f => some ⟨f, false, 0x52, .sp, .dv, (.v true), .unused, .unused, .compute, 20⟩
  | .fex2 f => some ⟨f, false, 0x53, .sp, .dv, (.v true), .unused, .unused, .compute, 20⟩
  | .flg2 f => some ⟨f, false, 0x54, .sp, .dv, (.v true), .unused, .unused, .compute, 20⟩
  | .fex10 f => some ⟨f, false, 0x55, .sp, .dv, (.v true), .unused, .unused, .compute, 20⟩
  | .flg10 f => some ⟨f, false, 0x56, .sp, .dv, (.v true), .unused, .unused, .compute, 20⟩
  | .fsin f => some ⟨f, false, 0x57, .sp, .dv, (.v true), .unused, .unused, .compute, 20⟩
  | .fcos f => some ⟨f, false, 0x58, .sp, .dv, (.v true), .unused, .unused, .compute, 20⟩
  | .fdiv f => some ⟨f, false, 0x59, .sp, .dv, (.v true), (.v true), .unused, .compute, 28⟩
  | .drcp f => some ⟨f, false, 0x5a, .sp, .dw, (.w true), .unused, .unused, .compute, 64⟩
  | .dsqrt f => some ⟨f, false, 0x5b, .sp, .dw, (.w true), .unused, .unused, .compute, 64⟩
  | .ddiv f => some ⟨f, false, 0x5c, .sp, .dw, (.w true), (.w true), .unused, .compute, 64⟩
  | .cvti2f f => some ⟨f, false, 0x60, .cv, (cvFloatDst f), (cvIntSrc f), .unused, .unused, .compute, 6⟩
  | .cvtf2i f => some ⟨f, false, 0x61, .cv, (cvIntDst f), (cvFloatSrc f), .unused, .unused, .compute, 6⟩
  | .cvtf2f f => some ⟨f, false, 0x62, .cv, (cvFloatDst f), (cvFloatSrc f), .unused, .unused, .compute, 6⟩
  | .cvti2i f => some ⟨f, false, 0x63, .cv, (cvIntDst f), (cvIntSrc f), .unused, .unused, .compute, 6⟩
  | .d8pack f => some ⟨f, false, 0x64, .d8, .dv, (.v true), (.v true), .unused, .compute, 6⟩
  | .d8unpk f => some ⟨f, false, 0x65, .d8, .dv, (.v true), (.v true), .unused, .compute, 6⟩
  | .d8scale f => some ⟨f, false, 0x66, .d8, .dv, (.v true), .unused, .unused, .compute, 6⟩
  | .d8min f => some ⟨f, false, 0x67, .d8, .dv, (.v true), (.v true), .unused, .compute, 4⟩
  | .d8max f => some ⟨f, false, 0x68, .d8, .dv, (.v true), (.v true), .unused, .compute, 4⟩
  | .pkadd f => some ⟨f, false, 0x6a, .hp, .dv, (.v true), (.v true), .unused, .compute, 6⟩
  | .pkmul f => some ⟨f, false, 0x6b, .hp, .dv, (.v true), (.v true), .unused, .compute, 6⟩
  | .pkfma f => some ⟨f, false, 0x6c, .hp, .dv, (.v true), (.v true), (.v true), .compute, 6⟩
  | .pkmin f => some ⟨f, false, 0x6d, .hp, .dv, (.v true), (.v true), .unused, .compute, 4⟩
  | .pkmax f => some ⟨f, false, 0x6e, .hp, .dv, (.v true), (.v true), .unused, .compute, 4⟩
  | .perm f => some ⟨f, false, 0x70, .xl, (xlDst f), (.permA (xl64 f) false), (.v true), .unused, .compute, 8⟩
  | .permup f => some ⟨f, false, 0x71, .xl, (xlDst f), (.permA (xl64 f) false), (.v true), .unused, .compute, 8⟩
  | .permdn f => some ⟨f, false, 0x72, .xl, (xlDst f), (.permA (xl64 f) false), (.v true), .unused, .compute, 8⟩
  | .permx f => some ⟨f, false, 0x73, .xl, (xlDst f), (.permA (xl64 f) false), (.v true), .unused, .compute, 8⟩
  | .vote f => some ⟨f, false, 0x74, .xl, .dk, .k, .unused, .unused, .compute, 8⟩
  | .ballot f => some ⟨f, false, 0x75, .xl, .dv, .k, .unused, .unused, .compute, 8⟩
  | .matchEq f => some ⟨f, false, 0x76, .xl, (xlDst f), (.permA (xl64 f) true), .unused, .unused, .compute, 8⟩
  | .gredi f => some ⟨f, false, 0x77, .xl, .dv, (.v true), .unused, .unused, .compute, 14⟩
  | .gredf f => some ⟨f, false, 0x78, .xl, .dv, (.v true), .unused, .unused, .compute, 14⟩
  | .gscan f => some ⟨f, false, 0x79, .xl, .dv, (.v true), .unused, .unused, .compute, 14⟩
  | .ldx w f => some ⟨f, false, 0x7C + 2 * w.code, .z, (w2Dst w), .ldxA, .unused, .unused, .compute, 6⟩
  | .stx w f => some ⟨f, false, 0x7D + 2 * w.code, .z, .unused, .ldxA, (w2Src w), .unused, .compute, 6⟩
  | .ld w f => some ⟨f, false, 0x80 + w.code, .lm, (ldDst w), .base, .space, .unused, .memory, 0⟩
  | .lda w f => some ⟨f, false, 0x88 + w.code, .lm, (w2Dst w), .base, .space, .unused, .memory, 0⟩
  | .pref f => some ⟨f, false, 0x8A, .lm, .unused, .base, .space, .unused, .memory, 0⟩
  | .st w m f => some ⟨f, false, 0x90 + 2 * w.code + m.code, .lm, .unused, .base, .space, (stSrc w), .memory, 0⟩
  | .str w m f => some ⟨f, false, 0x9C + 2 * w.code + m.code, .lm, .unused, .base, .space, (w2Src w), .memory, 0⟩
  | .atom op m f => some ⟨f, false, 0xA0 + 2 * op.code + m.code, .at, (atDst f), .base, .space, (atSrc op f), .atomic, 0⟩
  | .red op m f => some ⟨f, false, 0xB0 + 2 * op.code + m.code, .at, .unused, .base, .space, (atSrc op.toAtom f), .atomic, 0⟩
  | .ratom op f => some ⟨f, false, 0xC0 + op.code, .at, (atDst f), .base, .peer, (ratSrc op f), .atomic, 0⟩
  | .rld w f => some ⟨f, false, 0xC8 + w.code, .z, (w2Dst w), .base, .peer, .unused, .memory, 0⟩
  | .rst w f => some ⟨f, false, 0xCA + w.code, .z, .unused, .base, .peer, (w2Src w), .memory, 0⟩
  | .ffence f => some ⟨f, false, 0xCC, .z, .unused, .base, .peer, (.v true), .synchronisation, 0⟩
  | .fence f => some ⟨f, false, 0xD0, .fn, .unused, .unused, .unused, .unused, .synchronisation, 0⟩
  | .fencex f => some ⟨f, false, 0xD1, .fn, .unused, .unused, .unused, .unused, .synchronisation, 0⟩
  | .drain f => some ⟨f, false, 0xD2, .fn, .unused, .unused, .unused, .unused, .synchronisation, 0⟩
  | .xbegin f => some ⟨f, false, 0xD4, .z, .unused, .unused, .unused, .unused, .synchronisation, 0⟩
  | .xend f => some ⟨f, false, 0xD5, .z, .unused, .unused, .unused, .unused, .synchronisation, 0⟩
  | .xabort f => some ⟨f, false, 0xD6, .z, .unused, (.v false), .unused, .unused, .synchronisation, 0⟩
  | .bar f => some ⟨f, false, 0xe0, .sy, .unused, (.v false), .unused, .unused, .synchronisation, 0⟩
  | .bara f => some ⟨f, false, 0xe1, .sy, .unused, (.v false), .unused, .unused, .synchronisation, 0⟩
  | .barc f => some ⟨f, false, 0xe2, .sy, .unused, (.v false), .unused, .unused, .synchronisation, 0⟩
  | .bard f => some ⟨f, false, 0xe3, .sy, .unused, (.v false), .unused, .unused, .synchronisation, 0⟩
  | .jset f => some ⟨f, false, 0xe4, .sy, .jreg, .unused, .unused, .unused, .synchronisation, 0⟩
  | .join f => some ⟨f, false, 0xe5, .sy, .jreg, .unused, .unused, .unused, .synchronisation, 0⟩
  | .jdrop f => some ⟨f, false, 0xe6, .sy, .jreg, .unused, .unused, .unused, .synchronisation, 0⟩
  | .wwait f => some ⟨f, false, 0xE7, .sy, .dv, .base, .space, (.v false), .synchronisation, 0⟩
  | .cbpost f => some ⟨f, false, 0xE8, .sy, .unused, (.v false), .unused, .unused, .synchronisation, 0⟩
  | .cbwait f => some ⟨f, false, 0xE9, .sy, .unused, .unused, .unused, .unused, .synchronisation, 0⟩
  | .tfeed f => some ⟨f, false, 0xF0, .en, .unused, .base, .space, (.v false), .engine, 0⟩
  | .tfeedStab f => some ⟨f, false, 0xF0, .en, .unused, .base, .space, (.v false), .engine, 0⟩
  | .tdrain f => some ⟨f, false, 0xF1, .en, .unused, .base, .space, .unused, .engine, 0⟩
  | .emit f => some ⟨f, false, 0xF2, .en, .unused, .base, .space, (.v false), .engine, 0⟩
  | .trap f => some ⟨f, false, 0xF8, .en, .unused, (.v false), .unused, .unused, .system, 0⟩
  | .bkpt f => some ⟨f, false, 0xF9, .en, .unused, .unused, .unused, .unused, .system, 0⟩
  | .yield f => some ⟨f, false, 0xFA, .en, .unused, (.v false), .unused, .unused, .system, 0⟩
  | .unop f => some ⟨f, true, 0x1, .z, .unused, .unused, .unused, .unused, .compute, 1⟩
  | .uiadd f => some ⟨f, true, 0x10, .ia, (iaDst f), (iaSrc f), (iaSrc f), .unused, .compute, 4⟩
  | .uisub f => some ⟨f, true, 0x11, .ia, (iaDst f), (iaSrc f), (iaSrc f), .unused, .compute, 4⟩
  | .uimul f => some ⟨f, true, 0x12, .ia, (iaDst f), (iaSrc f), (iaSrc f), .unused, .compute, 6⟩
  | .uimulhi f => some ⟨f, true, 0x13, .ia, (iaDst f), (iaSrc f), (iaSrc f), .unused, .compute, 6⟩
  | .uimad f => some ⟨f, true, 0x14, .ia, (iaDst f), (iaSrc f), (iaSrc f), (iaSrc f), .compute, 6⟩
  | .uimin f => some ⟨f, true, 0x15, .ia, (iaDst f), (iaSrc f), (iaSrc f), .unused, .compute, 4⟩
  | .uimax f => some ⟨f, true, 0x16, .ia, (iaDst f), (iaSrc f), (iaSrc f), .unused, .compute, 4⟩
  | .uiabs f => some ⟨f, true, 0x17, .ia, (iaDst f), (iaSrc f), .unused, .unused, .compute, 4⟩
  | .uidiv f => some ⟨f, true, 0x18, .ia, (iaDst f), (iaSrc f), (iaSrc f), .unused, .compute, 24⟩
  | .uirem f => some ⟨f, true, 0x19, .ia, (iaDst f), (iaSrc f), (iaSrc f), .unused, .compute, 24⟩
  | .uisad f => some ⟨f, true, 0x1a, .ia, (iaDst f), (iaSrc f), (iaSrc f), (iaSrc f), .compute, 4⟩
  | .uidp4 f => some ⟨f, true, 0x1b, .ia, (iaDst f), (iaSrc f), (iaSrc f), (iaSrc f), .compute, 6⟩
  | .uisum f => some ⟨f, true, 0x1c, .ia, (iaDst f), (iaSrc f), (iaSrc f), (iaSrc f), .compute, 4⟩
  | .uimadw f => some ⟨f, true, 0x1d, .ia, .dw, (.v true), (.v true), (.w true), .compute, 6⟩
  | .ulea f => some ⟨f, true, 0x1e, .sh, .dw, (.w false), (.v true), .unused, .compute, 4⟩
  | .uleas f => some ⟨f, true, 0x1f, .sh, .dw, (.w false), (.v true), .unused, .compute, 4⟩
  | .uand f => some ⟨f, true, 0x20, .lg, (lgDst f), (lgSrc f), (lgSrc f), .unused, .compute, 4⟩
  | .uor f => some ⟨f, true, 0x21, .lg, (lgDst f), (lgSrc f), (lgSrc f), .unused, .compute, 4⟩
  | .uxor f => some ⟨f, true, 0x22, .lg, (lgDst f), (lgSrc f), (lgSrc f), .unused, .compute, 4⟩
  | .ulut3 f => some ⟨f, true, 0x23, .lg, (lgDst f), (lgSrc f), (lgSrc f), (lgSrc f), .compute, 4⟩
  | .ushl f => some ⟨f, true, 0x24, .lg, (lgDst f), (lgSrc f), (.v true), .unused, .compute, 4⟩
  | .ushr f => some ⟨f, true, 0x25, .lg, (lgDst f), (lgSrc f), (.v true), .unused, .compute, 4⟩
  | .usar f => some ⟨f, true, 0x26, .lg, (lgDst f), (lgSrc f), (.v true), .unused, .compute, 4⟩
  | .urot f => some ⟨f, true, 0x27, .lg, (lgDst f), (lgSrc f), (.v true), .unused, .compute, 4⟩
  | .ucatsh f => some ⟨f, true, 0x28, .lg, (lgDst f), (lgSrc f), (lgSrc f), (.v true), .compute, 4⟩
  | .ubxtr f => some ⟨f, true, 0x29, .lg, (lgDst f), (lgSrc f), (.v true), .unused, .compute, 4⟩
  | .ubins f => some ⟨f, true, 0x2a, .lg, (lgDst f), (lgSrc f), (lgSrc f), (.v true), .compute, 4⟩
  | .uones f => some ⟨f, true, 0x2b, .lg, .dv, (lgSrc f), .unused, .unused, .compute, 4⟩
  | .uclz f => some ⟨f, true, 0x2c, .lg, .dv, (lgSrc f), .unused, .unused, .compute, 4⟩
  | .ubitrev f => some ⟨f, true, 0x2d, .lg, (lgDst f), (lgSrc f), .unused, .unused, .compute, 4⟩
  | .ubysel f => some ⟨f, true, 0x2e, .lg, .dv, (.v true), (.v true), (.v true), .compute, 4⟩
  | .uicmp f => some ⟨f, true, 0x30, .cp, .dk, (cpSrc f), (cpSrc f), .unused, .compute, 4⟩
  | .ufcmp f => some ⟨f, true, 0x31, .cp, .dk, (.v true), (.v true), .unused, .compute, 4⟩
  | .uplog f => some ⟨f, true, 0x34, .pl, .dk, .k, .k, .unused, .compute, 4⟩
  | .uptox f => some ⟨f, true, 0x35, .z, .dv, .unused, .unused, .unused, .compute, 4⟩
  | .uxtop f => some ⟨f, true, 0x36, .z, .unused, (.v true), (.v true), .unused, .compute, 4⟩
  | .umov f => some ⟨f, true, 0x38, .mv, (mvDst f), (mvSrc f), .unused, .unused, .compute, 4⟩
  | .usel f => some ⟨f, true, 0x39, .mv, (mvDst f), (mvSrc f), (mvSrc f), .k, .compute, 4⟩
  | .ureadl f => some ⟨f, true, 0x3b, .z, .dv, .laneSide, (.v false), .unused, .compute, 8⟩
  | .ufadd f => some ⟨f, true, 0x40, .fa, .dv, (.v true), (.v true), .unused, .compute, 6⟩
  | .ufmul f => some ⟨f, true, 0x41, .fa, .dv, (.v true), (.v true), .unused, .compute, 6⟩
  | .uffma f => some ⟨f, true, 0x42, .fa, .dv, (.v true), (.v true), (.v true), .compute, 6⟩
  | .ufmin f => some ⟨f, true, 0x43, .fa, .dv, (.v true), (.v true), .unused, .compute, 4⟩
  | .ufmax f => some ⟨f, true, 0x44, .fa, .dv, (.v true), (.v true), .unused, .compute, 4⟩
  | .ucvti2f f => some ⟨f, true, 0x60, .cv, (cvFloatDst f), (cvIntSrc f), .unused, .unused, .compute, 6⟩
  | .ucvtf2i f => some ⟨f, true, 0x61, .cv, (cvIntDst f), (cvFloatSrc f), .unused, .unused, .compute, 6⟩
  | .uld w f => some ⟨f, true, 0x84 + w.code, .lm, (uwDst w), .base, .space, .unused, .memory, 0⟩
  | .ulda w f => some ⟨f, true, 0x88 + w.code, .lm, (w2Dst w), .base, .space, .unused, .memory, 0⟩
  | .ust w m f => some ⟨f, true, 0x94 + 2 * w.code + m.code, .lm, .unused, .base, .space, (uwSrc w), .memory, 0⟩
  | .ustr w m f => some ⟨f, true, 0x9C + 2 * w.code + m.code, .lm, .unused, .base, .space, (w2Src w), .memory, 0⟩
  | .uatom op m f => some ⟨f, true, 0xA0 + 2 * op.code + m.code, .at, (atDst f), .base, .space, (atSrc op f), .atomic, 0⟩
  | .ured op m f => some ⟨f, true, 0xB0 + 2 * op.code + m.code, .at, .unused, .base, .space, (atSrc op.toAtom f), .atomic, 0⟩
  | .urld w f => some ⟨f, true, 0xC8 + w.code, .z, (w2Dst w), .base, .peer, .unused, .memory, 0⟩
  | .urst w f => some ⟨f, true, 0xCA + w.code, .z, .unused, .base, .peer, (w2Src w), .memory, 0⟩
  | .uffence f => some ⟨f, true, 0xCC, .z, .unused, .base, .peer, (.v true), .synchronisation, 0⟩
  | .ufence f => some ⟨f, true, 0xD0, .fn, .unused, .unused, .unused, .unused, .synchronisation, 0⟩
  | .ufencex f => some ⟨f, true, 0xD1, .fn, .unused, .unused, .unused, .unused, .synchronisation, 0⟩
  | .udrain f => some ⟨f, true, 0xD2, .fn, .unused, .unused, .unused, .unused, .synchronisation, 0⟩
  | .uwwait f => some ⟨f, true, 0xE7, .sy, .dv, .base, .space, (.v false), .synchronisation, 0⟩
  | .ucbpost f => some ⟨f, true, 0xE8, .sy, .unused, (.v false), .unused, .unused, .synchronisation, 0⟩
  | .ucbwait f => some ⟨f, true, 0xE9, .sy, .unused, .unused, .unused, .unused, .synchronisation, 0⟩
  | .utrap f => some ⟨f, true, 0xF8, .en, .unused, (.v false), .unused, .unused, .system, 0⟩
  | .ubkpt f => some ⟨f, true, 0xF9, .en, .unused, .unused, .unused, .unused, .system, 0⟩
  | .uyield f => some ⟨f, true, 0xFA, .en, .unused, (.v false), .unused, .unused, .system, 0⟩
  | .tcopy f => some ⟨f, true, 0x100, .en, .unused, .base, .space, (.v false), .engine, 0⟩
  | .tclose f => some ⟨f, true, 0x101, .en, .unused, .unused, .unused, .unused, .engine, 0⟩
  | .twait f => some ⟨f, true, 0x102, .en, .unused, (.v false), .unused, .unused, .engine, 0⟩
  | .lease f => some ⟨f, true, 0x103, .en, .unused, (.v false), .unused, .unused, .engine, 0⟩
  | .leasem f => some ⟨f, true, 0x104, .en, .dv, .unused, .unused, .unused, .engine, 0⟩
  | .lrel f => some ⟨f, true, 0x105, .en, .unused, .unused, .unused, .unused, .engine, 0⟩
  | .enq f => some ⟨f, true, 0x106, .en, .unused, .base, .space, (.v false), .engine, 0⟩
  | .eret f => some ⟨f, true, 0x110, .en, .unused, .unused, .unused, .unused, .system, 0⟩
  | .crd f => some ⟨f, true, 0x111, .en, .dv, .immOr, .unused, .unused, .system, 0⟩
  | .cwr f => some ⟨f, true, 0x112, .en, .immOr, (.v false), .unused, .unused, .system, 0⟩
  | .halt f => some ⟨f, true, 0x113, .en, .unused, .unused, .unused, .unused, .system, 0⟩
  | .mma f => some ⟨f, true, 0x180, .en, .unused, (bsBase f), (bsSpace f), (bsFmt f), .engine, 0⟩
  | .mmag f => some ⟨f, true, 0x181, .en, .unused, (bsBase f), (bsSpace f), (bsFmt f), .engine, 0⟩
  | .mzero f => some ⟨f, true, 0x182, .en, .unused, .unused, .unused, .unused, .engine, 0⟩
  | .mmovDrain f => some ⟨f, true, 0x183, .en, .unused, .unused, .unused, .unused, .engine, 0⟩
  | .mmovCopy f => some ⟨f, true, 0x183, .en, .unused, .unused, .unused, .unused, .engine, 0⟩
  | .mld f => some ⟨f, true, 0x184, .en, .unused, .base, .space, .unused, .engine, 0⟩
  | .mst f => some ⟨f, true, 0x185, .en, .unused, .base, .space, .unused, .engine, 0⟩
  | .creq f => some ⟨f, true, 0x1A0, .en, .dv, (.v false), (.v false), .unused, .engine, 0⟩
  | .cawait f => some ⟨f, true, 0x1A1, .en, .dk, (.v false), (.v false), .unused, .engine, 0⟩
  | .cuse f => some ⟨f, true, 0x1A2, .en, .unused, (.v false), (.v false), .unused, .engine, 0⟩
  | .crel f => some ⟨f, true, 0x1A3, .en, .unused, (.v false), .unused, .unused, .engine, 0⟩
  | .pldrain f => some ⟨f, true, 0x1A4, .en, .dk, (.v false), .unused, .unused, .engine, 0⟩
  | .pljoin f => some ⟨f, true, 0x1A5, .en, .dk, (.v false), .unused, .unused, .engine, 0⟩
  | .wsend f => some ⟨f, true, 0x1A6, .en, .unused, .base, .space, (.v false), .engine, 0⟩
  | .wrecv f => some ⟨f, true, 0x1A7, .en, .dv, .base, .space, (.v false), .engine, 0⟩
  | .wpoll f => some ⟨f, true, 0x1A8, .en, .dv, .unused, .unused, (.v false), .engine, 0⟩
  | .tmrRead f => some ⟨f, true, 0x1A9, .en, .dw, .unused, .unused, .unused, .engine, 0⟩
  | .tmrSet f => some ⟨f, true, 0x1A9, .en, .unused, (.v false), (.v false), .unused, .engine, 0⟩
  | .tmrWait f => some ⟨f, true, 0x1A9, .en, .unused, (.v false), .unused, .unused, .engine, 0⟩
  | .tmrCancel f => some ⟨f, true, 0x1A9, .en, .unused, (.v false), .unused, .unused, .engine, 0⟩
  | .evtake f => some ⟨f, true, 0x1C0, .en, .dw, .unused, .unused, .unused, .engine, 0⟩
  | .evpost f => some ⟨f, true, 0x1C1, .en, .unused, (.w false), .unused, .unused, .engine, 0⟩
  | .qlock f => some ⟨f, true, 0x1C2, .en, .unused, (.v false), .unused, .unused, .engine, 0⟩
  | .qfree f => some ⟨f, true, 0x1C3, .en, .unused, (.v false), .unused, .unused, .engine, 0⟩
  | .issueSelect _ => none
  | .fixedResultWriteback _ => none
  | .variableOpComplete _ => none
  | .boostDecay _ => none
  | .activationEvaluate _ => none
  | .leaseOverrunDeactivate _ => none
  | .protectionExpiry _ => none
  | .dormantEntry _ => none
  | .wwaitReread _ => none
  | .waitSwapCheck _ => none
  | .waitSwapSaveEnd _ => none
  | .teamReturn _ => none
  | .teamPlace _ => none
  | .distributorSteal _ => none
  | .teamEnd _ _ => none
  | .groupSlotRelease _ => none
  | .rennetRecordAccept _ => none
  | .rennetBatchTimeout _ _ _ => none
  | .rennetStallEnd _ => none
  | .copyPieceDeliver _ => none
  | .clbCopyTest _ => none
  | .macroStep _ => none
  | .macroComplete _ => none
  | .scaleCacheMissRead _ _ _ => none
  | .pageWalk _ => none
  | .faultResolution _ => none
  | .ackLostTimeout _ _ => none
  | .homeAtomicApply _ => none
  | .redEntryDrain _ => none
  | .xendAckTimeout _ => none
  | .remoteRequestAtPeer _ _ => none
  | .fabricTimeout _ => none
  | .residentChoice _ => none
  | .crockExchange _ => none
  | .imageSpill _ => none
  | .imageFill _ _ => none
  | .contextDue _ => none
  | .quantumExpiry _ => none
  | .crockUncorrectable _ => none
  | .pageMigration _ _ _ => none
  | .migrationAbandon _ _ => none
  | .mappingChange _ _ _ _ => none
  | .hostBar2Access _ _ _ => none
  | .hostWindowWrite _ _ => none
  | .hostSnoopTimeout => none
  | .cxlUncorrectableError => none
  | .doorbell _ _ => none
  | .qctlWrite _ _ => none
  | .registerWrite _ _ _ => none
  | .icwWrite _ _ => none
  | .packetDispatch => none
  | .nopPacket _ => none
  | .launchPacket _ => none
  | .graphPacket _ => none
  | .scriptPacket _ => none
  | .waitPacket _ => none
  | .flushPacket _ => none
  | .reservedPacket _ => none
  | .phaseCleaning _ => none
  | .scriptHeldStart => none
  | .cmcTrap _ => none
  | .linkDataFlit _ _ _ => none
  | .linkIdleFlit _ _ _ => none
  | .linkNak _ _ _ => none
  | .linkStateFlit _ _ _ => none
  | .linkResendTimeout _ _ => none
  | .linkRetrain _ => none
  | .linkRetrainEnd _ _ => none
  | .linkDownRetest _ _ => none
  | .lkcrcRead _ => none
  | .fabricFlitReceive _ _ _ _ => none
  | .fabricFlitAck _ _ => none
  | .fabricResendTimeout _ _ => none
  | .stripeRecompute _ => none
  | .connected _ => none
  | .refused _ => none
  | .released _ => none
  | .broken _ => none
  | .hello _ => none
  | .helloSend => none
  | .switchSilent _ => none
  | .connectRetry _ => none
  | .releaseTimeout _ => none
  | .portSettled _ => none
  | .portTrained _ _ => none
  | .portLockTimeout _ _ => none
  | .keyAgreementComplete _ => none
  | .keyAgreementTimeout _ => none
  | .rekey _ => none
  | .peerLost _ => none
  | .authFailureDark _ => none
  | .laserModuleRemove _ => none
  | .laserModuleInsert _ _ => none
  | .moduleMonitorPoll _ _ _ => none
  | .laneRateStepDown _ _ _ => none
  | .laneRateStepUp _ _ _ => none
  | .laneRetire _ _ => none
  | .lstatRetireWrite _ _ _ => none
  | .pcapWrite _ _ => none
  | .tapSample _ _ _ _ _ => none
  | .wheyFrameReceive _ => none
  | .wheyRetransmitTimeout _ _ => none
  | .wheySessionTimeout _ => none
  | .wheySessionOpen _ _ => none
  | .cawaitTimeout _ => none
  | .timerExpiry _ _ => none
  | .patrolScrub _ _ => none
  | .uncorrectableError _ => none
  | .rasceRead _ => none
  | .rasueRead _ => none
  | .powerSample _ _ => none
  | .thermalHalt => none
  | .thermalHaltEnd => none
  | .pwrctlWrite _ => none
  | .packageStart _ _ => none
  | .startStepTimeout _ _ => none
  | .heartbeatTimeout => none
  | .hbeatWrite _ => none
  | .rollbackClear _ => none
  | .contextCreate _ _ _ => none
  | .contextDestroy _ => none
  | .fabricBind _ _ _ => none
  | .rosterSet _ _ => none
  | .firmwareStage _ => none
  | .firmwareUpdate => none
  | .recordClear => none
  | .rasRead _ => none
  | .powerSet _ => none
  | .hostLinkReset => none
  | .debugAttach _ _ => none
  | .debugDetach _ _ => none
  | .debugHalt _ _ => none
  | .debugResume _ _ => none
  | .debugRead _ _ _ => none
  | .debugWrite _ _ _ _ => none
  | .spdmSessionEnd _ => none
  | .getVersion _ => none
  | .getCapabilities _ => none
  | .negotiateAlgorithms _ => none
  | .getDigests _ => none
  | .getCertificate _ => none
  | .challenge _ => none
  | .getMeasurements _ => none
  | .keyExchange _ => none
  | .finish _ => none
  | .hostWindowRead _ => none
  | .laserChannelFailure _ _ => none
  | .laneRetrainEnd _ _ => none

/-! ## The decode checks of spec/02 R24 -/

/-- The bits of MOD that a layout claims (spec/05 R101); FENCE claims [5:3] only. -/
def Layout.claims (l : Layout) (op : Nat) : BitVec 6 :=
  match l with
  | .z => 0b000000#6
  | .ia | .sh | .lg | .pl | .xl | .lm | .sy | .en => 0b111000#6
  | .mv => 0b001000#6
  | .cp => 0b111011#6
  | .fa | .d8 => 0b111100#6
  | .da | .sp => 0b001100#6
  | .cv | .at => 0b111111#6
  | .hp => 0b101100#6
  | .fn => if op == 0xD0 then 0b111000#6 else 0b111111#6

/-- The bits of MOD that a selector borrows (spec/02 R38). -/
def Nx.lends : Nx → BitVec 6
  | .jt | .jf => 0b000111#6
  | .jut | .juf => 0b000011#6
  | .seq | .jmp | .call | .ret | .loop | .exit | .jidx => 0#6

/-- The LG bits each opcode of layout LG uses (spec/06 R120), by OP. -/
def lgUses (op : Nat) : BitVec 6 :=
  if op == 0x26 || op == 0x29 then 0b101000#6        -- SAR, BXTR
  else if op == 0x27 || op == 0x28 then 0b011000#6   -- ROT, CATSH
  else if op == 0x2E then 0#6                        -- BYSEL
  else 0b001000#6

/-- Does MOD hold a value the layout reserves for the opcode (check 3, spec/05 R101, R102)? -/
def modReserved (i : Info) : Bool :=
  let f := i.fields
  let stray := (f.mod &&& ~~~(i.layout.claims i.op ||| f.nx.lends)) != 0#6
  stray || match i.layout with
  | .z | .sh | .mv => false
  | .ia =>
    (f.modBit 5 && [0x13, 0x15, 0x16, 0x18, 0x19, 0x1A, 0x1B, 0x1D].contains i.op)
      || (intTy64 f.mod43 && [0x1B, 0x1D].contains i.op)
  | .lg => (f.mod &&& 0b111000#6 &&& ~~~(lgUses i.op)) != 0#6
  | .cp =>
    (i.op == 0x30 && 6 ≤ f.modHi) || (i.op == 0x31 && f.mod10 == 3)
      || ((i.op == 0x32 || i.op == 0x33) && f.mod10 != 0)
  | .pl => 5 ≤ f.modHi
  | .fa => f.mod54 == 3 || (f.mod32 != 0 && [0x37, 0x43, 0x44, 0x46].contains i.op)
  | .da => f.mod32 != 0 && [0x4B, 0x4C, 0x4E].contains i.op
  | .sp => f.mod32 != 0 && [0x51, 0x53, 0x54, 0x55, 0x56, 0x57, 0x58].contains i.op
  | .cv => i.op == 0x63 && 2 ≤ f.mod10
  | .d8 => f.mod54 == 1 || f.mod54 == 3 || (f.mod32 != 0 && i.op != 0x65)
  | .hp => f.mod32 != 0 && (i.op == 0x6D || i.op == 0x6E)
  | .xl =>
    if [0x70, 0x71, 0x72, 0x73, 0x76].contains i.op then 2 ≤ f.modHi
    else if i.op == 0x74 || i.op == 0x78 then 3 ≤ f.modHi
    else if i.op == 0x75 then f.modHi != 0
    else if i.op == 0x79 then 4 ≤ f.modHi
    else false
  | .lm =>
    if i.op == 0x88 || i.op == 0x89 || (0x9C ≤ i.op && i.op ≤ 0x9F) then 5 ≤ f.modHi else 3 ≤ f.modHi
  | .at =>
    6 ≤ f.modLo
      || (4 ≤ f.modLo && ((0xA6 ≤ i.op && i.op ≤ 0xAB) || i.op == 0xAE || i.op == 0xAF
            || (0xB6 ≤ i.op && i.op ≤ 0xBB) || (0xC3 ≤ i.op && i.op ≤ 0xC5) || i.op == 0xC7))
      || 6 ≤ f.modHi
      || (if 0xC0 ≤ i.op then f.modHi != 5 else f.modHi == 5)
  | .fn =>
    if i.op == 0xD0 then 6 ≤ f.modHi else 6 ≤ f.modHi || 6 ≤ f.modLo
  | .sy =>
    if i.op == 0xE7 then 6 ≤ f.modHi
    else if 0xE2 ≤ i.op && i.op ≤ 0xE6 then f.modHi != 0
    else false
  | .en =>
    if i.op == 0xF0 && !i.uniform then 4 ≤ f.modHi
    else if i.op == 0x180 || i.op == 0x181 || i.op == 0x183 then 2 ≤ f.modHi
    else if i.op == 0x1A9 then 4 ≤ f.modHi
    else f.modHi != 0

/-- Does a constructor that is one sub-operation of its codepoint carry that sub-operation in MOD[5:3]
(spec/08 R191, R199, R208)? `decode` picks the constructor by it. -/
def Instr.subOpAgrees : Instr → Bool
  | .tfeed f => f.modHi != 3
  | .tfeedStab f => f.modHi == 3
  | .mmovDrain f => f.modHi == 0
  | .mmovCopy f => f.modHi == 1
  | .tmrRead f => f.modHi == 0
  | .tmrSet f => f.modHi == 1
  | .tmrWait f => f.modHi == 2
  | .tmrCancel f => f.modHi == 3
  | _ => true

/-- Is OP one the engine executes (spec/05 R106)? P = 0 runs only on a partition. -/
def EngineKind.runs (e : EngineKind) (uniform : Bool) (op : Nat) : Bool :=
  match e, uniform with
  | .partition, false => true
  | .partition, true => op ≤ 0x113
  | _, false => false
  | .churn, true =>
    (op ≤ 0x61 && op != 0x3B) || (0x84 ≤ op && op ≤ 0xAF) || (0xD0 ≤ op && op ≤ 0xD2)
      || (0xF8 ≤ op && op ≤ 0xF9) || (0x180 ≤ op && op ≤ 0x185)
  | .circuit, true =>
    (op ≤ 0x61 && op != 0x3B) || (0x84 ≤ op && op ≤ 0xCC) || (0xD0 ≤ op && op ≤ 0xD2)
      || (0xE7 ≤ op && op ≤ 0xE9) || (0xF8 ≤ op && op ≤ 0xFA) || (0x111 ≤ op && op ≤ 0x113)
      || (0x1A0 ≤ op && op ≤ 0x1A9)
  | .command, true =>
    (op ≤ 0x61 && op != 0x3B) || (0x84 ≤ op && op ≤ 0xCC) || (0xD0 ≤ op && op ≤ 0xD2)
      || (0xE7 ≤ op && op ≤ 0xE9) || (0xF8 ≤ op && op ≤ 0xFA) || op == 0x106
      || (0x110 ≤ op && op ≤ 0x113) || (0x1C0 ≤ op && op ≤ 0x1C3)

/-- G holds a value reserved on the pipe (spec/02 R29). -/
def guardReserved (i : Info) : Bool :=
  i.uniform && 4 ≤ i.fields.guardSel.toNat && i.fields.guardSel.toNat ≤ 6

/-- Does the field name a register of class DV or wider that covers uniform register `n`? The span is the number of
registers the class writes. -/
def dCovers (i : Info) (n : Nat) : Bool :=
  let lo := i.fields.d.index.toNat
  i.fields.d.level = .main && match i.dCls with
  | .dv => lo == n
  | .dw => lo ≤ n && n < lo + 2
  | .dq => lo ≤ n && n < lo + 4
  | _ => false

/-- Does the operation write what its own selector reads, on the uniform pipe (spec/02 R42)? -/
def writesOwnSelector (i : Info) : Bool :=
  i.uniform && match i.fields.nx with
  | .jut | .juf => i.dCls = .dk && i.fields.d.index.toNat == 0x48 + i.fields.mod10
  | .loop => dCovers i 62
  | .jidx => dCovers i i.fields.c.index.toNat
  | _ => false

/-- Does the selector conflict with the operation (check 6: spec/02 R38, R40-R42, spec/05 R102, spec/07 R167,
spec/08 R211)? -/
def selectorConflict (i : Info) : Bool :=
  let f := i.fields
  let claims := i.layout.claims i.op
  ((f.nx.lends &&& claims) != 0#6)
    || ((f.nx = .call || f.nx = .ret) && i.klass != .compute)
    || (f.nx = .jidx &&
        (i.cCls != .unused || f.c.level != .main || f.c.mark || f.c.neg || 64 ≤ f.c.index.toNat))
    || (i.klass != .compute && writesOwnSelector i)
    || (!i.uniform && 0xD4 ≤ i.op && i.op ≤ 0xD6 && f.nx != .seq)
    || ((i.op == 0xF8 || i.op == 0xF9)
        && (f.nx = .jt || f.nx = .jf || f.nx = .ret || f.nx = .exit))

/-- The unused operand field, 0xC00 (spec/02 R28). -/
def Operand.unused : Operand := ⟨.special, 0#8, false, false⟩

/-- A main-file (or uniform-file) or operand-file source whose index is a multiple of `k`. -/
def regSource (uniform : Bool) (k : Nat) (o : Operand) : Bool :=
  o.index.toNat % k == 0 && match o.level with
  | .main => if uniform then o.index.toNat < 64 && !o.mark else true
  | .oper => !uniform && o.index.toNat < 16 && !o.mark
  | .latch | .special => false

/-- A latch source: `lat` on the lane pipe, `ulat` on both (spec/02 R25). -/
def latchSource (uniform : Bool) (o : Operand) : Bool :=
  o.level = .latch && !o.mark && (o.index == 1#8 || (!uniform && o.index == 0#8))

/-- `zero` or `imm`, without mark or negation (spec/02 R26, R27). -/
def zeroOrImm (o : Operand) : Bool :=
  o.level = .special && !o.mark && !o.neg && o.index.toNat ≤ 1

/-- A special register 0x10-0x2D (spec/03 R81). -/
def specialReg (o : Operand) : Bool :=
  o.level = .special && !o.mark && !o.neg && 0x10 ≤ o.index.toNat && o.index.toNat ≤ 0x2D

/-- A register destination whose index is a multiple of `k`; `zero`; or latch-only on the lane pipe (R26, R27). -/
def regDest (uniform : Bool) (k : Nat) (o : Operand) : Bool :=
  !o.neg && match o.level with
  | .main =>
    if o.mark then !uniform && o.index == 0#8
    else o.index.toNat % k == 0 && (!uniform || o.index.toNat < 64)
  | .oper => !uniform && !o.mark && o.index.toNat < 16 && o.index.toNat % k == 0
  | .latch => false
  | .special => !o.mark && o.index == 0#8

/-- Does a field value lie in the class the opcode gives the field (checks 8-11 of spec/02 R24)? DEDUCED (log 77):
MOVQ's A, a lane-pipe source at level 00 that names a uniform register, takes no last-read mark (`.uq`): spec/02 R27
speaks of lane-pipe sources at that level, and the mark retires a renamed x register, which a q register is not. -/
def OpClass.accepts (uniform : Bool) : OpClass → Operand → Bool
  | .unused, o => o = Operand.unused
  | .v n, o =>
    ((regSource uniform 1 o || latchSource uniform o) && (n || !o.neg)) || zeroOrImm o || specialReg o
  | .w n, o => ((regSource uniform 2 o || latchSource uniform o) && (n || !o.neg)) || zeroOrImm o
  | .q4 n, o => (regSource uniform 4 o && (n || !o.neg)) || o = Operand.unused
  | .k, o =>
    o.level = .special && !o.mark &&
      ((!uniform && 0x40 ≤ o.index.toNat && o.index.toNat ≤ 0x47) || (0x48 ≤ o.index.toNat && o.index.toNat ≤ 0x4B))
  | .dv, o => regDest uniform 1 o
  | .dw, o => regDest uniform 2 o
  | .dq, o => regDest uniform 4 o
  | .dk, o =>
    o.level = .special && !o.mark && !o.neg &&
      (if uniform then 0x48 ≤ o.index.toNat && o.index.toNat ≤ 0x4B
       else 0x40 ≤ o.index.toNat && o.index.toNat ≤ 0x46)
  | .base, o => (regSource uniform 2 o && !o.neg) || o = Operand.unused
  | .space, o =>
    o.level = .special && !o.mark && !o.neg && 0x60 ≤ o.index.toNat && o.index.toNat ≤ 0x67
  | .peer, o =>
    ((regSource uniform 1 o || latchSource uniform o) && !o.neg) || zeroOrImm o || specialReg o
  | .uq wide, o =>
    o.level = .main && !o.mark && o.index.toNat < 64 && (!wide || o.index.toNat % 2 == 0)
  | .laneSide, o =>
    !o.mark && !o.neg && match o.level with
    | .main => true
    | .oper => o.index.toNat < 16
    | .latch => o.index == 0#8
    | .special => false
  | .permA wide n, o =>
    (regSource uniform (if wide then 2 else 1) o && (n || !o.neg)) || zeroOrImm o || (!wide && specialReg o)
  | .ldxA, o => regSource uniform 1 o && !o.neg
  | .jreg, o =>
    o.level = .special && !o.mark && !o.neg && 0x50 ≤ o.index.toNat && o.index.toNat ≤ 0x5F
  | .immOr, o => zeroOrImm o

/-- With JIDX the C field names its index register, checked by check 6 (spec/02 R41). -/
def Info.cAccepts (i : Info) : Bool :=
  i.fields.nx = .jidx || i.cCls.accepts i.uniform i.fields.c

/-- The first of checks 2 to 11 of spec/02 R24 that the word of an instruction fails on an engine. Check 1 is about
bits a term does not have. -/
def Info.failedCheck (e : EngineKind) (i : Info) : Option Nat :=
  if !(e.runs i.uniform i.op) then some 2
  else if modReserved i then some 3
  else if guardReserved i then some 4
  else if i.uniform && (i.fields.nx = .jt || i.fields.nx = .jf) then some 5
  else if selectorConflict i then some 6
  else if 13 ≤ i.fields.sf.toNat then some 7
  else if !(i.dCls.accepts i.uniform i.fields.d) then some 8
  else if !(i.aCls.accepts i.uniform i.fields.a) then some 9
  else if !(i.bCls.accepts i.uniform i.fields.b) then some 10
  else if !i.cAccepts then some 11
  else none

/-- An engine that runs a codepoint: the partition where it can, else the one engine that has the extension. -/
def homeEngine (uniform : Bool) (op : Nat) : EngineKind :=
  if EngineKind.partition.runs uniform op then .partition
  else if EngineKind.churn.runs uniform op then .churn
  else if EngineKind.circuit.runs uniform op then .circuit
  else .command

end Sys2Proof
end

