-- ==== Sys2Proof/WellFormed.lean ====
section
/-! DEFINITION. Well-formed instructions: the word passes every decode check of spec/02 R24 on an engine that runs it. -/

namespace Sys2Proof

/-- The word of an instruction passes checks 2-11 of spec/02 R24 on engine `e`. A step of another agent has no word
and is not a word of any engine. -/
def Instr.wellFormedOn (e : EngineKind) (i : Instr) : Bool :=
  match i.info with
  | some info => info.failedCheck e = none && i.subOpAgrees
  | none => false

/-- A word that some engine decodes, or a step of another agent (which no check of R24 concerns). -/
def Instr.wellFormed (i : Instr) : Bool :=
  match i.info with
  | some info => i.wellFormedOn (homeEngine info.uniform info.op)
  | none => true

end Sys2Proof
end

