-- ==== Sys2Proof/Decode.lean ====
section
/-! DEFINITION. The decoder and the encoder of 128-bit words (spec/02 R21-R29, R36; spec/05 R103, R104). The decoder is
total and answers the number of the first check of R24 that fails. -/

namespace Sys2Proof

/-! ## Field codes -/

/-- Bits [11:10] of an operand field (spec/02 R25). -/
def Level.ofCode (n : Nat) : Level :=
  match n with
  | 0 => .main
  | 1 => .oper
  | 2 => .latch
  | _ => .special

/-- The code of a level. -/
def Level.code : Level → BitVec 2
  | .main => 0#2
  | .oper => 1#2
  | .latch => 2#2
  | .special => 3#2

/-- A 12-bit operand field read (spec/02 R25). -/
def Operand.ofBits (b : BitVec 12) : Operand :=
  ⟨.ofCode (b.extractLsb' 10 2).toNat, b.extractLsb' 2 8, b.getLsbD 1, b.getLsbD 0⟩

/-- A 12-bit operand field written. -/
def Operand.toBits (o : Operand) : BitVec 12 :=
  o.level.code ++ o.index ++ BitVec.ofBool o.mark ++ BitVec.ofBool o.neg

/-- The selector an NX code names (spec/02 R36); 11-15 name none. -/
def Nx.ofCode (n : Nat) : Option Nx :=
  [Nx.seq, .jmp, .jt, .jf, .jut, .juf, .call, .ret, .loop, .exit, .jidx][n]?

/-- The NX code of a selector. -/
def Nx.code : Nx → BitVec 4
  | .seq => 0#4
  | .jmp => 1#4
  | .jt => 2#4
  | .jf => 3#4
  | .jut => 4#4
  | .juf => 5#4
  | .call => 6#4
  | .ret => 7#4
  | .loop => 8#4
  | .exit => 9#4
  | .jidx => 10#4

/-- The fields of a word (spec/02 R21), with the selector given apart because not every NX code names one. -/
def Fields.ofWord (w : InstrWord) (nx : Nx) : Fields where
  guardNeg := w.getLsbD 111
  guardSel := w.extractLsb' 108 3
  mod := w.extractLsb' 112 6
  d := .ofBits (w.extractLsb' 96 12)
  a := .ofBits (w.extractLsb' 84 12)
  b := .ofBits (w.extractLsb' 72 12)
  c := .ofBits (w.extractLsb' 60 12)
  st := w.extractLsb' 56 4
  wt := w.extractLsb' 44 12
  sf := w.extractLsb' 40 4
  yd := w.getLsbD 39
  nx := nx
  imm := w.extractLsb' 0 32

/-- A word from its pipe, opcode and fields (spec/02 R21), with bits [34:32] zero. -/
def Fields.toWord (uniform : Bool) (op : BitVec 9) (f : Fields) : InstrWord :=
  BitVec.ofBool uniform ++ op ++ f.mod ++ BitVec.ofBool f.guardNeg ++ f.guardSel ++ f.d.toBits ++ f.a.toBits
    ++ f.b.toBits ++ f.c.toBits ++ f.st ++ f.wt ++ f.sf ++ BitVec.ofBool f.yd ++ f.nx.code ++ 0#3 ++ f.imm

/-! ## The codepoint maps -/

/-- The instruction of a lane-pipe codepoint (spec/05 R103). -/
def laneInstr (op : Nat) (f : Fields) : Option Instr :=
  match op with
  | 0x001 => some (.nop f)
  | 0x010 => some (.iadd f)
  | 0x011 => some (.isub f)
  | 0x012 => some (.imul f)
  | 0x013 => some (.imulhi f)
  | 0x014 => some (.imad f)
  | 0x015 => some (.imin f)
  | 0x016 => some (.imax f)
  | 0x017 => some (.iabs f)
  | 0x018 => some (.idiv f)
  | 0x019 => some (.irem f)
  | 0x01A => some (.isad f)
  | 0x01B => some (.idp4 f)
  | 0x01C => some (.isum f)
  | 0x01D => some (.imadw f)
  | 0x01E => some (.lea f)
  | 0x01F => some (.leas f)
  | 0x020 => some (.and f)
  | 0x021 => some (.or f)
  | 0x022 => some (.xor f)
  | 0x023 => some (.lut3 f)
  | 0x024 => some (.shl f)
  | 0x025 => some (.shr f)
  | 0x026 => some (.sar f)
  | 0x027 => some (.rot f)
  | 0x028 => some (.catsh f)
  | 0x029 => some (.bxtr f)
  | 0x02A => some (.bins f)
  | 0x02B => some (.ones f)
  | 0x02C => some (.clz f)
  | 0x02D => some (.bitrev f)
  | 0x02E => some (.bysel f)
  | 0x030 => some (.icmp f)
  | 0x031 => some (.fcmp f)
  | 0x032 => some (.dcmp f)
  | 0x033 => some (.d8cmp f)
  | 0x034 => some (.plog f)
  | 0x035 => some (.ptox f)
  | 0x036 => some (.xtop f)
  | 0x037 => some (.fclass f)
  | 0x038 => some (.mov f)
  | 0x039 => some (.sel f)
  | 0x03A => some (.movq f)
  | 0x040 => some (.fadd f)
  | 0x041 => some (.fmul f)
  | 0x042 => some (.ffma f)
  | 0x043 => some (.fmin f)
  | 0x044 => some (.fmax f)
  | 0x045 => some (.fint f)
  | 0x046 => some (.fabs f)
  | 0x048 => some (.dadd f)
  | 0x049 => some (.dmul f)
  | 0x04A => some (.dfma f)
  | 0x04B => some (.dmin f)
  | 0x04C => some (.dmax f)
  | 0x04D => some (.dint f)
  | 0x04E => some (.dabs f)
  | 0x050 => some (.frcp f)
  | 0x051 => some (.frsq f)
  | 0x052 => some (.fsqrt f)
  | 0x053 => some (.fex2 f)
  | 0x054 => some (.flg2 f)
  | 0x055 => some (.fex10 f)
  | 0x056 => some (.flg10 f)
  | 0x057 => some (.fsin f)
  | 0x058 => some (.fcos f)
  | 0x059 => some (.fdiv f)
  | 0x05A => some (.drcp f)
  | 0x05B => some (.dsqrt f)
  | 0x05C => some (.ddiv f)
  | 0x060 => some (.cvti2f f)
  | 0x061 => some (.cvtf2i f)
  | 0x062 => some (.cvtf2f f)
  | 0x063 => some (.cvti2i f)
  | 0x064 => some (.d8pack f)
  | 0x065 => some (.d8unpk f)
  | 0x066 => some (.d8scale f)
  | 0x067 => some (.d8min f)
  | 0x068 => some (.d8max f)
  | 0x06A => some (.pkadd f)
  | 0x06B => some (.pkmul f)
  | 0x06C => some (.pkfma f)
  | 0x06D => some (.pkmin f)
  | 0x06E => some (.pkmax f)
  | 0x070 => some (.perm f)
  | 0x071 => some (.permup f)
  | 0x072 => some (.permdn f)
  | 0x073 => some (.permx f)
  | 0x074 => some (.vote f)
  | 0x075 => some (.ballot f)
  | 0x076 => some (.matchEq f)
  | 0x077 => some (.gredi f)
  | 0x078 => some (.gredf f)
  | 0x079 => some (.gscan f)
  | 0x07C => some (.ldx .b32 f)
  | 0x07D => some (.stx .b32 f)
  | 0x07E => some (.ldx .b64 f)
  | 0x07F => some (.stx .b64 f)
  | 0x080 => some (.ld .b8 f)
  | 0x081 => some (.ld .s8 f)
  | 0x082 => some (.ld .b16 f)
  | 0x083 => some (.ld .s16 f)
  | 0x084 => some (.ld .b32 f)
  | 0x085 => some (.ld .b64 f)
  | 0x086 => some (.ld .b128 f)
  | 0x088 => some (.lda .b32 f)
  | 0x089 => some (.lda .b64 f)
  | 0x08A => some (.pref f)
  | 0x090 => some (.st .b8 .ef f)
  | 0x091 => some (.st .b8 .ga f)
  | 0x092 => some (.st .b16 .ef f)
  | 0x093 => some (.st .b16 .ga f)
  | 0x094 => some (.st .b32 .ef f)
  | 0x095 => some (.st .b32 .ga f)
  | 0x096 => some (.st .b64 .ef f)
  | 0x097 => some (.st .b64 .ga f)
  | 0x098 => some (.st .b128 .ef f)
  | 0x099 => some (.st .b128 .ga f)
  | 0x09C => some (.str .b32 .ef f)
  | 0x09D => some (.str .b32 .ga f)
  | 0x09E => some (.str .b64 .ef f)
  | 0x09F => some (.str .b64 .ga f)
  | 0x0A0 => some (.atom .add .ef f)
  | 0x0A1 => some (.atom .add .ga f)
  | 0x0A2 => some (.atom .min .ef f)
  | 0x0A3 => some (.atom .min .ga f)
  | 0x0A4 => some (.atom .max .ef f)
  | 0x0A5 => some (.atom .max .ga f)
  | 0x0A6 => some (.atom .and .ef f)
  | 0x0A7 => some (.atom .and .ga f)
  | 0x0A8 => some (.atom .or .ef f)
  | 0x0A9 => some (.atom .or .ga f)
  | 0x0AA => some (.atom .xor .ef f)
  | 0x0AB => some (.atom .xor .ga f)
  | 0x0AC => some (.atom .exch .ef f)
  | 0x0AD => some (.atom .exch .ga f)
  | 0x0AE => some (.atom .cas .ef f)
  | 0x0AF => some (.atom .cas .ga f)
  | 0x0B0 => some (.red .add .ef f)
  | 0x0B1 => some (.red .add .ga f)
  | 0x0B2 => some (.red .min .ef f)
  | 0x0B3 => some (.red .min .ga f)
  | 0x0B4 => some (.red .max .ef f)
  | 0x0B5 => some (.red .max .ga f)
  | 0x0B6 => some (.red .and .ef f)
  | 0x0B7 => some (.red .and .ga f)
  | 0x0B8 => some (.red .or .ef f)
  | 0x0B9 => some (.red .or .ga f)
  | 0x0BA => some (.red .xor .ef f)
  | 0x0BB => some (.red .xor .ga f)
  | 0x0C0 => some (.ratom .add f)
  | 0x0C1 => some (.ratom .min f)
  | 0x0C2 => some (.ratom .max f)
  | 0x0C3 => some (.ratom .and f)
  | 0x0C4 => some (.ratom .or f)
  | 0x0C5 => some (.ratom .xor f)
  | 0x0C6 => some (.ratom .exch f)
  | 0x0C7 => some (.ratom .cas f)
  | 0x0C8 => some (.rld .b32 f)
  | 0x0C9 => some (.rld .b64 f)
  | 0x0CA => some (.rst .b32 f)
  | 0x0CB => some (.rst .b64 f)
  | 0x0CC => some (.ffence f)
  | 0x0D0 => some (.fence f)
  | 0x0D1 => some (.fencex f)
  | 0x0D2 => some (.drain f)
  | 0x0D4 => some (.xbegin f)
  | 0x0D5 => some (.xend f)
  | 0x0D6 => some (.xabort f)
  | 0x0E0 => some (.bar f)
  | 0x0E1 => some (.bara f)
  | 0x0E2 => some (.barc f)
  | 0x0E3 => some (.bard f)
  | 0x0E4 => some (.jset f)
  | 0x0E5 => some (.join f)
  | 0x0E6 => some (.jdrop f)
  | 0x0E7 => some (.wwait f)
  | 0x0E8 => some (.cbpost f)
  | 0x0E9 => some (.cbwait f)
  | 0x0F0 => if f.modHi == 3 then some (.tfeedStab f) else some (.tfeed f)
  | 0x0F1 => some (.tdrain f)
  | 0x0F2 => some (.emit f)
  | 0x0F8 => some (.trap f)
  | 0x0F9 => some (.bkpt f)
  | 0x0FA => some (.yield f)
  | _ => none

/-- The instruction of a uniform-pipe codepoint (spec/05 R104). -/
def uniformInstr (op : Nat) (f : Fields) : Option Instr :=
  match op with
  | 0x001 => some (.unop f)
  | 0x010 => some (.uiadd f)
  | 0x011 => some (.uisub f)
  | 0x012 => some (.uimul f)
  | 0x013 => some (.uimulhi f)
  | 0x014 => some (.uimad f)
  | 0x015 => some (.uimin f)
  | 0x016 => some (.uimax f)
  | 0x017 => some (.uiabs f)
  | 0x018 => some (.uidiv f)
  | 0x019 => some (.uirem f)
  | 0x01A => some (.uisad f)
  | 0x01B => some (.uidp4 f)
  | 0x01C => some (.uisum f)
  | 0x01D => some (.uimadw f)
  | 0x01E => some (.ulea f)
  | 0x01F => some (.uleas f)
  | 0x020 => some (.uand f)
  | 0x021 => some (.uor f)
  | 0x022 => some (.uxor f)
  | 0x023 => some (.ulut3 f)
  | 0x024 => some (.ushl f)
  | 0x025 => some (.ushr f)
  | 0x026 => some (.usar f)
  | 0x027 => some (.urot f)
  | 0x028 => some (.ucatsh f)
  | 0x029 => some (.ubxtr f)
  | 0x02A => some (.ubins f)
  | 0x02B => some (.uones f)
  | 0x02C => some (.uclz f)
  | 0x02D => some (.ubitrev f)
  | 0x02E => some (.ubysel f)
  | 0x030 => some (.uicmp f)
  | 0x031 => some (.ufcmp f)
  | 0x034 => some (.uplog f)
  | 0x035 => some (.uptox f)
  | 0x036 => some (.uxtop f)
  | 0x038 => some (.umov f)
  | 0x039 => some (.usel f)
  | 0x03B => some (.ureadl f)
  | 0x040 => some (.ufadd f)
  | 0x041 => some (.ufmul f)
  | 0x042 => some (.uffma f)
  | 0x043 => some (.ufmin f)
  | 0x044 => some (.ufmax f)
  | 0x060 => some (.ucvti2f f)
  | 0x061 => some (.ucvtf2i f)
  | 0x084 => some (.uld .b32 f)
  | 0x085 => some (.uld .b64 f)
  | 0x086 => some (.uld .b128 f)
  | 0x088 => some (.ulda .b32 f)
  | 0x089 => some (.ulda .b64 f)
  | 0x094 => some (.ust .b32 .ef f)
  | 0x095 => some (.ust .b32 .ga f)
  | 0x096 => some (.ust .b64 .ef f)
  | 0x097 => some (.ust .b64 .ga f)
  | 0x098 => some (.ust .b128 .ef f)
  | 0x099 => some (.ust .b128 .ga f)
  | 0x09C => some (.ustr .b32 .ef f)
  | 0x09D => some (.ustr .b32 .ga f)
  | 0x09E => some (.ustr .b64 .ef f)
  | 0x09F => some (.ustr .b64 .ga f)
  | 0x0A0 => some (.uatom .add .ef f)
  | 0x0A1 => some (.uatom .add .ga f)
  | 0x0A2 => some (.uatom .min .ef f)
  | 0x0A3 => some (.uatom .min .ga f)
  | 0x0A4 => some (.uatom .max .ef f)
  | 0x0A5 => some (.uatom .max .ga f)
  | 0x0A6 => some (.uatom .and .ef f)
  | 0x0A7 => some (.uatom .and .ga f)
  | 0x0A8 => some (.uatom .or .ef f)
  | 0x0A9 => some (.uatom .or .ga f)
  | 0x0AA => some (.uatom .xor .ef f)
  | 0x0AB => some (.uatom .xor .ga f)
  | 0x0AC => some (.uatom .exch .ef f)
  | 0x0AD => some (.uatom .exch .ga f)
  | 0x0AE => some (.uatom .cas .ef f)
  | 0x0AF => some (.uatom .cas .ga f)
  | 0x0B0 => some (.ured .add .ef f)
  | 0x0B1 => some (.ured .add .ga f)
  | 0x0B2 => some (.ured .min .ef f)
  | 0x0B3 => some (.ured .min .ga f)
  | 0x0B4 => some (.ured .max .ef f)
  | 0x0B5 => some (.ured .max .ga f)
  | 0x0B6 => some (.ured .and .ef f)
  | 0x0B7 => some (.ured .and .ga f)
  | 0x0B8 => some (.ured .or .ef f)
  | 0x0B9 => some (.ured .or .ga f)
  | 0x0BA => some (.ured .xor .ef f)
  | 0x0BB => some (.ured .xor .ga f)
  | 0x0C8 => some (.urld .b32 f)
  | 0x0C9 => some (.urld .b64 f)
  | 0x0CA => some (.urst .b32 f)
  | 0x0CB => some (.urst .b64 f)
  | 0x0CC => some (.uffence f)
  | 0x0D0 => some (.ufence f)
  | 0x0D1 => some (.ufencex f)
  | 0x0D2 => some (.udrain f)
  | 0x0E7 => some (.uwwait f)
  | 0x0E8 => some (.ucbpost f)
  | 0x0E9 => some (.ucbwait f)
  | 0x0F8 => some (.utrap f)
  | 0x0F9 => some (.ubkpt f)
  | 0x0FA => some (.uyield f)
  | 0x100 => some (.tcopy f)
  | 0x101 => some (.tclose f)
  | 0x102 => some (.twait f)
  | 0x103 => some (.lease f)
  | 0x104 => some (.leasem f)
  | 0x105 => some (.lrel f)
  | 0x106 => some (.enq f)
  | 0x110 => some (.eret f)
  | 0x111 => some (.crd f)
  | 0x112 => some (.cwr f)
  | 0x113 => some (.halt f)
  | 0x180 => some (.mma f)
  | 0x181 => some (.mmag f)
  | 0x182 => some (.mzero f)
  | 0x183 => if f.modHi == 1 then some (.mmovCopy f) else some (.mmovDrain f)
  | 0x184 => some (.mld f)
  | 0x185 => some (.mst f)
  | 0x1A0 => some (.creq f)
  | 0x1A1 => some (.cawait f)
  | 0x1A2 => some (.cuse f)
  | 0x1A3 => some (.crel f)
  | 0x1A4 => some (.pldrain f)
  | 0x1A5 => some (.pljoin f)
  | 0x1A6 => some (.wsend f)
  | 0x1A7 => some (.wrecv f)
  | 0x1A8 => some (.wpoll f)
  | 0x1A9 => if f.modHi == 0 then some (.tmrRead f) else if f.modHi == 1 then some (.tmrSet f)
    else if f.modHi == 2 then some (.tmrWait f) else some (.tmrCancel f)
  | 0x1C0 => some (.evtake f)
  | 0x1C1 => some (.evpost f)
  | 0x1C2 => some (.qlock f)
  | 0x1C3 => some (.qfree f)
  | _ => none

/-- The instruction of a codepoint of the pipe P names. -/
def codepointInstr (uniform : Bool) (op : Nat) (f : Fields) : Option Instr :=
  if uniform then uniformInstr op f else laneInstr op f

/-! ## Decoding -/

/-- Decode a word on an engine: the instruction, or the number of the first check of spec/02 R24 that fails. -/
def decode (e : EngineKind) (w : InstrWord) : Except Nat Instr :=
  if w.extractLsb' 32 3 != 0#3 then .error 1
  else
    let uniform := w.getLsbD 127
    let op := (w.extractLsb' 118 9).toNat
    let nx := Nx.ofCode (w.extractLsb' 35 4).toNat
    match codepointInstr uniform op (.ofWord w (nx.getD .seq)) with
    | none => .error 2
    | some i =>
      match i.info with
      | none => .error 2
      | some info =>
        match info.failedCheck e, nx with
        | none, some _ => .ok i
        | some n, some _ => .error n
        | none, none => .error 5
        | some n, none => .error (min n 5)

/-- The 128-bit word of 16 bytes, the first byte lowest (spec/00 R1). -/
def wordOfBytes (bs : List Byte) : InstrWord :=
  bs.foldr (fun b acc => (acc <<< 8) ||| b.setWidth 128) 0#128

/-- The 16 bytes of a word, the byte at the lowest address first (spec/00 R1). -/
def bytesOfWord (w : InstrWord) : List Byte :=
  (List.range 16).map (fun n => w.extractLsb' (8 * n) 8)

/-- The engine `decodeTableWord` decodes a word on: the one that runs its codepoint. -/
def wordEngine (w : InstrWord) : EngineKind :=
  homeEngine (w.getLsbD 127) (w.extractLsb' 118 9).toNat

/-- The instruction the decoder reads from a word numbered as spec/opcode_table.json numbers it, every bit above
`nbits` zero; none where it refuses. -/
def decodeTableWord (nbits w : Nat) : Option Instr :=
  let word := wordOfBytes (bytesOfWord (BitVec.ofNat 128 (w % 2 ^ nbits)))
  (decode (wordEngine word) word).toOption

/-! ## Encoding -/

/-- The word of an instruction (spec/02 R21, spec/05 R103, R104); the other agents' steps have none. -/
def encode (i : Instr) : Option InstrWord :=
  match i.info with
  | some info => some (info.fields.toWord info.uniform (BitVec.ofNat 9 info.op))
  | none => none

end Sys2Proof
end

