-- ==== Sys2Proof/Config.lean ====
section
/-! DEFINITION. What an implementation fixes and the spec leaves open. Every `opaque` constant is a free value: it has
no body, so nothing can evaluate it and a statement about it holds for every value it may have. -/

namespace Sys2Proof

/-- The rows of spec/06 R130 whose result the spec gives only within a bound of ulps. -/
inductive SpecialFn where
  | rsq | ex2 | lg2 | ex10 | lg10 | sin | cos
  deriving DecidableEq, Repr

namespace Config

/-- Which of the values within its bound a special function returns outside its exact cases: one fixed choice per input
(spec/06 R130, R385). Free: log 15. -/
opaque specialValue : SpecialFn → Word → Word

/-- A fresh free value for each count; log 4. -/
opaque freeValue : Nat → BitVec 64

/-- A byte of a peer package's memory that no remote operation of this package has written, by place (spec/07 R161).
Free: log 24. -/
opaque peerByte : Nat → Byte

/-- The digest of a byte string under the device's hash (spec/21 R372, R375). Free: log 16. -/
opaque digest : List Byte → List Byte

/-- The Ed448 signature of a byte string under the identity key with the given number (spec/17 R334, spec/21 R375).
Free: log 16. -/
opaque sign : Nat → List Byte → List Byte

/-- Was a certificate in the operator roster that management had set when the package left the factory (spec/21 R377)?
Free: log 14. -/
opaque factoryOperator : List Byte → Bool

/-- Was an identity key in the pod roster of that time (spec/17 R334)? Free: log 14. -/
opaque factoryPeer : List Byte → Bool

/-- A byte of this package's identity public key (spec/17 R334, spec/21 R375). Free: log 16. -/
opaque identityByte : Nat → Byte

/-- A byte of an ephemeral public key, by draw (spec/17 R334). Free: log 16. -/
opaque ephemeralByte : Nat → Nat → Byte

/-- A byte of this side's signature of the transcript of a key agreement, by draw and what it has sent and both sides know
beforehand (spec/17 R334). Free: log 16. -/
opaque keySigByte : Nat → List Byte → Nat → Byte

/-- A byte of the X448 shared secret, by draw and the peer's ephemeral key (spec/17 R334). Free: log 16. -/
opaque sharedByte : Nat → List Byte → Nat → Byte

/-- A byte of SHAKE256 over bytes (spec/17 R334). Free: log 16. -/
opaque shakeByte : List Byte → Nat → Byte

/-- A byte of AES-256-GCM's ciphertext and tag, by key, nonce, the header before the message, and the message (spec/17
R335). Free: log 16. -/
opaque gcmByte : List Byte → BitVec 96 → List Byte → List Byte → Nat → Byte

/-- The MAC address of a Whey port, and the package's IPv6 address, which no record names (spec/17 R336). Free: log 92. -/
opaque wheyMac : Nat → BitVec 48
opaque wheyIp : BitVec 128

/-- The body of an answer whose layout the SPDM standard gives and the spec does not (spec/21 R375), by message code,
request and draw. Free: log 16. -/
opaque spdmBody : Nat → List Byte → Nat → List Byte

/-- The smoothed round trip after one more sample, from the last one and the sample (spec/17 R339, which names no
formula). Free: log 38. -/
opaque smoothRtt : Nat → Nat → Nat

/-- The digest of the ROM (1) or the boot image (2) that a start measures (spec/21 R375). Free: log 16. -/
opaque imageDigest : Nat → List Byte

/-- A byte of a 128-byte line of far memory that was encrypted with the key pair of one generation and is decrypted with
that of another, by both, the line's number, the bytes encrypted, and its place (spec/15 R306). Free: log 16. -/
opaque xtsByte : Nat → Nat → Nat → List Byte → Nat → Byte

/-- A byte that a context's image or a swapped-out team leaves in its save area (spec/15 R294, R297), by draw and
address: the spec gives those bytes no layout. Free: log 30. -/
opaque saveByte : Nat → Nat → Byte

/-- Where in near DRAM of die 0 firmware writes the handover structure (spec/21 R373). Free: log 90. -/
opaque handoverAt : Nat

/-- The minor version of that structure. Free: log 90. -/
opaque handoverMinor : BitVec 8

/-- Where in near DRAM of die 0 the tables stand that it names. Free: log 90. -/
opaque handoverTable : Nat → Nat

/-- How many bytes each of those tables has whose layout the spec does not give. Free: log 90. -/
opaque handoverSize : Nat → Nat

/-- A byte of such a table, by table, draw and place. Free: log 90. -/
opaque handoverByte : Nat → Nat → Nat → Byte

/-- The signature of the boot-step record under the boot key (spec/21 R370), by the bytes signed over: 114 of them are
taken. Free: log 47. -/
opaque bootSign : List Byte → List Byte

end Config

end Sys2Proof
end

