-- ==== Sys2Proof/Machine/Float.lean ====
section
/-! DEFINITION. Exact numbers, the four binary formats of spec/04 R82 and their rounding (R83-R86). A value is computed
exactly as a fraction and rounded once at the end. -/

namespace Sys2Proof.Machine

/-! ## Exact fractions -/

/-- A fraction num / den; every fraction the model builds has a positive denominator. -/
structure Frac where
  num : Int
  den : Nat
  deriving DecidableEq, Repr

/-- The fraction of an integer. -/
def Frac.ofInt (n : Int) : Frac := ⟨n, 1⟩

/-- Sum. -/
def Frac.add (a b : Frac) : Frac := ⟨a.num * b.den + b.num * a.den, a.den * b.den⟩

/-- Negation. -/
def Frac.neg (a : Frac) : Frac := ⟨-a.num, a.den⟩

/-- Product. -/
def Frac.mul (a b : Frac) : Frac := ⟨a.num * b.num, a.den * b.den⟩

/-- Quotient by a nonzero fraction. -/
def Frac.div (a b : Frac) : Frac := ⟨a.num * b.den * b.num.sign, a.den * b.num.natAbs⟩

/-- a < b. -/
def Frac.lt (a b : Frac) : Bool := a.num * b.den < b.num * a.den

/-- a = b as values. -/
def Frac.eqv (a b : Frac) : Bool := a.num * b.den == b.num * a.den

/-- Absolute value. -/
def Frac.abs (a : Frac) : Frac := ⟨a.num.natAbs, a.den⟩

/-- The largest integer not above the fraction. -/
def Frac.floor (a : Frac) : Int := a.num.fdiv a.den

/-- base ^ k for an integer k. -/
def Frac.pow (base : Nat) (k : Int) : Frac :=
  if 0 ≤ k then ⟨base ^ k.toNat, 1⟩ else ⟨1, base ^ (-k).toNat⟩

/-- Times base ^ k. -/
def Frac.scale (a : Frac) (base : Nat) (k : Int) : Frac := a.mul (Frac.pow base k)

/-! ## Formats -/

/-- The binary formats, in the order of the CV layout's float codes (spec/05 R101). -/
inductive FloatFmt where
  | f32 | f16 | bf16 | f64
  deriving DecidableEq, Repr

/-- The format of a code: 0 `.f32`, 1 `.f16`, 2 `.bf16`, 3 `.f64`. -/
def FloatFmt.ofCode (n : Nat) : FloatFmt :=
  match n with
  | 0 => .f32
  | 1 => .f16
  | 2 => .bf16
  | _ => .f64

/-- Fraction bits (spec/04 R82). -/
def FloatFmt.fracBits : FloatFmt → Nat
  | .f32 => 23
  | .f16 => 10
  | .bf16 => 7
  | .f64 => 52

/-- Exponent bits. -/
def FloatFmt.expBits : FloatFmt → Nat
  | .f32 => 8
  | .f16 => 5
  | .bf16 => 8
  | .f64 => 11

/-- Exponent bias. -/
def FloatFmt.bias (f : FloatFmt) : Int := 2 ^ (f.expBits - 1) - 1

/-- Bits of the format. -/
def FloatFmt.width (f : FloatFmt) : Nat := 1 + f.expBits + f.fracBits

/-- The pattern of +infinity. -/
def FloatFmt.infBits (f : FloatFmt) : Nat := (2 ^ f.expBits - 1) * 2 ^ f.fracBits

/-- The canonical NaN (spec/04 R82). -/
def FloatFmt.nanBits (f : FloatFmt) : Nat := f.infBits + 2 ^ (f.fracBits - 1)

/-- The sign bit's weight. -/
def FloatFmt.signBit (f : FloatFmt) : Nat := 2 ^ (f.width - 1)

/-- Rounding modes (spec/04 R83). -/
inductive RoundMode where
  | rn | rz | rp | rm
  deriving DecidableEq, Repr

/-- The mode of a 2-bit code. -/
def RoundMode.ofCode (n : Nat) : RoundMode :=
  match n with
  | 0 => .rn
  | 1 => .rz
  | 2 => .rp
  | _ => .rm

/-! ## Numbers -/

/-- A number of a binary format or an exact result: NaN, an infinity, or a finite value with the sign a zero has
(`neg` agrees with the value's sign when it is not zero). -/
inductive FloatNum where
  | nan
  | inf (neg : Bool)
  | fin (neg : Bool) (v : Frac)
  deriving DecidableEq, Repr

/-- The sign of a pattern. -/
def FloatFmt.isNeg (f : FloatFmt) (x : Nat) : Bool := x / f.signBit % 2 == 1

/-- The biased exponent field of a pattern. -/
def FloatFmt.expField (f : FloatFmt) (x : Nat) : Nat := x / 2 ^ f.fracBits % 2 ^ f.expBits

/-- The fraction field of a pattern. -/
def FloatFmt.fracField (f : FloatFmt) (x : Nat) : Nat := x % 2 ^ f.fracBits

/-- The number a pattern of the format stands for (spec/04 R82, R84: subnormals kept; R85: every NaN alike). -/
def FloatFmt.decode (f : FloatFmt) (x : Nat) : FloatNum :=
  let neg := f.isNeg x
  let e := f.expField x
  let m := f.fracField x
  if e == 2 ^ f.expBits - 1 then
    if m == 0 then .inf neg else .nan
  else
    let sig : Int := if e == 0 then m else m + 2 ^ f.fracBits
    let ex : Int := (if e == 0 then 1 else (e : Int)) - f.bias - f.fracBits
    .fin neg (Frac.scale (Frac.ofInt (if neg then -sig else sig)) 2 ex)

/-- Floor of log2 of num / den, both positive. -/
def log2Frac (num den : Nat) : Int :=
  let g : Int := (num.log2 : Int) - den.log2
  if (Frac.pow 2 g).num * den ≤ num * ((Frac.pow 2 g).den : Int) then g else g - 1

/-- Should a truncated magnitude with remainder `rem` of `den` grow by one unit (spec/04 R83)? -/
def RoundMode.up (mode : RoundMode) (neg odd : Bool) (rem den : Nat) : Bool :=
  match mode with
  | .rn => den < 2 * rem || (2 * rem == den && odd)
  | .rz => false
  | .rp => !neg && rem != 0
  | .rm => neg && rem != 0

/-- An overflow under a mode: infinity or the largest finite value (spec/04 R83). -/
def FloatFmt.overflow (f : FloatFmt) (mode : RoundMode) (neg : Bool) : Nat :=
  match mode, neg with
  | .rn, _ | .rp, false | .rm, true => f.infBits
  | .rz, _ | .rp, true | .rm, false => f.infBits - 1

/-- The magnitude pattern of the positive value num / den, rounded once. -/
def FloatFmt.roundMag (f : FloatFmt) (mode : RoundMode) (neg : Bool) (num den : Nat) : Nat :=
  let emin : Int := 1 - f.bias
  let e := max (log2Frac num den) emin
  let unit := Frac.pow 2 (e - f.fracBits)
  let n := num * unit.den
  let d := den * unit.num.toNat
  let q := n / d
  let q' := if mode.up neg (q % 2 == 1) (n % d) d then q + 1 else q
  let bits := (e - emin).toNat * 2 ^ f.fracBits + q'
  if f.infBits ≤ bits then f.overflow mode neg else bits

/-- The pattern of a number in a format, rounded once under a mode (spec/04 R83-R85). -/
def FloatFmt.round (f : FloatFmt) (mode : RoundMode) : FloatNum → Nat
  | .nan => f.nanBits
  | .inf neg => f.infBits + if neg then f.signBit else 0
  | .fin neg v =>
    if v.num == 0 then (if neg then f.signBit else 0)
    else
      let s : Bool := v.num < 0
      f.roundMag mode s v.num.natAbs v.den + if s then f.signBit else 0

/-! ## Exact operations (spec/04 R84, R85; IEEE 754-2019) -/

/-- The number negated. -/
def FloatNum.neg : FloatNum → FloatNum
  | .nan => .nan
  | .inf n => .inf (!n)
  | .fin n v => .fin (!n) v.neg

/-- A finite exact value whose zero is +0. -/
def FloatNum.ofFrac (v : Frac) : FloatNum := .fin (v.num < 0) v

/-- Exact sum. A zero sum of opposite signs is +0, except under `.rm` (spec/04 R84). -/
def FloatNum.add (mode : RoundMode) : FloatNum → FloatNum → FloatNum
  | .nan, _ | _, .nan => .nan
  | .inf a, .inf b => if a = b then .inf a else .nan
  | .inf a, .fin _ _ => .inf a
  | .fin _ _, .inf b => .inf b
  | .fin a u, .fin b v =>
    let s := u.add v
    .fin (if s.num == 0 then (if a = b then a else mode = .rm) else s.num < 0) s

/-- Exact product. -/
def FloatNum.mul : FloatNum → FloatNum → FloatNum
  | .nan, _ | _, .nan => .nan
  | .inf a, .inf b => .inf (a != b)
  | .inf a, .fin b v => if v.num == 0 then .nan else .inf (a != b)
  | .fin a u, .inf b => if u.num == 0 then .nan else .inf (a != b)
  | .fin a u, .fin b v => .fin (a != b) (u.mul v)

/-- Exact quotient. -/
def FloatNum.div : FloatNum → FloatNum → FloatNum
  | .nan, _ | _, .nan => .nan
  | .inf _, .inf _ => .nan
  | .inf a, .fin b _ => .inf (a != b)
  | .fin a _, .inf b => .fin (a != b) ⟨0, 1⟩
  | .fin a u, .fin b v =>
    if v.num == 0 then (if u.num == 0 then .nan else .inf (a != b))
    else .fin (a != b) (u.div v)

/-- Is the number NaN? -/
def FloatNum.isNaN : FloatNum → Bool
  | .nan => true
  | .inf _ | .fin _ _ => false

/-- a < b on numbers that are not NaN; -0 equals +0. -/
def FloatNum.lt : FloatNum → FloatNum → Bool
  | .nan, _ | _, .nan => false
  | .inf a, .inf b => a && !b
  | .inf a, .fin _ _ => a
  | .fin _ _, .inf b => !b
  | .fin _ u, .fin _ v => u.lt v

/-- a = b on numbers that are not NaN; -0 equals +0. -/
def FloatNum.eq : FloatNum → FloatNum → Bool
  | .inf a, .inf b => a == b
  | .fin _ u, .fin _ v => u.eqv v
  | .nan, _ | .inf _, _ | .fin _ _, _ => false

/-- Rounded to an integer under a mode (spec/04 R86). -/
def roundInt (mode : RoundMode) (v : Frac) : Int :=
  let neg : Bool := v.num < 0
  let q := v.num.natAbs / v.den
  let r := v.num.natAbs % v.den
  let m : Nat := if mode.up neg (q % 2 == 1) r v.den then q + 1 else q
  if neg then -m else m

/-- Rounded to an integral value; zeros and infinities unchanged, the sign kept (spec/06 R126, FINT). -/
def FloatNum.integral (mode : RoundMode) : FloatNum → FloatNum
  | .nan => .nan
  | .inf a => .inf a
  | .fin a v => if v.num == 0 then .fin a v else .fin (v.num < 0) (Frac.ofInt (roundInt mode v))

/-! ## Square roots -/

/-- Bits n-1 down to 0 of the integer square root, given the bits above. -/
def isqrtFrom (x : Nat) : Nat → Nat → Nat
  | 0, r => r
  | n + 1, r => isqrtFrom x n (if (r + 2 ^ n) * (r + 2 ^ n) ≤ x then r + 2 ^ n else r)

/-- The largest r with r * r ≤ x. -/
def isqrt (x : Nat) : Nat := isqrtFrom x (x.log2 / 2 + 1) 0

/-- A value that rounds as the square root of a positive v does in every format of R82: the root to 128 binary places
below the leading one, with a further bit set when the root is not exact. -/
def sqrtSticky (v : Frac) : Frac :=
  let k : Int := 128 - (log2Frac v.num.natAbs v.den).fdiv 2
  let w := Frac.scale v 2 (2 * k)
  let n := w.floor.toNat
  let r := isqrt n
  let exact : Bool := r * r == n && (Frac.ofInt n).eqv w
  Frac.scale (Frac.ofInt (2 * r + if exact then 0 else 1)) 2 (-(k + 1))

/-- Square root for rounding (spec/06 R130, FSQRT). -/
def FloatNum.sqrt : FloatNum → FloatNum
  | .nan => .nan
  | .inf neg => if neg then .nan else .inf false
  | .fin neg v =>
    if v.num == 0 then .fin neg v
    else if neg then .nan
    else .fin false (sqrtSticky v)

/-! ## Minimum, maximum, class -/

/-- Total order of values with -0 below +0, on numbers that are not NaN. -/
def FloatNum.below (a b : FloatNum) : Bool :=
  a.lt b || (a.eq b && match a, b with
    | .fin na _, .fin nb _ => na && !nb
    | _, _ => false)

/-- FMIN on patterns of a format (spec/06 R127). -/
def FloatFmt.minBits (f : FloatFmt) (x y : Nat) : Nat :=
  let a := f.decode x
  let b := f.decode y
  if a.isNaN && b.isNaN then f.nanBits
  else if a.isNaN then y
  else if b.isNaN then x
  else if b.below a then y else x

/-- FMAX on patterns of a format (spec/06 R127). -/
def FloatFmt.maxBits (f : FloatFmt) (x y : Nat) : Nat :=
  let a := f.decode x
  let b := f.decode y
  if a.isNaN && b.isNaN then f.nanBits
  else if a.isNaN then y
  else if b.isNaN then x
  else if a.below b then y else x

/-- The bit FCLASS sets (spec/06 R128). -/
def FloatFmt.classBit (f : FloatFmt) (x : Nat) : Nat :=
  let neg := f.isNeg x
  let e := f.expField x
  let m := f.fracField x
  if e == 2 ^ f.expBits - 1 then
    if m == 0 then (if neg then 0 else 7)
    else if m < 2 ^ (f.fracBits - 1) then 8 else 9
  else if e == 0 then
    if m == 0 then (if neg then 3 else 4) else (if neg then 2 else 5)
  else if neg then 1 else 6

/-! ## Conversions (spec/04 R86, R92) -/

/-- Clamp an integer to a range of `w` bits. -/
def clampInt (signed : Bool) (w : Nat) (v : Int) : Int :=
  if signed then max (-(2 ^ (w - 1))) (min (2 ^ (w - 1) - 1) v)
  else max 0 (min (2 ^ w - 1) v)

/-- Float to integer: rounded under the mode, clamped; infinities clamp, NaN gives 0 (spec/04 R86). -/
def floatToInt (mode : RoundMode) (signed : Bool) (w : Nat) : FloatNum → Int
  | .nan => 0
  | .inf neg => clampInt signed w (if neg then -(2 ^ 64) else 2 ^ 64)
  | .fin _ v => clampInt signed w (roundInt mode v)

/-- Integer to float, rounded under the mode (spec/04 R86). -/
def intToFloat (f : FloatFmt) (mode : RoundMode) (v : Int) : Nat := f.round mode (FloatNum.ofFrac (Frac.ofInt v))

/-- An FP32 pattern widened exactly to FP64 (spec/06 R111). -/
def widen32to64 (x : Nat) : Nat := FloatFmt.f64.round .rn (FloatFmt.f32.decode x)

end Sys2Proof.Machine
end

