-- ==== Sys2Proof/Machine/Bounded.lean ====
section
/-! DEFINITION. The functions of spec/06 R130 whose result the spec bounds by a number of ulps of the exact one. The
exact value is computed in fixed point far beyond the ulp; among the FP32 values within the bound, `Config.specialValue`
picks one, and nothing can say which (log 15). -/

namespace Sys2Proof.Machine

/-! ## Fixed point, 448 places below the binary point -/

/-- One. -/
def fixOne : Int := 2 ^ 448

/-- A fraction in fixed point. -/
def Frac.toFix (v : Frac) : Int := (v.num * fixOne).fdiv v.den

/-- A fixed-point value as a fraction. -/
def fixFrac (x : Int) : Frac := ⟨x, 2 ^ 448⟩

/-- The sum of `n` terms of a series from term `k` on, each made from a power that grows by the factor `z`. -/
def fixSeries (term : Nat → Int → Int) (z : Int) : Nat → Nat → Int → Int
  | 0, _, _ => 0
  | n + 1, k, p => term k p + fixSeries term z n (k + 1) ((p * z).fdiv fixOne)

/-- n factorial. -/
def factorial : Nat → Nat
  | 0 => 1
  | n + 1 => (n + 1) * factorial n

/-- The inverse hyperbolic tangent of a small value. -/
def fixAtanh (z : Int) : Int :=
  fixSeries (fun k p => p.fdiv (2 * k + 1)) ((z * z).fdiv fixOne) 140 0 z

/-- The inverse tangent of 1 / m. -/
def fixAtanInv (m : Nat) : Int :=
  let z : Int := fixOne.fdiv m
  fixSeries (fun k p => p.fdiv (2 * k + 1)) (-(z * z).fdiv fixOne) 100 0 z

/-- π, by Machin's formula. -/
def fixPi : Int := 16 * fixAtanInv 5 - 4 * fixAtanInv 239

/-- The natural logarithm of 2. -/
def fixLn2 : Int := 2 * fixAtanh (fixOne.fdiv 3)

/-- The natural logarithm of 10. -/
def fixLn10 : Int := 3 * fixLn2 + 2 * fixAtanh (fixOne.fdiv 9)

/-- e to a small power. -/
def fixExp (x : Int) : Int := fixSeries (fun k p => p.fdiv (factorial k)) x 80 0 fixOne

/-- The sine of an angle of at most π / 4. -/
def fixSin (x : Int) : Int :=
  fixSeries (fun k p => p.fdiv (factorial (2 * k + 1))) (-((x * x).fdiv fixOne)) 45 0 x

/-- The cosine of an angle of at most π / 4. -/
def fixCos (x : Int) : Int :=
  fixSeries (fun k p => p.fdiv (factorial (2 * k))) (-((x * x).fdiv fixOne)) 45 0 fixOne

/-! ## The exact values -/

/-- sin (v + q π / 2), the argument reduced exactly. -/
def sinExact (v : Frac) (q : Int) : Frac :=
  let x := v.toFix
  let half := fixPi.fdiv 2
  let k := (2 * x + half).fdiv (2 * half)
  let r := x - k * half
  fixFrac (match ((k + q).emod 4).toNat with
    | 0 => fixSin r
    | 1 => fixCos r
    | 2 => -fixSin r
    | _ => -fixCos r)

/-- 2 to a power in fixed point. A power beyond ±400 is taken as ±400, far outside the format either way. -/
def exp2Fix (x : Int) : Frac :=
  let y := max (-400 * fixOne) (min (400 * fixOne) x)
  let n := y.fdiv fixOne
  Frac.scale (fixFrac (fixExp (((y - n * fixOne) * fixLn2).fdiv fixOne))) 2 n

/-- The natural logarithm of a positive value, in fixed point. -/
def lnFix (v : Frac) : Int :=
  let n := log2Frac v.num.natAbs v.den
  let m := Frac.scale v 2 (-n)
  n * fixLn2 + 2 * fixAtanh (Frac.toFix ((m.add (Frac.ofInt (-1))).div (m.add (Frac.ofInt 1))))

/-- The exact value of a row's function at a finite argument inside its domain, to far more places than its bound. -/
def specialExact (fn : SpecialFn) (v : Frac) : Frac :=
  match fn with
  | .rsq => (Frac.ofInt 1).div (sqrtSticky v)
  | .ex2 => exp2Fix v.toFix
  | .ex10 =>
    let y := max (-400 * fixOne) (min (400 * fixOne) v.toFix)
    exp2Fix ((y * fixLn10).fdiv fixLn2)
  | .lg2 => ⟨lnFix v, fixLn2.toNat⟩
  | .lg10 => ⟨lnFix v, fixLn10.toNat⟩
  | .sin => sinExact v 0
  | .cos => sinExact v 1

/-- The ulps of a row's bound (spec/06 R130). -/
def specialUlps : SpecialFn → Nat
  | .rsq => 1
  | .ex2 | .lg2 | .sin | .cos => 2
  | .ex10 | .lg10 => 3

/-! ## The values within the bound -/

/-- The ulp of an exact nonzero value in FP32. -/
def ulpOf (v : Frac) : Frac := Frac.pow 2 (max (log2Frac v.num.natAbs v.den) (-126) - 23)

/-- The value of a place on the line of FP32 values: 0 at zero, n at the n-th value above it, -n below; infinity stands
one step above the largest finite value. -/
def placeValue (n : Int) : Frac :=
  let m : Frac := if n.natAbs < FloatFmt.f32.infBits then
    (match FloatFmt.f32.decode n.natAbs with
      | .fin _ v => v
      | .nan | .inf _ => Frac.pow 2 128)
    else Frac.pow 2 128
  if n < 0 then m.neg else m

/-- The pattern at a place; a zero takes the sign of the exact value. -/
def placeBits (neg : Bool) (n : Int) : Nat :=
  n.natAbs + if n < 0 || (n == 0 && neg) then FloatFmt.f32.signBit else 0

/-- The FP32 patterns within a number of ulps of an exact nonzero value. -/
def withinUlps (ulps : Nat) (v : Frac) : List Nat :=
  let neg : Bool := v.num < 0
  let mag : Int := FloatFmt.f32.roundMag .rz neg v.num.natAbs v.den
  let base := if neg then -mag else mag
  let slack := (Frac.ofInt ulps).mul (ulpOf v)
  let places := ((List.range 15).map fun (i : Nat) => base + ((i : Int) - 7)).filter fun n : Int =>
    n.natAbs ≤ FloatFmt.f32.infBits && !slack.lt ((placeValue n).add v.neg).abs
  places.map (placeBits neg)

/-- A row's result at an argument: one of the values within its bound; infinity where the format reaches none. -/
def boundedBits (fn : SpecialFn) (v : Frac) (a : BitVec 32) : Nat :=
  let r := specialExact fn v
  let cands := withinUlps (specialUlps fn) r
  if cands.isEmpty then FloatFmt.f32.round .rn (FloatNum.ofFrac r)
  else cands.getD ((Config.specialValue fn a).toNat % cands.length) 0

end Sys2Proof.Machine
end

