-- ==== Sys2Proof/Machine/D8.lean ====
section
/-! DEFINITION. The D8 decimal-marker byte and its block scales (spec/04 R87-R97). -/

namespace Sys2Proof.Machine

/-- The place of the marker in the low seven bits of a code (spec/04 R87). -/
def d8Marker (m : Nat) : Nat := m.log2

/-- The decade and the number of linear bits of a code with marker `p` ≥ 1 and low bits `m`. -/
def d8Shape (m : Nat) : Int × Nat :=
  let p := d8Marker m
  if p == 6 then (0, 6)
  else (if m.testBit (p - 1) then (6 - p : Int) else -(6 - p : Int), p - 1)

/-- F of a code (spec/04 R87). -/
def d8F (m : Nat) : Nat := m % 2 ^ (d8Shape m).2

/-- The magnitude of a code's low seven bits, which are not all zero (spec/04 R87). -/
def d8Mag (m : Nat) : Frac :=
  if d8Marker m == 0 then Frac.ofInt 1000000
  else
    let (d, f) := d8Shape m
    Frac.scale ⟨2 ^ f + 9 * d8F m, 2 ^ f⟩ 10 d

/-- DecodeD8 (spec/04 R87). -/
def decodeD8 (c : Byte) : FloatNum :=
  let m := (c.extractLsb' 0 7).toNat
  let s := c.msb
  if m == 0 then (if s then .nan else .fin false ⟨0, 1⟩)
  else .fin s (if s then (d8Mag m).neg else d8Mag m)

/-- The 127 nonzero positive codes in increasing order of value (spec/04 R89). -/
def d8Ladder : List Nat :=
  [0x02, 0x04, 0x05] ++ (List.range 4).map (0x08 + ·) ++ (List.range 8).map (0x10 + ·)
    ++ (List.range 16).map (0x20 + ·) ++ (List.range 64).map (0x40 + ·) ++ (List.range 16).map (0x30 + ·)
    ++ (List.range 8).map (0x18 + ·) ++ (List.range 4).map (0x0C + ·) ++ [0x06, 0x07, 0x03, 0x01]

/-- The magnitude of a code of the ladder, or 0 for code 0. -/
def d8Val (m : Nat) : Frac := if m == 0 then ⟨0, 1⟩ else d8Mag m

/-- EvenF of a code (spec/04 R90). -/
def d8EvenF (m : Nat) : Bool := m == 0 || m == 1 || d8F m % 2 == 0

/-- Of two neighbouring codes, lo not above `a` and hi above it, the one EncodeD8 returns (spec/04 R90). -/
def d8Pick (a : Frac) (lo hi : Nat) : Nat :=
  let down := a.add (d8Val lo).neg
  let up := (d8Val hi).add a.neg
  if down.lt up then lo
  else if up.lt down then hi
  else if d8EvenF hi && !d8EvenF lo then hi
  else lo

/-- EncodeD8 of a magnitude below 10^6: `lo` is the largest code seen whose value is not above `a`. -/
def d8Search (a : Frac) (lo : Nat) : List Nat → Nat
  | [] => lo
  | hi :: t => if a.lt (d8Val hi) then d8Pick a lo hi else d8Search a hi t

/-- EncodeD8 (spec/04 R90). -/
def encodeD8 : FloatNum → Byte
  | .nan => 0x80#8
  | .inf neg => if neg then 0x81#8 else 0x01#8
  | .fin _ v =>
    let r := if (v.abs).lt (Frac.ofInt 1000000) then d8Search v.abs 0 d8Ladder else 1
    if r == 0 then 0#8 else BitVec.ofNat 8 (r + if v.num < 0 then 0x80 else 0)

/-- A number times 10 ^ k. -/
def FloatNum.scale10 (k : Int) : FloatNum → FloatNum
  | .nan => .nan
  | .inf neg => .inf neg
  | .fin neg v => .fin neg (v.scale 10 k)

/-- The exponent k with 10^(k+1) ≤ M < 10^(k+2), sought upward from `k` (spec/04 R93). -/
def scaleFrom (m : Frac) (k : Int) : Nat → Int
  | 0 => k
  | n + 1 => if m.lt (Frac.pow 10 (k + 2)) then k else scaleFrom m (k + 1) n

/-- The largest finite magnitude of a list, 0 when there is none. -/
def maxFinite : List FloatNum → Frac
  | [] => ⟨0, 1⟩
  | .fin _ v :: t => if (maxFinite t).lt v.abs then v.abs else maxFinite t
  | .nan :: t | .inf _ :: t => maxFinite t

/-- ChooseScale (spec/04 R93); the search covers -128 to 127. -/
def chooseScale (xs : List FloatNum) : Int :=
  let m := maxFinite xs
  if m.num == 0 then 0 else scaleFrom m (-128) 255

/-- The code D8PACK and a scaled reduce produce: EncodeD8(v / 10^k) (spec/04 R90, R94). -/
def encodeD8Scaled (k : Int) (v : FloatNum) : Byte := encodeD8 (v.scale10 (-k))

/-- The value of a code in a block of scale k (spec/04 R91). -/
def decodeD8Scaled (k : Int) (c : Byte) : FloatNum := (decodeD8 c).scale10 k

/-- D8 negation flips bit 7 but for 0x00 and 0x80 (spec/06 R112). -/
def negD8 (c : Byte) : Byte := if c == 0#8 || c == 0x80#8 then c else c ^^^ 0x80#8

/-- D8 minimum of two codes: the smaller decoded value, NaN when either is NaN (spec/04 R89, spec/06 R134). -/
def minD8 (a b : Byte) : Byte :=
  if a == 0x80#8 || b == 0x80#8 then 0x80#8 else if (decodeD8 b).lt (decodeD8 a) then b else a

/-- D8 maximum. -/
def maxD8 (a b : Byte) : Byte :=
  if a == 0x80#8 || b == 0x80#8 then 0x80#8 else if (decodeD8 a).lt (decodeD8 b) then b else a

/-- The chunk sum V of 32 pairs of D8 codes with block scales kA and kB (spec/04 R95). -/
def chunkD8 (kA kB : Int) (pairs : List (Byte × Byte)) : FloatNum :=
  (pairs.foldl (fun acc p => FloatNum.add .rn acc ((decodeD8 p.1).mul (decodeD8 p.2)))
    (FloatNum.fin false ⟨0, 1⟩)).scale10 (kA + kB)

/-- The chunk sum V of 16 pairs of a binary format (spec/04 R96). An exact zero is +0 (R97). -/
def chunkFloat (f : FloatFmt) (pairs : List (Nat × Nat)) : FloatNum :=
  pairs.foldl (fun acc p => FloatNum.add .rn acc ((f.decode p.1).mul (f.decode p.2))) (FloatNum.fin false ⟨0, 1⟩)

/-- The accumulator update of one chunk (spec/04 R97). -/
def accumulate (acc : Word) (v : FloatNum) : Word :=
  BitVec.ofNat 32 (FloatFmt.f32.round .rn ((FloatFmt.f32.decode acc.toNat).add .rn v))

end Sys2Proof.Machine
end

