-- ==== Sys2Proof/Machine/Arith.lean ====
section
/-! DEFINITION. What each computation instruction computes from the values of its operands (spec/06). A value is 128
bits wide with the bits above its own width zero. -/

namespace Sys2Proof

/-! ## Types and modes that MOD selects (spec/05 R101) -/

/-- Width of layout IA's type. -/
def Fields.iaBits (f : Fields) : Nat := if intTy64 f.mod43 then 64 else 32

/-- Signedness of layout IA's type. -/
def Fields.iaSigned (f : Fields) : Bool := intTySigned f.mod43

/-- Width of layout LG. -/
def Fields.lgBits (f : Fields) : Nat := if f.modBit 3 then 64 else 32

/-- Width of the CV layout's integer source. -/
def Fields.cvSrcBits (f : Fields) : Nat := if intTy64 f.mod32 then 64 else 32

/-- Width of the CV layout's integer destination. -/
def Fields.cvDstBits (f : Fields) : Nat := if intTy64 f.mod54 then 64 else 32

/-- Format of layouts FA and D8 (MOD[5:4]); spec/06 R134: code 2 is BF16. -/
def Fields.faFmt (f : Fields) : Machine.FloatFmt := .ofCode f.mod54

/-- Rounding mode of MOD[3:2]. -/
def Fields.mode32 (f : Fields) : Machine.RoundMode := .ofCode f.mod32

/-- Format of layout HP. -/
def Fields.hpFmt (f : Fields) : Machine.FloatFmt := if f.modBit 5 then .bf16 else .f16

end Sys2Proof

namespace Sys2Proof.Machine

/-- An operand's or a result's value: 1, 32, 64 or 128 bits, the rest zero. -/
abbrev Val := BitVec 128

/-! ## Integers (spec/04 R86, spec/06 R117-R119) -/

/-- The low `w` bits of a value as a natural number. -/
def natArg (w : Nat) (x : Val) : Nat := x.toNat % 2 ^ w

/-- The low `w` bits of a value as a signed or unsigned integer. -/
def intArg (signed : Bool) (w : Nat) (x : Val) : Int :=
  if signed && 2 ^ (w - 1) ≤ natArg w x then (natArg w x : Int) - 2 ^ w else natArg w x

/-- An integer wrapped to `w` bits. -/
def wrapInt (w : Nat) (v : Int) : Val := BitVec.ofNat 128 (v % 2 ^ w).toNat

/-- An operand of layout IA. -/
def iaArg (f : Fields) (x : Val) : Int := intArg f.iaSigned f.iaBits x

/-- A result of layout IA: saturated or wrapped (spec/06 R117). -/
def iaOut (f : Fields) (v : Int) : Val :=
  wrapInt f.iaBits (if f.modBit 5 then clampInt f.iaSigned f.iaBits v else v)

/-- IADD. -/
def addVal (f : Fields) (a b _ : Val) : Val := iaOut f (iaArg f a + iaArg f b)
/-- ISUB. -/
def subVal (f : Fields) (a b _ : Val) : Val := iaOut f (iaArg f a - iaArg f b)
/-- IMUL. -/
def mulVal (f : Fields) (a b _ : Val) : Val := iaOut f (iaArg f a * iaArg f b)
/-- IMULHI: floor(A x B / 2^W). -/
def mulhiVal (f : Fields) (a b _ : Val) : Val := iaOut f ((iaArg f a * iaArg f b).fdiv (2 ^ f.iaBits))
/-- IMAD. -/
def madVal (f : Fields) (a b c : Val) : Val := iaOut f (iaArg f a * iaArg f b + iaArg f c)
/-- IMIN. -/
def iminVal (f : Fields) (a b _ : Val) : Val := iaOut f (min (iaArg f a) (iaArg f b))
/-- IMAX. -/
def imaxVal (f : Fields) (a b _ : Val) : Val := iaOut f (max (iaArg f a) (iaArg f b))
/-- IABS: |A|; A itself for the `.b` types, whose operands are not negative. -/
def iabsVal (f : Fields) (a _ _ : Val) : Val := iaOut f (iaArg f a).natAbs
/-- IDIV (spec/06 R118): truncated; all ones when B is 0; -2^(W-1) by -1 wraps to itself. -/
def divVal (f : Fields) (a b _ : Val) : Val :=
  if iaArg f b = 0 then wrapInt f.iaBits (-1) else iaOut f ((iaArg f a).tdiv (iaArg f b))
/-- IREM (spec/06 R118): the remainder has the sign of A; A when B is 0. -/
def remVal (f : Fields) (a b _ : Val) : Val := iaOut f ((iaArg f a).tmod (iaArg f b))
/-- ISAD: |A - B| + C. -/
def sadVal (f : Fields) (a b c : Val) : Val := iaOut f ((iaArg f a - iaArg f b).natAbs + iaArg f c)

/-- Byte n of a value. -/
def byteOf (x : Val) (n : Nat) : Val := BitVec.ofNat 128 (x.toNat / 2 ^ (8 * n) % 256)

/-- IDP4: the sum of four byte products, plus C. -/
def dp4Val (f : Fields) (a b c : Val) : Val :=
  let p (n : Nat) : Int := intArg f.iaSigned 8 (byteOf a n) * intArg f.iaSigned 8 (byteOf b n)
  iaOut f (p 0 + p 1 + p 2 + p 3 + iaArg f c)

/-- ISUM. -/
def sumVal (f : Fields) (a b c : Val) : Val := iaOut f (iaArg f a + iaArg f b + iaArg f c)

/-- IMADW: 32-bit factors of the type, a 64-bit addend and result. -/
def madwVal (f : Fields) (a b c : Val) : Val :=
  wrapInt 64 (intArg f.iaSigned 32 a * intArg f.iaSigned 32 b + intArg f.iaSigned 64 c)

/-- LEA (spec/06 R119). -/
def leaVal (f : Fields) (a b _ : Val) : Val := wrapInt 64 (natArg 64 a + natArg 32 b * 2 ^ f.modHi)
/-- LEAS (spec/06 R119). -/
def leasVal (f : Fields) (a b _ : Val) : Val := wrapInt 64 (natArg 64 a + intArg true 32 b * 2 ^ f.modHi)

/-! ## Logic, shifts and bit fields (spec/06 R120-R122) -/

/-- The low `w` bits of a value. -/
def lowBits (w : Nat) (x : Val) : Val := BitVec.ofNat 128 (natArg w x)

/-- AND. -/
def andVal (f : Fields) (a b _ : Val) : Val := lowBits f.lgBits (a &&& b)
/-- OR. -/
def orVal (f : Fields) (a b _ : Val) : Val := lowBits f.lgBits (a ||| b)
/-- XOR. -/
def xorVal (f : Fields) (a b _ : Val) : Val := lowBits f.lgBits (a ^^^ b)

/-- The bits of LUT3's result whose index into the table is `n`. -/
def lutTerm (a b c : Val) (n : Nat) : Val :=
  (if n.testBit 2 then a else ~~~a) &&& (if n.testBit 1 then b else ~~~b) &&& (if n.testBit 0 then c else ~~~c)

/-- LUT3: bit i is table bit 4A_i + 2B_i + C_i. -/
def lut3Val (f : Fields) (a b c : Val) : Val :=
  lowBits f.lgBits ((List.range 8).foldl
    (fun acc n => if f.imm.getLsbD n then acc ||| lutTerm a b c n else acc) 0#128)

/-- SHL. -/
def shlVal (f : Fields) (a b _ : Val) : Val :=
  let n := natArg 32 b
  if f.lgBits ≤ n then 0#128 else lowBits f.lgBits (a <<< n)

/-- SHR. -/
def shrVal (f : Fields) (a b _ : Val) : Val :=
  let n := natArg 32 b
  if f.lgBits ≤ n then 0#128 else lowBits f.lgBits a >>> n

/-- SAR: arithmetic when MOD[5] is 1, else as SHR. -/
def sarVal (f : Fields) (a b c : Val) : Val :=
  if f.modBit 5 then
    wrapInt f.lgBits ((intArg true f.lgBits a).fdiv (2 ^ min (natArg 32 b) (f.lgBits - 1)))
  else shrVal f a b c

/-- A value of `w` bits rotated left. -/
def rotl (w : Nat) (x : Val) (n : Nat) : Val :=
  lowBits w (x <<< (n % w)) ||| lowBits w x >>> (w - n % w)

/-- ROT: left for MOD[4] = 0, right for 1. -/
def rotVal (f : Fields) (a b _ : Val) : Val :=
  let w := f.lgBits
  let n := natArg 32 b % w
  rotl w a (if f.modBit 4 then w - n else n)

/-- CATSH: B:A shifted by min(C, W). -/
def catshVal (f : Fields) (a b c : Val) : Val :=
  let w := f.lgBits
  let n := min (natArg 32 c) w
  let x := natArg w b * 2 ^ w + natArg w a
  BitVec.ofNat 128 (if f.modBit 4 then x / 2 ^ n % 2 ^ w else x * 2 ^ n / 2 ^ w % 2 ^ w)

/-- BXTR (spec/06 R121). -/
def bxtrVal (f : Fields) (a b _ : Val) : Val :=
  let w := f.lgBits
  let pos := natArg 8 b
  let len := (byteOf b 1).toNat
  if len = 0 || w ≤ pos then 0#128
  else
    let n := min len (w - pos)
    wrapInt w (intArg (f.modBit 5) n (lowBits w a >>> pos))

/-- BINS (spec/06 R121). -/
def binsVal (f : Fields) (a b c : Val) : Val :=
  let w := f.lgBits
  let pos := natArg 8 c
  let len := (byteOf c 1).toNat
  let n := if w ≤ pos then 0 else min len (w - pos)
  let x := natArg w a
  BitVec.ofNat 128 (x / 2 ^ (pos + n) * 2 ^ (pos + n) + natArg n b * 2 ^ pos + x % 2 ^ pos)

/-- Set bits among the low n. -/
def countBits (x : Val) : Nat → Nat
  | 0 => 0
  | n + 1 => countBits x n + if x.getLsbD n then 1 else 0

/-- ONES. -/
def onesVal (f : Fields) (a _ _ : Val) : Val := BitVec.ofNat 128 (countBits a f.lgBits)

/-- CLZ: W when A is 0. -/
def clzVal (f : Fields) (a _ _ : Val) : Val :=
  let n := natArg f.lgBits a
  BitVec.ofNat 128 (if n = 0 then f.lgBits else f.lgBits - 1 - n.log2)

/-- The low n bits in reverse order. -/
def revBits (x : Val) (w : Nat) : Nat → Nat
  | 0 => 0
  | n + 1 => revBits x w n + if x.getLsbD n then 2 ^ (w - 1 - n) else 0

/-- BITREV. -/
def bitrevVal (f : Fields) (a _ _ : Val) : Val := BitVec.ofNat 128 (revBits a f.lgBits f.lgBits)

/-- Byte n of BYSEL's result. -/
def byselByte (a b c : Val) (n : Nat) : Nat :=
  let s := b.toNat / 2 ^ (4 * n) % 8
  let y := if s < 4 then (byteOf a s).toNat else (byteOf c (s - 4)).toNat
  if b.getLsbD (4 * n + 3) then (if 128 ≤ y then 255 else 0) else y

/-- BYSEL (spec/06 R122). -/
def byselVal (_ : Fields) (a b c : Val) : Val :=
  BitVec.ofNat 128 (byselByte a b c 0 + byselByte a b c 1 * 2 ^ 8 + byselByte a b c 2 * 2 ^ 16
    + byselByte a b c 3 * 2 ^ 24)

/-! ## Moves -/

/-- MOV and MOVQ. -/
def movVal (_ : Fields) (a _ _ : Val) : Val := a

/-- SEL: C is the predicate, 0 or 1. -/
def selVal (_ : Fields) (a b c : Val) : Val := if c = 0#128 then b else a

/-! ## Floats (spec/06 R126-R129) -/

/-- A 1-bit value. -/
def boolVal (b : Bool) : Val := if b then 1#128 else 0#128

/-- The number a value holds in a format. -/
def numArg (t : FloatFmt) (x : Val) : FloatNum := t.decode (natArg t.width x)

/-- A rounded result. -/
def floatOut (t : FloatFmt) (m : RoundMode) (v : FloatNum) : Val := BitVec.ofNat 128 (t.round m v)

/-- Sum, rounded once. -/
def faddIn (t : FloatFmt) (m : RoundMode) (a b : Val) : Val := floatOut t m (FloatNum.add m (numArg t a) (numArg t b))
/-- Product, rounded once. -/
def fmulIn (t : FloatFmt) (m : RoundMode) (a b : Val) : Val := floatOut t m (FloatNum.mul (numArg t a) (numArg t b))
/-- Fused multiply-add: the product is not rounded. -/
def ffmaIn (t : FloatFmt) (m : RoundMode) (a b c : Val) : Val :=
  floatOut t m (FloatNum.add m (FloatNum.mul (numArg t a) (numArg t b)) (numArg t c))
/-- Minimum in a format. -/
def fminIn (t : FloatFmt) (a b : Val) : Val := BitVec.ofNat 128 (t.minBits (natArg t.width a) (natArg t.width b))
/-- Maximum in a format. -/
def fmaxIn (t : FloatFmt) (a b : Val) : Val := BitVec.ofNat 128 (t.maxBits (natArg t.width a) (natArg t.width b))
/-- Rounded to an integral value of the format. -/
def fintIn (t : FloatFmt) (m : RoundMode) (a : Val) : Val := floatOut t m (FloatNum.integral m (numArg t a))

/-- Sign cleared (`neg` false) or set, a NaN being the canonical one (spec/04 R85). -/
def signTo (t : FloatFmt) (neg : Bool) (a : Val) : Val :=
  let x := natArg t.width a
  if (t.decode x).isNaN then BitVec.ofNat 128 t.nanBits
  else BitVec.ofNat 128 (x % t.signBit + if neg then t.signBit else 0)

/-- FABS gives |A|, and -|A| for a negated source (spec/06 R126). -/
def fabsIn (t : FloatFmt) (f : Fields) (a : Val) : Val := signTo t f.a.neg a

/-- FADD. -/
def faddVal (f : Fields) (a b _ : Val) : Val := faddIn f.faFmt f.mode32 a b
/-- FMUL. -/
def fmulVal (f : Fields) (a b _ : Val) : Val := fmulIn f.faFmt f.mode32 a b
/-- FFMA. -/
def ffmaVal (f : Fields) (a b c : Val) : Val := ffmaIn f.faFmt f.mode32 a b c
/-- FMIN. -/
def fminVal (f : Fields) (a b _ : Val) : Val := fminIn f.faFmt a b
/-- FMAX. -/
def fmaxVal (f : Fields) (a b _ : Val) : Val := fmaxIn f.faFmt a b
/-- FINT. -/
def fintVal (f : Fields) (a _ _ : Val) : Val := fintIn f.faFmt f.mode32 a
/-- FABS. -/
def fabsVal (f : Fields) (a _ _ : Val) : Val := fabsIn f.faFmt f a
/-- FCLASS. -/
def fclassVal (f : Fields) (a _ _ : Val) : Val :=
  BitVec.ofNat 128 (2 ^ f.faFmt.classBit (natArg f.faFmt.width a))

/-- DADD. -/
def daddVal (f : Fields) (a b _ : Val) : Val := faddIn .f64 f.mode32 a b
/-- DMUL. -/
def dmulVal (f : Fields) (a b _ : Val) : Val := fmulIn .f64 f.mode32 a b
/-- DFMA. -/
def dfmaVal (f : Fields) (a b c : Val) : Val := ffmaIn .f64 f.mode32 a b c
/-- DMIN. -/
def dminVal (_ : Fields) (a b _ : Val) : Val := fminIn .f64 a b
/-- DMAX. -/
def dmaxVal (_ : Fields) (a b _ : Val) : Val := fmaxIn .f64 a b
/-- DINT. -/
def dintVal (f : Fields) (a _ _ : Val) : Val := fintIn .f64 f.mode32 a
/-- DABS. -/
def dabsVal (f : Fields) (a _ _ : Val) : Val := fabsIn .f64 f a

/-- The low or high half of a packed pair. -/
def halfOf (x : Val) (n : Nat) : Val := BitVec.ofNat 128 (x.toNat / 2 ^ (16 * n) % 2 ^ 16)

/-- A packed pair from its halves. -/
def packPair (lo hi : Val) : Val := BitVec.ofNat 128 (lo.toNat + hi.toNat * 2 ^ 16)

/-- PKADD (spec/06 R129). -/
def pkaddVal (f : Fields) (a b _ : Val) : Val :=
  packPair (faddIn f.hpFmt f.mode32 (halfOf a 0) (halfOf b 0)) (faddIn f.hpFmt f.mode32 (halfOf a 1) (halfOf b 1))
/-- PKMUL. -/
def pkmulVal (f : Fields) (a b _ : Val) : Val :=
  packPair (fmulIn f.hpFmt f.mode32 (halfOf a 0) (halfOf b 0)) (fmulIn f.hpFmt f.mode32 (halfOf a 1) (halfOf b 1))
/-- PKFMA. -/
def pkfmaVal (f : Fields) (a b c : Val) : Val :=
  packPair (ffmaIn f.hpFmt f.mode32 (halfOf a 0) (halfOf b 0) (halfOf c 0))
    (ffmaIn f.hpFmt f.mode32 (halfOf a 1) (halfOf b 1) (halfOf c 1))
/-- PKMIN. -/
def pkminVal (f : Fields) (a b _ : Val) : Val :=
  packPair (fminIn f.hpFmt (halfOf a 0) (halfOf b 0)) (fminIn f.hpFmt (halfOf a 1) (halfOf b 1))
/-- PKMAX. -/
def pkmaxVal (f : Fields) (a b _ : Val) : Val :=
  packPair (fmaxIn f.hpFmt (halfOf a 0) (halfOf b 0)) (fmaxIn f.hpFmt (halfOf a 1) (halfOf b 1))

/-! ## Special functions (spec/06 R130, R385) -/

/-- Division in a format, rounded once. -/
def fdivIn (t : FloatFmt) (m : RoundMode) (a b : Val) : Val := floatOut t m (FloatNum.div (numArg t a) (numArg t b))

/-- Reciprocal in a format: 1 / A, rounded once. -/
def frcpIn (t : FloatFmt) (m : RoundMode) (a : Val) : Val :=
  floatOut t m (FloatNum.div (.fin false (Frac.ofInt 1)) (numArg t a))

/-- Square root in a format, rounded once. -/
def fsqrtIn (t : FloatFmt) (m : RoundMode) (a : Val) : Val := floatOut t m (FloatNum.sqrt (numArg t a))

/-- FRCP. -/
def frcpVal (f : Fields) (a _ _ : Val) : Val := frcpIn .f32 f.mode32 a
/-- FSQRT. -/
def fsqrtVal (f : Fields) (a _ _ : Val) : Val := fsqrtIn .f32 f.mode32 a
/-- FDIV. -/
def fdivVal (f : Fields) (a b _ : Val) : Val := fdivIn .f32 f.mode32 a b
/-- DRCP. -/
def drcpVal (f : Fields) (a _ _ : Val) : Val := frcpIn .f64 f.mode32 a
/-- DSQRT. -/
def dsqrtVal (f : Fields) (a _ _ : Val) : Val := fsqrtIn .f64 f.mode32 a
/-- DDIV. -/
def ddivVal (f : Fields) (a b _ : Val) : Val := fdivIn .f64 f.mode32 a b

/-- FP32 NaN, infinities and zeros as values. -/
def nan32 : Val := 0x7FC00000#128
/-- +infinity in FP32. -/
def posInf32 : Val := 0x7F800000#128
/-- -infinity in FP32. -/
def negInf32 : Val := 0xFF800000#128

/-- The value within a row's bound that the part returns outside the row's exact cases; which one is free (log 15). -/
def boundedVal (fn : SpecialFn) (v : Frac) (a : Val) : Val := BitVec.ofNat 128 (boundedBits fn v (a.setWidth 32))

/-- FRSQ: the special inputs of its row, else a value within 1 ulp. -/
def frsqVal (_ : Fields) (a _ _ : Val) : Val :=
  match numArg .f32 a with
  | .nan => nan32
  | .inf neg => if neg then nan32 else 0#128
  | .fin neg v =>
    if v.num == 0 then (if neg then negInf32 else posInf32)
    else if neg then nan32
    else boundedVal .rsq v a

/-- Is a fraction an integer, and which? -/
def Frac.toInt? (v : Frac) : Option Int :=
  if v.num % (v.den : Int) = 0 then some (v.num / (v.den : Int)) else none

/-- Is 2^n representable in FP32 (subnormals included)? -/
def pow2InF32 (n : Int) : Bool := -149 ≤ n && n ≤ 127

/-- FEX2: exact when the result is a representable power of two. -/
def fex2Val (_ : Fields) (a _ _ : Val) : Val :=
  match numArg .f32 a with
  | .nan => nan32
  | .inf neg => if neg then 0#128 else posInf32
  | .fin _ v =>
    match v.toInt? with
    | some n => if pow2InF32 n then floatOut .f32 .rn (FloatNum.ofFrac (Frac.pow 2 n)) else boundedVal .ex2 v a
    | none => boundedVal .ex2 v a

/-- FLG2: exact at powers of two. -/
def flg2Val (_ : Fields) (a _ _ : Val) : Val :=
  match numArg .f32 a with
  | .nan => nan32
  | .inf neg => if neg then nan32 else posInf32
  | .fin neg v =>
    if v.num == 0 then negInf32
    else if neg then nan32
    else
      let n := log2Frac v.num.natAbs v.den
      if (Frac.pow 2 n).eqv v then floatOut .f32 .rn (FloatNum.ofFrac (Frac.ofInt n)) else boundedVal .lg2 v a

/-- FEX10: exact for integer A in 0..10. -/
def fex10Val (_ : Fields) (a _ _ : Val) : Val :=
  match numArg .f32 a with
  | .nan => nan32
  | .inf neg => if neg then 0#128 else posInf32
  | .fin _ v =>
    match v.toInt? with
    | some n =>
      if 0 ≤ n && n ≤ 10 then floatOut .f32 .rn (FloatNum.ofFrac (Frac.pow 10 n)) else boundedVal .ex10 v a
    | none => boundedVal .ex10 v a

/-- FLG10: exact at 10^n for n in 0..10. -/
def flg10Val (_ : Fields) (a _ _ : Val) : Val :=
  match numArg .f32 a with
  | .nan => nan32
  | .inf neg => if neg then nan32 else posInf32
  | .fin neg v =>
    if v.num == 0 then negInf32
    else if neg then nan32
    else match (List.range 11).find? (fun n : Nat => (Frac.pow 10 (n : Int)).eqv v) with
      | some n => floatOut .f32 .rn (FloatNum.ofFrac (Frac.ofInt n))
      | none => boundedVal .lg10 v a

/-- FSIN: infinities give NaN, zeros themselves. -/
def fsinVal (_ : Fields) (a _ _ : Val) : Val :=
  match numArg .f32 a with
  | .nan | .inf _ => nan32
  | .fin _ v => if v.num == 0 then lowBits 32 a else boundedVal .sin v a

/-- FCOS: infinities give NaN. -/
def fcosVal (_ : Fields) (a _ _ : Val) : Val :=
  match numArg .f32 a with
  | .nan | .inf _ => nan32
  | .fin _ v => boundedVal .cos v a

/-! ## Conversions (spec/06 R131) -/

/-- The CV layout's integer source. -/
def cvInt (f : Fields) (a : Val) : Int := intArg (intTySigned f.mod32) f.cvSrcBits a

/-- CVTI2F. -/
def cvti2fVal (f : Fields) (a _ _ : Val) : Val :=
  BitVec.ofNat 128 (intToFloat (.ofCode f.mod54) (.ofCode f.mod10) (cvInt f a))

/-- CVTF2I. -/
def cvtf2iVal (f : Fields) (a _ _ : Val) : Val :=
  wrapInt f.cvDstBits
    (floatToInt (.ofCode f.mod10) (intTySigned f.mod54) f.cvDstBits (numArg (.ofCode f.mod32) a))

/-- CVTF2F. -/
def cvtf2fVal (f : Fields) (a _ _ : Val) : Val :=
  floatOut (.ofCode f.mod54) (.ofCode f.mod10) (numArg (.ofCode f.mod32) a)

/-- CVTI2I. -/
def cvti2iVal (f : Fields) (a _ _ : Val) : Val :=
  wrapInt f.cvDstBits
    (if f.mod10 == 1 then clampInt (intTySigned f.mod54) f.cvDstBits (cvInt f a) else cvInt f a)

/-! ## D8 (spec/06 R132-R134) -/

/-- The block scale in the low byte of an operand. -/
def d8Scale (b : Val) : Int := intArg true 8 b

/-- D8PACK. -/
def d8packVal (f : Fields) (a b _ : Val) : Val := (encodeD8Scaled (d8Scale b) (numArg f.faFmt a)).setWidth 128

/-- D8UNPK. -/
def d8unpkVal (f : Fields) (a b _ : Val) : Val :=
  floatOut f.faFmt f.mode32 (decodeD8Scaled (d8Scale b) (a.setWidth 8))

/-- Four bytes combined each with each. -/
def bytewise (g : Byte → Byte → Byte) (a b : Val) : Val :=
  BitVec.ofNat 128 ((List.range 4).foldl
    (fun acc n => acc + (g ((byteOf a n).setWidth 8) ((byteOf b n).setWidth 8)).toNat * 2 ^ (8 * n)) 0)

/-- D8MIN. -/
def d8minVal (_ : Fields) (a b _ : Val) : Val := bytewise minD8 a b
/-- D8MAX. -/
def d8maxVal (_ : Fields) (a b _ : Val) : Val := bytewise maxD8 a b

/-! ## Cross-lane operations (spec/06 R133, R135-R137) -/

/-- The lanes of a mask, in rising order. -/
def lanesOf (m : LaneMask) : List Nat := (List.range 32).filter (fun n => m.getLsbD n)

/-- The value in lane n; lanes are numbered 0-31. -/
def laneVal (v : Lanes Val) (n : Nat) : Val := v[n % 32]'(Nat.mod_lt _ (by decide))

/-- PERM's source lane. -/
def permLane (s _ : Nat) : Nat := s
/-- PERMUP's source lane: i - s, or i itself when that falls outside. -/
def permupLane (s i : Nat) : Nat := if i < s then i else i - s
/-- PERMDN's source lane: i + s, or i itself when that falls outside. -/
def permdnLane (s i : Nat) : Nat := if 31 < i + s then i else i + s
/-- PERMX's source lane. -/
def permxLane (s i : Nat) : Nat := i ^^^ s

/-- Each lane takes A of the source lane its B names (spec/06 R135). -/
def permute (src : Nat → Nat → Nat) (a b : Lanes Val) : Lanes Val :=
  Vector.ofFn fun i : Fin 32 => laneVal a (src (natArg 5 (b[i])) i)

/-- VOTE's verdict over the active lanes (spec/06 R136). -/
def voteOf (sub : Nat) (active : LaneMask) (a : Lanes Val) : Bool :=
  let ls := lanesOf active
  let all := ls.all (fun n => laneVal a n != 0#128)
  let any := ls.any (fun n => laneVal a n != 0#128)
  if sub == 0 then all else if sub == 1 then any else all || !any

/-- The mask of the active lanes a test holds in. -/
def ballotOf (active : LaneMask) (p : Nat → Bool) : Val :=
  BitVec.ofNat 128 ((lanesOf active).foldl (fun acc n => acc + if p n then 2 ^ n else 0) 0)

/-- MATCH. -/
def matchLanes (active : LaneMask) (a : Lanes Val) : Lanes Val :=
  Vector.ofFn fun i : Fin 32 => ballotOf active (fun n => laneVal a n == a[i])

/-- One step of GREDI. -/
def grediStep (sub : Nat) (x y : Val) : Val :=
  match sub with
  | 0 => wrapInt 32 (natArg 32 x + natArg 32 y)
  | 1 => if intArg true 32 y < intArg true 32 x then y else x
  | 2 => if intArg true 32 x < intArg true 32 y then y else x
  | 3 => if natArg 32 y < natArg 32 x then y else x
  | 4 => if natArg 32 x < natArg 32 y then y else x
  | 5 => x &&& y
  | 6 => x ||| y
  | _ => x ^^^ y

/-- A combination of a nonempty list, left to right; 0 for none. -/
def foldVals (g : Val → Val → Val) : List Val → Val
  | [] => 0#128
  | x :: t => t.foldl g x

/-- The exact sum of FP32 values (spec/06 R137, spec/04 R96); an empty sum is +0. -/
def exactSum32 (xs : List Val) : FloatNum :=
  match xs.map (numArg .f32) with
  | [] => .fin false ⟨0, 1⟩
  | x :: t => t.foldl (FloatNum.add .rn) x

/-- GREDI over the active lanes. -/
def grediOf (sub : Nat) (active : LaneMask) (a : Lanes Val) : Val :=
  foldVals (grediStep sub) ((lanesOf active).map (laneVal a))

/-- GREDF over the active lanes. A minimum or maximum of one operand is that operand's with itself: a NaN gives the
canonical one (spec/06 R127, R137). -/
def gredfOf (sub : Nat) (active : LaneMask) (a : Lanes Val) : Val :=
  let xs := (lanesOf active).map (laneVal a)
  if sub == 0 then floatOut .f32 .rn (exactSum32 xs)
  else if sub == 1 then foldVals (fminIn .f32) (xs.map fun x => fminIn .f32 x x)
  else foldVals (fmaxIn .f32) (xs.map fun x => fmaxIn .f32 x x)

/-- GSCAN's result in lane i: over active lanes below i, with i itself for the inclusive forms. -/
def gscanOf (sub : Nat) (active : LaneMask) (a : Lanes Val) (i : Nat) : Val :=
  let inc := sub == 0 || sub == 2
  let xs := ((lanesOf active).filter (fun n => n < i || (inc && n == i))).map (laneVal a)
  if sub ≤ 1 then wrapInt 32 ((xs.map (intArg true 32)).foldl (· + ·) 0)
  else floatOut .f32 .rn (exactSum32 xs)

/-- D8SCALE's block scale over the active lanes (spec/06 R133). -/
def d8scaleOf (t : FloatFmt) (active : LaneMask) (a : Lanes Val) : Val :=
  wrapInt 32 (chooseScale ((lanesOf active).map (fun n => numArg t (laneVal a n))))

end Sys2Proof.Machine
end

