-- ==== Sys2Proof/Machine/Map.lean ====
section
/-! DEFINITION. Finite maps from numbers as lists of pairs with rising keys. -/

namespace Sys2Proof.Machine

variable {α : Type}

/-- An element put into a sorted list, before what it does not come after. -/
def insertBy (le : α → α → Bool) (x : α) : List α → List α
  | [] => [x]
  | y :: t => if le x y then x :: y :: t else y :: insertBy le x t

/-- A list sorted, equal elements in the order they had. -/
def sortBy : List α → (α → α → Bool) → List α
  | [], _ => []
  | x :: t, le => insertBy le x (sortBy t le)

/-- The value at a key. -/
def mapGet? : List (Nat × α) → Nat → Option α
  | [], _ => none
  | (k, v) :: t, n => if n = k then some v else mapGet? t n

/-- The value at a key, or a default. -/
def mapGet (m : List (Nat × α)) (n : Nat) (d : α) : α := (mapGet? m n).getD d

/-- The map with a value put at a key. -/
def mapSet : List (Nat × α) → Nat → α → List (Nat × α)
  | [], n, v => [(n, v)]
  | (k, w) :: t, n, v =>
    if n < k then (n, v) :: (k, w) :: t
    else if n = k then (n, v) :: t
    else (k, w) :: mapSet t n v

/-- The map without a key. -/
def mapDel (m : List (Nat × α)) (n : Nat) : List (Nat × α) := m.filter (fun p => p.1 != n)

/-- Every key above a bound and rising. -/
def mapSortedFrom : Option Nat → List (Nat × α) → Bool
  | _, [] => true
  | none, (k, _) :: t => mapSortedFrom (some k) t
  | some b, (k, _) :: t => decide (b < k) && mapSortedFrom (some k) t

/-- The keys rise strictly. -/
def mapSorted (m : List (Nat × α)) : Bool := mapSortedFrom none m

/-- Element n of a vector of 32, with n taken modulo 32. -/
def laneOf (v : Vector α 32) (n : Nat) : α := v[n % 32]'(Nat.mod_lt _ (by decide))

end Sys2Proof.Machine
end

