-- ==== Sys2Proof/Machine/Event.lean ====
section
/-! DEFINITION. The steps of the package's other agents as data that State can hold: `Event` has one constructor for
each row of spec/opcode_table.json that is no instruction of a pipe, with the fields of its `Instr`. It is a type of its
own because compiled Lean cannot build a constructor as far down `Instr` as these stand. -/

namespace Sys2Proof

/-- A step of an agent other than a pipe. -/
inductive Event where
  | issueSelect (part : Nat)
  | fixedResultWriteback (op : Nat)
  | variableOpComplete (op : Nat)
  | boostDecay (group : Nat)
  | activationEvaluate (core : Nat)
  | leaseOverrunDeactivate (core : Nat)
  | protectionExpiry (group : Nat)
  | dormantEntry (group : Nat)
  | wwaitReread (op : Nat)
  | waitSwapCheck (part : Nat)
  | waitSwapSaveEnd (team : Nat)
  | teamReturn (team : Nat)
  | teamPlace (cluster : Nat)
  | distributorSteal (cluster : Nat)
  | teamEnd (team : Nat) (code : (BitVec 16))
  | groupSlotRelease (group : Nat)
  | rennetRecordAccept (die : Nat)
  | rennetBatchTimeout (die : Nat) (grid : Nat) (node : Nat)
  | rennetStallEnd (grid : Nat)
  | copyPieceDeliver (copy : Nat)
  | clbCopyTest (copy : Nat)
  | macroStep (cluster : Nat)
  | macroComplete (cluster : Nat)
  | scaleCacheMissRead (cluster : Nat) (tid : Nat) (block : Nat)
  | pageWalk (who : WalkFor)
  | faultResolution (ctx : Nat)
  | ackLostTimeout (op : Nat) (state : AckState)
  | homeAtomicApply (op : Nat)
  | redEntryDrain (pa : PAddr)
  | xendAckTimeout (op : Nat)
  | remoteRequestAtPeer (op : Nat) (accept : Bool)
  | fabricTimeout (who : RemoteWork)
  | residentChoice (part : (BitVec 64))
  | crockExchange (part : (BitVec 64))
  | imageSpill (part : (BitVec 64))
  | imageFill (part : (BitVec 64)) (ctx : Nat)
  | contextDue (ctx : Nat)
  | quantumExpiry (part : (BitVec 64))
  | crockUncorrectable (hit : CrockHit)
  | pageMigration (ctx : Nat) (va : VAddr) (dst : PAddr)
  | migrationAbandon (ctx : Nat) (va : VAddr)
  | mappingChange (ctx : Nat) (va : VAddr) (level : Nat) (entry : DWord)
  | hostBar2Access (ctx : Nat) (offset : Nat) (acc : HostAccess)
  | hostWindowWrite (offset : Nat) (bytes : (List Byte))
  | hostSnoopTimeout
  | cxlUncorrectableError
  | doorbell (queue : Nat) (wptr : DWord)
  | qctlWrite (queue : Nat) (value : Word)
  | registerWrite (offset : Nat) (size : Nat) (value : DWord)
  | icwWrite (ctx : Nat) (value : Word)
  | packetDispatch
  | nopPacket (queue : Nat)
  | launchPacket (queue : Nat)
  | graphPacket (queue : Nat)
  | scriptPacket (queue : Nat)
  | waitPacket (queue : Nat)
  | flushPacket (queue : Nat)
  | reservedPacket (queue : Nat)
  | phaseCleaning (queue : Nat)
  | scriptHeldStart
  | cmcTrap (core : Nat)
  | linkDataFlit (link : Nat) (dir : Bool) (flit : Flit)
  | linkIdleFlit (link : Nat) (dir : Bool) (flit : Flit)
  | linkNak (link : Nat) (dir : Bool) (flit : Flit)
  | linkStateFlit (link : Nat) (dir : Bool) (flit : Flit)
  | linkResendTimeout (link : Nat) (dir : Bool)
  | linkRetrain (link : Nat)
  | linkRetrainEnd (link : Nat) (good : (BitVec 64))
  | linkDownRetest (link : Nat) (good : (BitVec 64))
  | lkcrcRead (link : Nat)
  | fabricFlitReceive (port : Nat) (seq : Word) (auth : FlitSeal) (payload : (List PeerReq))
  | fabricFlitAck (peer : Nat) (seq : Word)
  | fabricResendTimeout (peer : Nat) (seq : Word)
  | stripeRecompute (peer : Nat)
  | connected (msg : SwitchMsg)
  | refused (msg : SwitchMsg)
  | released (msg : SwitchMsg)
  | broken (msg : SwitchMsg)
  | hello (msg : SwitchMsg)
  | helloSend
  | switchSilent (plane : Nat)
  | connectRetry (slot : Nat)
  | releaseTimeout (slot : Nat)
  | portSettled (port : Nat)
  | portTrained (port : Nat) (usable : LanesUp)
  | portLockTimeout (port : Nat) (unlocked : (BitVec 4))
  | keyAgreementComplete (keys : KeysEnd)
  | keyAgreementTimeout (who : KeyFor)
  | rekey (who : KeyFor)
  | peerLost (port : Nat)
  | authFailureDark (port : Nat)
  | laserModuleRemove (module : Nat)
  | laserModuleInsert (module : Nat) (channels : Nat)
  | moduleMonitorPoll (module : Nat) (bias : (List (BitVec 16))) (moduleTemp : Int)
  | laneRateStepDown (port : Nat) (lane : Nat) (temp : (BitVec 16))
  | laneRateStepUp (port : Nat) (lane : Nat) (temp : (BitVec 16))
  | laneRetire (port : Nat) (lane : Nat)
  | lstatRetireWrite (port : Nat) (lane : Nat) (value : Word)
  | pcapWrite (port : Nat) (value : Word)
  | tapSample (port : Nat) (lane : Nat) (cpl : (BitVec 16)) (spl : (BitVec 16)) (mod : (BitVec 16))
  | wheyFrameReceive (frame : WheyFrame)
  | wheyRetransmitTimeout (session : Nat) (seq : Word)
  | wheySessionTimeout (session : Nat)
  | wheySessionOpen (session : Nat) (record : (List Byte))
  | cawaitTimeout (op : Nat)
  | timerExpiry (ctx : Nat) (timer : Nat)
  | patrolScrub (line : PAddr) (result : ScrubResult)
  | uncorrectableError (hit : ErrorSite)
  | rasceRead (base : Nat)
  | rasueRead (base : Nat)
  | powerSample (pwr : (BitVec 16)) (tcp : (BitVec 8))
  | thermalHalt
  | thermalHaltEnd
  | pwrctlWrite (value : Word)
  | packageStart (pass : (BitVec 16)) (cream : (List Nat))
  | startStepTimeout (reason : (BitVec 16)) (pass : (BitVec 16))
  | heartbeatTimeout
  | hbeatWrite (value : Word)
  | rollbackClear (value : Word)
  | contextCreate (requester : Nat) (ctx : Nat) (record : (List Byte)) (res : ContextResources)
  | contextDestroy (requester : Nat) (ctx : Nat)
  | fabricBind (requester : Nat) (ctx : Nat) (peer : Nat) (peerCtx : (Option Nat))
  | rosterSet (requester : Nat) (pod : Bool) (keys : (List (List Byte)))
  | firmwareStage (requester : Nat) (image : FirmwareImage)
  | firmwareUpdate (requester : Nat)
  | recordClear (requester : Nat)
  | rasRead (requester : Nat) (base : Nat)
  | powerSet (requester : Nat) (value : Word)
  | hostLinkReset (requester : Nat)
  | debugAttach (requester : Nat) (ctx : Nat)
  | debugDetach (requester : Nat) (ctx : Nat)
  | debugHalt (requester : Nat) (die : Nat)
  | debugResume (requester : Nat) (target : DebugTarget)
  | debugRead (requester : Nat) (group : Nat) (obj : DebugObj)
  | debugWrite (requester : Nat) (group : Nat) (obj : DebugObj) (value : DebugVal)
  | spdmSessionEnd (requester : Nat)
  | getVersion (msg : (List Byte))
  | getCapabilities (msg : (List Byte))
  | negotiateAlgorithms (msg : (List Byte))
  | getDigests (msg : (List Byte))
  | getCertificate (msg : (List Byte))
  | challenge (msg : (List Byte))
  | getMeasurements (msg : (List Byte))
  | keyExchange (requester : Nat) (msg : (List Byte))
  | finish (requester : Nat) (msg : FinishMsg)
  | hostWindowRead (offset : Nat)
  | laserChannelFailure (port : Nat) (lane : Nat)
  | laneRetrainEnd (port : Nat) (lane : Nat)
  deriving DecidableEq, Repr

/-- The requester of a management message or of a message to the SPDM responder (spec/21 R375, R377). -/
def Event.requester : Event → Option Nat
  | .contextCreate who _ _ _ => some who
  | .contextDestroy who _ => some who
  | .fabricBind who _ _ _ => some who
  | .rosterSet who _ _ => some who
  | .firmwareStage who _ => some who
  | .firmwareUpdate who => some who
  | .recordClear who => some who
  | .rasRead who _ => some who
  | .powerSet who _ => some who
  | .hostLinkReset who => some who
  | .keyExchange who _ => some who
  | .finish who _ => some who
  | _ => none

/-- The `Instr` of an event. -/
noncomputable def Event.toInstr : Event → Instr
  | .issueSelect part => .issueSelect part
  | .fixedResultWriteback op => .fixedResultWriteback op
  | .variableOpComplete op => .variableOpComplete op
  | .boostDecay group => .boostDecay group
  | .activationEvaluate core => .activationEvaluate core
  | .leaseOverrunDeactivate core => .leaseOverrunDeactivate core
  | .protectionExpiry group => .protectionExpiry group
  | .dormantEntry group => .dormantEntry group
  | .wwaitReread op => .wwaitReread op
  | .waitSwapCheck part => .waitSwapCheck part
  | .waitSwapSaveEnd team => .waitSwapSaveEnd team
  | .teamReturn team => .teamReturn team
  | .teamPlace cluster => .teamPlace cluster
  | .distributorSteal cluster => .distributorSteal cluster
  | .teamEnd team code => .teamEnd team code
  | .groupSlotRelease group => .groupSlotRelease group
  | .rennetRecordAccept die => .rennetRecordAccept die
  | .rennetBatchTimeout die grid node => .rennetBatchTimeout die grid node
  | .rennetStallEnd grid => .rennetStallEnd grid
  | .copyPieceDeliver copy => .copyPieceDeliver copy
  | .clbCopyTest copy => .clbCopyTest copy
  | .macroStep cluster => .macroStep cluster
  | .macroComplete cluster => .macroComplete cluster
  | .scaleCacheMissRead cluster tid block => .scaleCacheMissRead cluster tid block
  | .pageWalk who => .pageWalk who
  | .faultResolution ctx => .faultResolution ctx
  | .ackLostTimeout op state => .ackLostTimeout op state
  | .homeAtomicApply op => .homeAtomicApply op
  | .redEntryDrain pa => .redEntryDrain pa
  | .xendAckTimeout op => .xendAckTimeout op
  | .remoteRequestAtPeer op accept => .remoteRequestAtPeer op accept
  | .fabricTimeout who => .fabricTimeout who
  | .residentChoice part => .residentChoice part
  | .crockExchange part => .crockExchange part
  | .imageSpill part => .imageSpill part
  | .imageFill part ctx => .imageFill part ctx
  | .contextDue ctx => .contextDue ctx
  | .quantumExpiry part => .quantumExpiry part
  | .crockUncorrectable hit => .crockUncorrectable hit
  | .pageMigration ctx va dst => .pageMigration ctx va dst
  | .migrationAbandon ctx va => .migrationAbandon ctx va
  | .mappingChange ctx va level entry => .mappingChange ctx va level entry
  | .hostBar2Access ctx offset acc => .hostBar2Access ctx offset acc
  | .hostWindowWrite offset bytes => .hostWindowWrite offset bytes
  | .hostSnoopTimeout => .hostSnoopTimeout
  | .cxlUncorrectableError => .cxlUncorrectableError
  | .doorbell queue wptr => .doorbell queue wptr
  | .qctlWrite queue value => .qctlWrite queue value
  | .registerWrite offset size value => .registerWrite offset size value
  | .icwWrite ctx value => .icwWrite ctx value
  | .packetDispatch => .packetDispatch
  | .nopPacket queue => .nopPacket queue
  | .launchPacket queue => .launchPacket queue
  | .graphPacket queue => .graphPacket queue
  | .scriptPacket queue => .scriptPacket queue
  | .waitPacket queue => .waitPacket queue
  | .flushPacket queue => .flushPacket queue
  | .reservedPacket queue => .reservedPacket queue
  | .phaseCleaning queue => .phaseCleaning queue
  | .scriptHeldStart => .scriptHeldStart
  | .cmcTrap core => .cmcTrap core
  | .linkDataFlit link dir flit => .linkDataFlit link dir flit
  | .linkIdleFlit link dir flit => .linkIdleFlit link dir flit
  | .linkNak link dir flit => .linkNak link dir flit
  | .linkStateFlit link dir flit => .linkStateFlit link dir flit
  | .linkResendTimeout link dir => .linkResendTimeout link dir
  | .linkRetrain link => .linkRetrain link
  | .linkRetrainEnd link good => .linkRetrainEnd link good
  | .linkDownRetest link good => .linkDownRetest link good
  | .lkcrcRead link => .lkcrcRead link
  | .fabricFlitReceive port seq auth payload => .fabricFlitReceive port seq auth payload
  | .fabricFlitAck peer seq => .fabricFlitAck peer seq
  | .fabricResendTimeout peer seq => .fabricResendTimeout peer seq
  | .stripeRecompute peer => .stripeRecompute peer
  | .connected msg => .connected msg
  | .refused msg => .refused msg
  | .released msg => .released msg
  | .broken msg => .broken msg
  | .hello msg => .hello msg
  | .helloSend => .helloSend
  | .switchSilent plane => .switchSilent plane
  | .connectRetry slot => .connectRetry slot
  | .releaseTimeout slot => .releaseTimeout slot
  | .portSettled port => .portSettled port
  | .portTrained port usable => .portTrained port usable
  | .portLockTimeout port unlocked => .portLockTimeout port unlocked
  | .keyAgreementComplete keys => .keyAgreementComplete keys
  | .keyAgreementTimeout who => .keyAgreementTimeout who
  | .rekey who => .rekey who
  | .peerLost port => .peerLost port
  | .authFailureDark port => .authFailureDark port
  | .laserModuleRemove module => .laserModuleRemove module
  | .laserModuleInsert module channels => .laserModuleInsert module channels
  | .moduleMonitorPoll module bias moduleTemp => .moduleMonitorPoll module bias moduleTemp
  | .laneRateStepDown port lane temp => .laneRateStepDown port lane temp
  | .laneRateStepUp port lane temp => .laneRateStepUp port lane temp
  | .laneRetire port lane => .laneRetire port lane
  | .lstatRetireWrite port lane value => .lstatRetireWrite port lane value
  | .pcapWrite port value => .pcapWrite port value
  | .tapSample port lane cpl spl mod => .tapSample port lane cpl spl mod
  | .wheyFrameReceive frame => .wheyFrameReceive frame
  | .wheyRetransmitTimeout session seq => .wheyRetransmitTimeout session seq
  | .wheySessionTimeout session => .wheySessionTimeout session
  | .wheySessionOpen session record => .wheySessionOpen session record
  | .cawaitTimeout op => .cawaitTimeout op
  | .timerExpiry ctx timer => .timerExpiry ctx timer
  | .patrolScrub line result => .patrolScrub line result
  | .uncorrectableError hit => .uncorrectableError hit
  | .rasceRead base => .rasceRead base
  | .rasueRead base => .rasueRead base
  | .powerSample pwr tcp => .powerSample pwr tcp
  | .thermalHalt => .thermalHalt
  | .thermalHaltEnd => .thermalHaltEnd
  | .pwrctlWrite value => .pwrctlWrite value
  | .packageStart pass cream => .packageStart pass cream
  | .startStepTimeout reason pass => .startStepTimeout reason pass
  | .heartbeatTimeout => .heartbeatTimeout
  | .hbeatWrite value => .hbeatWrite value
  | .rollbackClear value => .rollbackClear value
  | .contextCreate _ ctx record res => .contextCreate ctx record res
  | .contextDestroy _ ctx => .contextDestroy ctx
  | .fabricBind _ ctx peer peerCtx => .fabricBind ctx peer peerCtx
  | .rosterSet _ pod keys => .rosterSet pod keys
  | .firmwareStage _ image => .firmwareStage image
  | .firmwareUpdate _ => .firmwareUpdate
  | .recordClear _ => .recordClear
  | .rasRead _ base => .rasRead base
  | .powerSet _ value => .powerSet value
  | .hostLinkReset _ => .hostLinkReset
  | .debugAttach requester ctx => .debugAttach requester ctx
  | .debugDetach requester ctx => .debugDetach requester ctx
  | .debugHalt requester die => .debugHalt requester die
  | .debugResume requester target => .debugResume requester target
  | .debugRead requester group obj => .debugRead requester group obj
  | .debugWrite requester group obj value => .debugWrite requester group obj value
  | .spdmSessionEnd requester => .spdmSessionEnd requester
  | .getVersion msg => .getVersion msg
  | .getCapabilities msg => .getCapabilities msg
  | .negotiateAlgorithms msg => .negotiateAlgorithms msg
  | .getDigests msg => .getDigests msg
  | .getCertificate msg => .getCertificate msg
  | .challenge msg => .challenge msg
  | .getMeasurements msg => .getMeasurements msg
  | .keyExchange _ msg => .keyExchange msg
  | .finish _ msg => .finish msg
  | .hostWindowRead offset => .hostWindowRead offset
  | .laserChannelFailure port lane => .laserChannelFailure port lane
  | .laneRetrainEnd port lane => .laneRetrainEnd port lane

end Sys2Proof
end

