-- ==== Sys2Proof/Machine/State.lean ====
section
/-! DEFINITION. The state of one Ixquembe package, as plain data. A map from a number is a list of pairs with rising
keys; what is not listed has the default that its reader names. INVENTORY.md '## State' gives the rule of each part. -/

namespace Sys2Proof.Machine

/-! ## A resident group -/

/-- A latch entry (spec/03 R62). `tag` is the epoch of the issuing group that wrote it; none is "empty, or the tag of
an earlier occupant", which R64 reports alike. -/
structure Latch where
  val    : DWord
  wide   : Bool
  tag    : Option Nat
  poison : Bool
  deriving DecidableEq, Repr

/-- What the rename map holds for a mapped name (spec/03 R66, R74): its physical indices (two for a mirrored name),
its value in each lane, poison (spec/21 R366), and the instruction that allocated it (R70). -/
structure MapEntry where
  phys   : List Nat
  vals   : Lanes Word
  poison : Bool
  seq    : Nat
  deriving DecidableEq, Repr

/-- A release-pending register (spec/03 R69): the entry name `name` had, and the instruction it waits on. -/
structure PendingRelease where
  name  : Nat
  entry : MapEntry
  seq   : Nat
  deriving DecidableEq, Repr

/-- An entry of the path table (spec/09 R220). -/
structure PathEntry where
  pc    : DWord
  lanes : LaneMask
  age   : Nat
  deriving DecidableEq, Repr

/-- Lanes that share a program counter outside the path table: parked lanes (spec/09 R221). -/
structure LanesAt where
  pc    : DWord
  lanes : LaneMask
  deriving DecidableEq, Repr

/-- What lanes outside the path table wait for (spec/09 R224, spec/07 R176). -/
inductive WaitAt where
  | join (j : Nat)
  | bar (b : Nat)
  | barc
  | bard
  deriving DecidableEq, Repr

/-- Lanes waiting at a rejoin mask or a barrier, at the instruction after it. -/
structure WaitingLanes where
  place : WaitAt
  pc    : DWord
  lanes : LaneMask
  deriving DecidableEq, Repr

/-- Where a group's lanes stood when an instruction issued, and its epoch: what a replay of it goes back to (spec/03 R70,
spec/09 R225; log 20). -/
structure PathState where
  table   : List PathEntry
  parked  : List LanesAt
  waiting : List WaitingLanes
  barExec : List (Nat × LaneMask × Nat)
  exited  : LaneMask
  epoch   : Nat
  deriving DecidableEq, Repr

/-- A rejoin mask (spec/07 R176). -/
structure Rejoin where
  mask    : LaneMask
  arrived : LaneMask
  deriving DecidableEq, Repr

/-- A lane's return stack, oldest entry first, and its spill count (spec/02 R39). -/
structure RetStack where
  entries : List DWord
  spilled : Nat
  deriving DecidableEq, Repr

/-- Lease mode (spec/10 R233). -/
inductive LeaseMode where
  | declared | measured
  deriving DecidableEq, Repr

/-- An entry of the sampling filter (spec/10 R234): a virtual line tag VA[79:7] and a stamp. -/
structure FilterEntry where
  line  : BitVec 73
  stamp : Nat
  deriving DecidableEq, Repr

/-- Activation states (spec/10 R237). -/
inductive Activation where
  | active | inactive | dormant
  deriving DecidableEq, Repr

/-- A group's lease state (spec/10 R233, R234, R237-R240). `count` is the group's instruction count; `decayFrom` the
count at the last boost fall or lost-locality event; times are package-timer ns, `protectedUntil` 0 when none. -/
structure Lease where
  mode           : LeaseMode
  declared       : Nat
  boost          : Nat
  filter         : List FilterEntry
  count          : Nat
  decayFrom      : Nat
  act            : Activation
  inactiveSince  : Nat
  protectedUntil : Nat
  recentlyOff    : Bool
  deriving DecidableEq, Repr

/-- A lane's open transaction (spec/07 R168-R172): fallback, the instruction that opened it, virtual lines touched with
their physical lines, bytes read, bytes to write, a serialised attempt, and whether a page of it has been frozen for
migration (spec/11 R261). -/
structure Tx where
  fallback   : DWord
  seq        : Nat
  lines      : List (BitVec 73 × Nat)
  reads      : List (Nat × Byte)
  writes     : List (Nat × Byte)
  serialised : Bool
  frozen     : Bool
  deriving DecidableEq, Repr

/-- A lane's retry series (spec/07 R170): fallback and conflict aborts. -/
structure TxSeries where
  fallback  : DWord
  conflicts : Nat
  deriving DecidableEq, Repr

/-- The waits of spec/09 R226, and the debugger's stop (spec/21 R380). -/
inductive WaitKind where
  | bar | barc | bard | cbwait | twait | wwait | fault | stop
  deriving DecidableEq, Repr

/-- A wait and when it began: core cycle and package timer. -/
structure GroupWait where
  kind    : WaitKind
  cycle   : Nat
  startNs : Nat
  deriving DecidableEq, Repr

/-- A copy batch of a group (spec/08 R188): its number once closed, copies put in it, copies not yet ended, and the
errors found (copy index, code). -/
structure CopyBatch where
  number : Nat
  copies : Nat
  left   : Nat
  errors : List (Nat × Nat)
  deriving DecidableEq, Repr

/-- The trap registers of a group (spec/08 R210, R213): HM and CAUSE of TCAUSE, TDETAIL, TPC, TMASK, TVEC. -/
structure TrapRegs where
  hm     : Bool
  cause  : BitVec 8
  detail : Word
  pc     : DWord
  mask   : LaneMask
  vec    : DWord
  deriving DecidableEq, Repr

/-- A Pail's landing in an entry of a deep window that LDX does not show yet (spec/03 R77): the entry and lane, the word
the bank then holds, whether it is poisoned, and the copy it is of: the core that issued it, its group as a party of its
team, its batch, and the barrier that counts it. -/
structure DeepLanding where
  entry  : Nat
  lane   : Nat
  word   : Word
  poison : Bool
  core   : Nat
  party  : Nat
  batch  : Nat
  cb     : Option Nat
  deriving DecidableEq, Repr

/-- The old value of one register that is not renamed (spec/03 R70); for an STX, each lane's deep-window entry with its
old word (spec/06 R138), and the landings that its write took the place of. -/
inductive UndoItem where
  | oper (n : Nat) (old : Lanes Word)
  | uni (n : Nat) (old : Word)
  | pred (n : Nat) (old : LaneMask)
  | upred (n : Nat) (old : Bool)
  | rejoin (n : Nat) (old : Rejoin)
  | lat (old : Lanes Latch)
  | ulat (old : Latch)
  | ret (old : Lanes RetStack)
  | deep (cells : List (Nat × Nat × Word)) (landed : List DeepLanding)
  deriving DecidableEq, Repr

/-- An entry of the undo buffer: the writing instruction and what it replaced. -/
structure UndoEntry where
  seq  : Nat
  item : UndoItem
  deriving DecidableEq, Repr

/-- A register or entry that holds poison in a core (spec/21 R366); the main file and the latches carry their own. -/
inductive PoisonReg where
  | oper (n : Nat)
  | deep (entry : Nat) (lane : Nat)
  deriving DecidableEq, Repr

/-- A replayable fault that a group holds (spec/08 R215, spec/07 R157): cause, the ring record's index, whether the
record lies in the acknowledgement ring, the path and the operation it struck. -/
structure HeldFault where
  cause : BitVec 8
  ring  : Nat
  ack   : Bool
  pc    : DWord
  lanes : LaneMask
  seq   : Nat
  state : AckState
  deriving DecidableEq, Repr

/-- A group, with `occ` numbering the occupations of its slot and `barExec` the lanes that have executed a BAR or BARA
of each barrier (0-7 n0-n7, 8 BARC, 9 BARD) that the group has still to arrive at, with the count the last of them
gave (spec/07 R173), `poolHeld` whether a request of it for registers was held in the last cycle (spec/03 R72),
`trapPend` a precise trap found at a word that earlier accesses may still have replayed, `awaits` the operations of
other groups that a barrier's acquire makes its words from an instruction on wait for (R175), and `replayFrom` the
first instruction after its last recorded arrival or trap, before which no replay goes back: of a partition, or the
one-lane program of a churn controller, a circuit script or a command core (spec/08 R195, spec/17 R333, spec/14 R275).
-/
structure Group where
  engine     : EngineKind
  ctx        : Nat
  team       : Nat
  grp        : Nat
  producer   : Bool
  floor      : Nat
  budget     : Nat
  codeSpace  : BitVec 16
  linkBase   : DWord
  linkSpace  : BitVec 16
  x          : List (Nat × MapEntry)
  pending    : List PendingRelease
  o          : Vector (Lanes Word) 16
  lat        : Lanes Latch
  ulat       : Latch
  deep       : List (Nat × Lanes Word)
  landed     : List DeepLanding
  q          : Vector Word 64
  k          : Vector LaneMask 7
  h          : Vector Bool 4
  j          : Vector Rejoin 16
  f          : Vector (BitVec 6) 12
  s          : Vector (BitVec 16) 8
  ret        : Lanes RetStack
  table      : List PathEntry
  parked     : List LanesAt
  waiting    : List WaitingLanes
  barExec    : List (Nat × LaneMask × Nat)
  exited     : LaneMask
  occ        : Nat
  epoch      : Nat
  stallEnd   : Nat
  lastIssue  : Option Nat
  yieldPass  : Bool
  yieldEnd   : Nat
  laneSkip   : Nat
  uniSkip    : Nat
  poolHeld   : Bool
  seq        : Nat
  undo       : List UndoEntry
  snaps      : List (Nat × PathState)
  trap       : TrapRegs
  clockh     : Word
  timeh      : Word
  xcode      : Lanes Word
  tx         : Lanes (Option Tx)
  series     : Lanes TxSeries
  lease      : Lease
  wait       : Option GroupWait
  fault      : Option HeldFault
  stop       : Option LanesAt
  holdOp     : Option Nat
  openBatch  : Option CopyBatch
  batches    : List CopyBatch
  nextBatch  : Nat
  poison     : List PoisonReg
  halted     : Bool
  trapPend   : Option (DWord × BitVec 8 × Word)
  awaits     : List (Nat × List Nat)
  replayFrom : Nat
  deriving DecidableEq, Repr

/-! ## Teams, launches, distributors -/

/-- A group or team barrier (spec/07 R173): the parties that have arrived are group numbers within their teams, or team
numbers for BARD; `owes` lists the operations in flight that the arrived groups' release covers (R175). -/
structure Barrier where
  isOpen  : Bool
  count   : Nat
  arrived : List Nat
  owes    : List Nat
  deriving DecidableEq, Repr

/-- A byte-counting barrier (spec/07 R178); the balance is a signed 48-bit number, exact here until it leaves the
range. -/
structure ByteBarrier where
  balance : Int
  posted  : Bool
  overrun : Bool
  deriving DecidableEq, Repr

/-- Where a team is with respect to the wait-swap (spec/09 R227, R228). -/
inductive SwapState where
  | resident
  | saving (endNs : Nat)
  | out
  deriving DecidableEq, Repr

/-- A placed team (spec/09 R217-R219): `age` orders placements; `saved` holds its groups while it is out. -/
structure Team where
  grid      : Nat
  index     : Word
  core      : Nat
  ctx       : Nat
  ngrp      : Nat
  producers : Nat
  deepSize  : Nat
  mirror    : List Nat
  frame     : Nat
  age       : Nat
  bars      : Vector Barrier 8
  cbs       : Vector ByteBarrier 8
  nteam     : Word
  node      : Word
  nrec      : Word
  swap      : SwapState
  ready     : Bool
  saved     : List (Nat × Group)
  /-- Its slot of the save area while it is not resident (spec/15 R297). -/
  saveSlot  : Nat := 0
  /-- Macro-operations queued on its cluster as it ended, which end before its slots are released (spec/09 R225). -/
  macros    : List Nat := []
  ended     : Bool
  deriving DecidableEq, Repr

/-- A kernel descriptor's fields (spec/02 R52); `mirror` lists the names its valid MIRROR slots hold. -/
structure Descriptor where
  entry     : Int
  kind      : Nat
  groups    : Nat
  producers : Nat
  pfloor    : Nat
  pbudget   : Nat
  cfloor    : Nat
  cbudget   : Nat
  mirror    : List Nat
  lease     : Nat
  deep      : Nat
  spaces    : List (BitVec 16)
  deriving DecidableEq, Repr

/-- A work-graph node record (spec/02 R54), with the address of its kernel's descriptor and its fields. -/
structure NodeRec where
  desc    : DWord
  kernel  : Descriptor
  batch   : Nat
  recSize : Nat
  node    : Nat
  deriving DecidableEq, Repr

/-- A 64-byte packet's fields (spec/14 R270, R271, R282, R284). -/
structure Packet where
  type       : Nat
  flags      : BitVec 8
  phase      : BitVec 16
  cwidth     : Nat
  space      : BitVec 16
  desc       : DWord
  nteam      : Nat
  linkSz     : Nat
  linkFrames : Nat
  linkBase   : DWord
  args       : DWord
  tvec       : DWord
  nodes      : DWord
  chcDesc    : DWord
  watch      : Nat
  thresh     : DWord
  addr       : DWord
  len        : Nat
  deriving DecidableEq, Repr

/-- A dispatched LAUNCH, GRAPH or SCRIPT (spec/09 R232, spec/14 R270-R274): where it came from (with the setting of
its queue's EN it was dispatched under and that one's TLINIT; `parent` is a grid for a child of ENQ), its kernel, the
spawn-tree counter, first error, teams placed, start time, when a record was last accepted or a team placed (R280),
the clusters whose controller programs have started and those where they have not exited (R272), and the fault-ring
and acknowledgement-ring indices of a fault handler's launch. -/
structure Launch where
  queue     : Nat
  index     : Nat
  gen       : Nat
  tlInit    : DWord
  parent    : Option Nat
  ctx       : Nat
  packet    : Packet
  desc      : Descriptor
  chc       : Option Descriptor
  args      : List Word
  nodes     : List NodeRec
  counter   : Int
  error     : BitVec 16
  errorLost : Bool
  teams     : Nat
  startNs   : Nat
  moveNs    : Nat
  churnSeen : List Nat
  churnLeft : List Nat
  handler   : Option (Nat × Nat × Nat × Nat)
  done      : Bool
  deriving DecidableEq, Repr

/-- A packet of a queue that completes (spec/14 R281, R283): its queue and index, the setting of EN and TLINIT that it was
dispatched under, START, its error and whether later ones were lost, the byte that says whether an inclusion bitmap was
written (spec/18 R351), and its teams. -/
structure Completion where
  queue   : Nat
  index   : Nat
  gen     : Nat
  init    : DWord
  startNs : Nat
  error   : BitVec 16
  lost    : Bool
  area    : Option (Nat × VAddr)
  teams   : Nat
  deriving DecidableEq, Repr

/-- A range of team indices a cluster distributor holds for a launch (spec/09 R229). -/
structure TeamRange where
  grid    : Nat
  cluster : Nat
  lo      : Nat
  hi      : Nat
  deriving DecidableEq, Repr

/-- A team a Rennet has launched and a distributor has still to place (spec/09 R231): its records. -/
structure RennetTeam where
  grid    : Nat
  node    : Nat
  number  : Nat
  records : List (List Byte)
  deriving DecidableEq, Repr

/-- Records a Rennet holds for a node of a launch (spec/14 R279), the time of the last acceptance, and the number of
teams it has launched for the node. -/
structure NodeQueue where
  grid     : Nat
  node     : Nat
  records  : List (List Byte)
  lastNs   : Nat
  launched : Nat
  deriving DecidableEq, Repr

/-- A record held unaccepted by a full store: the EMIT's operation, and the record. -/
structure HeldRecord where
  op    : Nat
  grid  : Nat
  node  : Nat
  bytes : List Byte
  deriving DecidableEq, Repr

/-- The Rennet and the distributor of a compute die; `dbgHalt` lists the debuggers that keep it halted (spec/21 R380). -/
structure Die where
  queues    : List NodeQueue
  heldRecs  : List HeldRecord
  toPlace   : List RennetTeam
  dieBar    : List (Nat × Barrier)
  dbgHalt   : List Nat
  thermHalt : Bool
  deriving DecidableEq, Repr

/-! ## Operations in flight -/

/-- Where a result goes (spec/03 R63, spec/06 R113): `main` through the rename map, whose physical targets the
operation lists; `quad` destinations count registers. -/
inductive Dest where
  | none
  | zero
  | latchOnly
  | main (n : Nat)
  | oper (n : Nat)
  | uni (n : Nat)
  | pred (n : Nat)
  | upred (n : Nat)
  deriving DecidableEq, Repr

/-- A result: its destination, its width in bits (1 for a predicate), the value in each lane (lane 0 for a uniform
result), the lanes that write, for each main-file register of the destination the physical indices and lanes still
to be written, and whether it also writes the latch. -/
structure RegResult where
  dest    : Dest
  width   : Nat
  vals    : Lanes (BitVec 128)
  lanes   : LaneMask
  targets : List (List (Nat × LaneMask))
  uniform : Bool
  latch   : Bool
  deriving DecidableEq, Repr

/-- One lane's access: its virtual address, size, store data, the physical address once translated, whether a PREF
or a discarded access does nothing, the value bound, and the peer package of a remote one. -/
structure Access where
  lane   : Nat
  va     : VAddr
  size   : Nat
  data   : BitVec 128
  pa     : Option PAddr
  skip   : Bool
  bound  : Bool
  val    : BitVec 128
  peer   : Option Nat
  deriving DecidableEq, Repr

/-- A selector that reads a register, waiting for the cycle of that read (spec/02 R35): the selector, the register, its
target and the address after its word, and where its lanes have been sent by what was then in flight. -/
structure Turn where
  nx     : Nx
  reg    : Nat
  target : DWord
  next   : DWord
  moves  : List (DWord × LaneMask)
  deriving DecidableEq, Repr

/-- What an operation in flight does when it completes. -/
inductive OpKind where
  | result
  | turn (x : Turn)
  | deepStore (entries : List (Nat × Nat × Word))
  | load (signExt : Bool) (acquire : Option Scope) (hint : Nat)
  | pref (hint : Nat)
  | store (mode : StoreMode) (release : Option Scope)
  | atom (op : AtomOp) (mode : StoreMode) (scope : Scope) (ty : Nat)
  | red (op : AtomOp) (mode : StoreMode) (scope : Scope) (ty : Nat)
  | rld
  | rst
  | ratom (op : AtomOp) (ty : Nat)
  | ffence
  | fence (scope : Scope)
  | fencex (first second : AccPath)
  | drain (path : AccPath) (mem : MemKind)
  | xend
  | nop
  | barWait (b : Nat)
  | barArrive (b : Nat)
  | barcWait
  | bardWait
  | joinWait (j : Nat)
  | wwait (cond : Nat) (operands : Lanes Word)
  | cbwait (b : Nat)
  | tcopy (step : Word)
  | twait (n : Nat)
  | tfeed (fmt : Word)
  | tfeedStab (tid : Nat)
  | tdrain
  | emit (nodes : Lanes Word)
  | lease (value : Nat)
  | leasem
  | lrel
  | enq (queue : Nat)
  | churnOp
  | cawait (slot : Nat) (seq : BitVec 24) (untilNs : Nat)
  | creq (slot : Nat)
  | crel (slot : Nat) (seq : BitVec 24)
  | cuse
  | pldrain (plane : Nat) (begun : Bool)
  | pljoin (plane : Nat)
  | wsend (session : Nat) (len : Nat)
  | wrecv (session : Nat) (len : Nat)
  | tmrWait (timer : Nat)
  | evtake
  | evpost (event : DWord)
  | qlock (queue : Nat)
  | yield
  deriving DecidableEq, Repr

/-- An operation in flight (spec/02 R33, spec/07 R147, R148): the group, the instruction's place in program order, its
address and the address after it, the path's lanes and the active ones, whether it is of the uniform pipe, the flag it
counts (0 none), when it issued or, once it has left the core, when it left, the first cycle at which its next phase may
happen, whether it has passed its fault point, left the core, whether it holds its group's issue, what the home has
reported of a lost acknowledgement, and the dies it reported missing while its line is held (spec/11 R262). -/
structure Op where
  group   : Nat
  seq     : Nat
  pc      : DWord
  npc     : DWord
  lanes   : LaneMask
  active  : LaneMask
  uni     : Bool
  flag    : Nat
  issueNs : Nat
  due     : Nat
  kind    : OpKind
  acc     : List Access
  res     : List RegResult
  walked  : Bool
  left    : Bool
  holds   : Bool
  ackLost : Option AckState
  mask    : BitVec 8
  deriving DecidableEq, Repr

/-! ## Memory -/

/-- A store that has entered its address's coherence order and is not yet folded into the memory below it (spec/07
R146, R154): the dies that see it, none other for now while it waits at a held line (spec/11 R262), for each other die
the core cycle at which it will, and whether L1 copies give way to it (spec/11 R260). -/
structure LogStore where
  pa    : Nat
  bytes : List Byte
  seen  : BitVec 8
  due   : List (Nat × Nat)
  op    : Nat
  inL1  : Bool
  deriving DecidableEq, Repr

/-- A pending reduction entry of a home's write queue (spec/07 R160): the word, operation, type (the AT types, and 6
for BF16 and 7 for D8, which only a copy reduces: spec/08 R184), the operands that have merged (a D8 one with its own
block's scale in bits [15:8] and the destination's in [23:16]), their mode, die and core (256 for several), and the
cycle from which it may drain. -/
structure RedEntry where
  pa       : Nat
  op       : AtomOp
  ty       : Nat
  operands : List (BitVec 64)
  mode     : StoreMode
  die      : Nat
  core     : Nat
  due      : Nat
  deriving DecidableEq, Repr

/-- Rights of a translation (spec/15 R299, R300). -/
structure Rights where
  rd : Bool
  wr : Bool
  ex : Bool
  deriving DecidableEq, Repr

/-- A line of a core's L1 (spec/11 R247, R248, spec/10 R235). `hint` 1 marks the first candidate for eviction;
`owner` is the group's key and its slot's occupation. -/
structure L1Line where
  ctx     : Nat
  vline   : BitVec 73
  pline   : Nat
  data    : List Byte
  rights  : Rights
  hint    : Nat
  lastUse : Nat
  owner   : Nat × Nat
  poison  : Bool
  deriving DecidableEq, Repr

/-- An entry of a core's victim tag store (spec/10 R235). -/
structure Victim where
  ctx   : Nat
  vline : BitVec 73
  owner : Nat × Nat
  deriving DecidableEq, Repr

/-- A line of a last-level slice (spec/11 R247, R249, spec/15 R301); the bytes a modified line holds over its home
stand in `State.dirty`. -/
structure SliceLine where
  base     : Nat
  ctx      : Nat
  vline    : BitVec 73
  pline    : Nat
  key      : Nat
  rights   : Rights
  modified : Bool
  deriving DecidableEq, Repr

/-- A remap-filter entry (spec/11 R250): the first virtual line of a physical line. -/
structure RemapEntry where
  pline : Nat
  ctx   : Nat
  vline : BitVec 73
  deriving DecidableEq, Repr

/-- A TLU entry (spec/15 R301): translation unit, context, page (its first address and size), leaf contents. -/
structure TluEntry where
  tlu    : Nat
  ctx    : Nat
  page   : VAddr
  big    : Bool
  pa     : PAddr
  key    : Nat
  rights : Rights
  deriving DecidableEq, Repr

/-- A line of far memory read with another key pair than encrypted it (spec/15 R306): the generation of the pair that did,
the bytes it encrypted, and the bytes shown since. -/
structure Cipher where
  gen   : Nat
  plain : List Byte
  shown : List Byte
  deriving DecidableEq, Repr

/-- A page being migrated (spec/15 R303): context and page, old and new physical page, whether the leaf has been set again
and the held requests are being forwarded, when it was frozen, and the operations held at the old home in arrival
order. -/
structure Migration where
  ctx     : Nat
  page    : VAddr
  oldPa   : PAddr
  newPa   : PAddr
  moved   : Bool
  startNs : Nat
  heldOps : List Nat
  deriving DecidableEq, Repr

/-! ## Pail and Churn -/

/-- A shape record's fields (spec/08 R181), with `reserved` set when a reserved bit is. -/
structure Shape where
  src      : DWord
  srcSpace : BitVec 16
  dstSpace : BitVec 16
  fmt      : Nat
  dims     : Nat
  stepDim  : Nat
  red      : Nat
  comp     : Bool
  dkind    : Bool
  cb       : Nat
  cbEn     : Bool
  clb      : Nat
  clbEn    : Bool
  dst      : DWord
  dwFirst  : Nat
  lmap     : Nat
  sscale   : Int
  dscale   : Int
  box      : List Nat
  peer     : Nat
  remote   : Bool
  repl     : Word
  stride   : List Int
  reserved : Bool
  deriving DecidableEq, Repr

/-- Batches of a group that has gone and that no TWAIT retired (spec/08 R188): the group's number as a party of its team,
and its launch. -/
structure Orphan where
  party   : Nat
  grid    : Nat
  batches : List CopyBatch
  deriving DecidableEq, Repr

/-- A piece of a copy on its way to a peer (spec/08 R189, spec/17 R323): the peer and the context bound there, its
flit's sequence number, when it issued, the bytes it counts, the bytes it stores, the elements it reduces (address,
value, source scale, address of the destination's scale), and the lines of the peer whose poison it clears and sets.
-/
structure SentPiece where
  peer     : Nat
  ctx      : Nat
  seq      : Word
  ns       : Nat
  count    : Nat
  stores   : List (VAddr × List Byte)
  reds     : List (VAddr × Nat × Nat × VAddr)
  cleared  : List Nat
  poisoned : List Nat
  deriving DecidableEq, Repr

/-- A copy a Pail has accepted (spec/08 R187-R190): its issuer (`group` is the number the group has as a party of its
team, the same before and after a wait-swap), batch, index in it, record, step value, whether its
circuit-live barrier has passed it, the next destination byte, the destination of those at peers, its error and fault, the
teams whose deep windows it lands in (spec/08 R186), the bytes of a reduced element that its next piece still has to
write (log 89), and the pieces whose peer has still to acknowledge them. -/
structure Copy where
  cluster  : Nat
  core     : Nat
  group    : Nat
  team     : Nat
  grid     : Nat
  ctx      : Nat
  batch    : Nat
  index    : Nat
  shape    : Shape
  step     : Int
  started  : Bool
  next     : Nat
  total    : Nat
  dest     : Nat
  issueNs  : Nat
  pc       : DWord
  lanes    : LaneMask
  error    : Nat
  fault    : Option (BitVec 8 × Nat)
  teams    : List Nat
  carry    : List Byte
  out      : List SentPiece := []
  deriving DecidableEq, Repr

/-- A feed slot (spec/08 R191, R192): its format word, its bytes, full or not, the group and the operation that fill it
(0 while the replay of a faulted TFEED is awaited), and whether it was fed poison (spec/21 R366). -/
structure FeedSlot where
  fmt    : Word
  data   : List (Nat × Byte)
  full   : Bool
  group  : Nat
  op     : Nat
  poison : Bool
  deriving DecidableEq, Repr

/-- A tile of 64 x 32 FP32 values, row-major, elements that are +0 not listed. -/
abbrev Tile := List (Nat × Word)

/-- A place of the drain buffer (spec/08 R194): the tile, and the group and operation of the TDRAIN that has claimed it
(0 while the replay of a faulted TDRAIN is awaited). -/
structure DrainTile where
  tile  : Tile
  claim : Option (Nat × Nat)
  deriving DecidableEq, Repr

/-- The kinds of macro-operation (spec/08 R196, R199). -/
inductive MacroKind where
  | mma | mmag | mzero | mmovDrain | mmovCopy | mld | mst
  deriving DecidableEq, Repr

/-- A queued macro-operation (spec/08 R195-R198): its operation, `.bs` or not, tile, steps, Q, E or the second tile,
stream base, format word of a `.bs` B, the step or KiB it stands at, fed tiles it has taken, begun, when its last
step issued, and a held fault: its cause and its record's index. -/
structure MacroOp where
  op      : Nat
  kind    : MacroKind
  bs      : Bool
  tile    : Nat
  steps   : Nat
  q       : Nat
  e       : Nat
  base    : VAddr
  bsFmt   : Word
  step    : Nat
  taken   : Nat
  begun   : Bool
  lastAt  : Option Nat
  fault   : Option (BitVec 8 × Nat)
  deriving DecidableEq, Repr

/-- A read of a scale byte in flight (spec/16 R307): the byte as it was read, when it comes, and whether its TID has been
registered anew since. -/
structure ScaleRead where
  tid   : Nat
  block : Nat
  byte  : Byte
  due   : Nat
  stale : Bool
  deriving DecidableEq, Repr

/-- A cluster's Churn (spec/08 R191-R199, spec/16 R307): accumulators and shadows that are not all +0, the
macro-operation queue, feed and drain buffers, the registration table, the cached scale bytes, the reads of such bytes in
flight and the bytes that the waiting step has and the cache has not; `grid` is the launch whose program the controller
runs. -/
structure Churn where
  grid      : Option Nat
  tiles     : List (Nat × Tile)
  shadows   : List (Nat × Tile)
  macros    : List MacroOp
  feed      : List FeedSlot
  drain     : List DrainTile
  scales    : List (Nat × VAddr)
  scaleByte : List ((Nat × Nat) × Byte)
  scaleRead : List ScaleRead
  stepByte  : List ((Nat × Nat) × Byte)
  deriving DecidableEq, Repr

/-- A cluster: its Churn and its cluster barriers by launch. -/
structure Cluster where
  churn  : Churn
  cluBar : List (Nat × Barrier)
  deriving DecidableEq, Repr

/-! ## Queues, contexts, firmware -/

/-- A hardware queue's registers (spec/14 R267, R268, R281) and its packets: `inFlight` lists those dispatched and
not complete, `complete` those complete whose turn on the timeline has not come. -/
structure Queue where
  en       : Bool
  prio     : BitVec 5
  logsz    : BitVec 4
  ctx      : BitVec 8
  qbase    : DWord
  qspace   : BitVec 16
  qcbase   : DWord
  wptr     : DWord
  rptr     : DWord
  tlv      : DWord
  ph       : BitVec 16
  tlInit   : DWord
  gen      : Nat
  inFlight : List Nat
  complete : List Nat
  deriving DecidableEq, Repr

/-- A packet ENQ has put in the child store (spec/14 R277). -/
structure Child where
  queue  : Nat
  parent : Nat
  packet : List Byte
  grid   : Nat
  deriving DecidableEq, Repr

/-- The packet the front end has in hand, or a SCRIPT held undispatched (spec/14 R269, spec/17 R333): its queue, ring
index or child, bytes, the error met in reading them, and the launch it has passed its checks as. -/
structure FrontItem where
  queue  : Nat
  index  : Nat
  child  : Option Child
  bytes  : List Byte
  bad    : BitVec 16
  launch : Option Launch
  deriving DecidableEq, Repr

/-- A live context's record (spec/15 R288) and its firmware state: ring indices of its fault and acknowledgement
rings, peer bindings (spec/17 R325), assigned ports, slots and barriers, timers (spec/08 R208), key generation, and
the residency clock (spec/15 R291). `attached` is the requester of CFLAGS[1]; `chkFrom` and `budFrom` list the values that
CHK and LBUDGET have acted with and the cycle from which each does (spec/10 R236). -/
structure Context where
  ttbase    : PAddr
  icw       : Word
  wthresh   : Nat
  keySlot   : Nat
  attached  : Option Nat
  part      : BitVec 64
  saveOff   : Nat
  saveSz    : Nat
  teamSave  : Nat
  fhDesc    : DWord
  fhSpace   : BitVec 16
  frLog     : Nat
  arLog     : Nat
  fring     : DWord
  aring     : DWord
  hwTab     : PAddr
  hwCnt     : Nat
  frIndex   : Nat
  arIndex   : Nat
  unresF    : List Nat
  unresA    : List Nat
  binds     : List (Nat × Nat)
  ports     : BitVec 64
  slots     : BitVec 64
  barriers  : BitVec 64
  timers    : Vector (Option Nat) 8
  keyGen    : Nat
  dueSince  : Option Nat
  leftAt    : Nat
  gainedAt  : Nat
  chkFrom   : List (Nat × Bool)
  budFrom   : List (Nat × Nat)
  deriving DecidableEq, Repr

/-- Who is resident on a partition and whose image the Crock holds (spec/15 R289-R294): since when, the end of a due
context's quantum (none when it is not a due one), the rest of a displaced quantum, and an exchange decided and not
yet done. -/
structure Residency where
  part     : BitVec 64
  resident : Option Nat
  standby  : Option Nat
  sinceNs  : Nat
  quantum  : Option Nat
  rest     : Option (Nat × Nat)
  chosen   : Option Nat
  stopped  : Bool
  deriving DecidableEq, Repr

/-! ## Fabric, links, Whey plane -/

/-- A circuit ticket (spec/17 R327): `state` is its code 0-7. `used` says whether a CREL has released it and waits. -/
structure Ticket where
  state     : Nat
  seq       : BitVec 24
  cause     : BitVec 8
  swus      : BitVec 16
  port      : Nat
  peerPkg   : Nat
  peerPort  : Nat
  ctx       : Nat
  releasing : Bool
  sentNs    : Nat
  firstRel  : Nat
  deriving DecidableEq, Repr

/-- A lane of an optical port (spec/17 R316-R319). Powers and temperatures are the registers' own bits; `highSince`
is when the temperature came 0.50 °C inside the higher band; `sampled` says that it has been reported, `noted` that BIAS0
has been taken. -/
structure OptLane where
  retire     : Bool
  wear       : Bool
  rate       : Nat
  temp       : BitVec 16
  bias       : BitVec 16
  bias0      : BitVec 16
  age        : Word
  ageAcc     : Nat
  retraining : Bool
  locked     : Bool
  failed     : Bool
  sampled    : Bool
  noted      : Bool
  highSince  : Option Nat
  cpl        : BitVec 48
  spl        : BitVec 48
  modTap     : BitVec 48
  deriving DecidableEq, Repr

/-- A direction's key and IV base (spec/17 R334). -/
structure KeyHalf where
  key : List Byte
  iv  : BitVec 96
  deriving DecidableEq, Repr

/-- The keys of a port or a Whey session (spec/17 R334, R335): of what it sends and of what it receives, those that the
peer's marked frame brings into use, whether its own next frame is the marked one, and the ephemeral key of an agreement
under way, by draw, with the time at which that began. -/
structure Keys where
  send  : KeyHalf
  recv  : KeyHalf
  next  : Option KeyHalf
  mark  : Bool
  agree : Option (Nat × Nat)
  deriving DecidableEq, Repr

/-- No keys. -/
def Keys.off : Keys := ⟨⟨[], 0#96⟩, ⟨[], 0#96⟩, none, false, none⟩

/-- An optical port (spec/17 R312-R315): `state` is PSTAT's code 0-4; `lights` says that its lasers are on, `ticket` which
slot holds it; since when it has its state, the time of its last
frame, the frames received and sent under its present keys, and the number and time of those. -/
structure Port where
  state    : Nat
  cause    : BitVec 8
  peerPkg  : BitVec 6
  peerPort : BitVec 6
  sinceNs  : Nat
  lights   : Bool
  ticket   : Option Nat
  badAuth  : Nat
  lastNs   : Nat
  frames   : Nat
  sent     : Nat
  keyGen   : Nat
  keyNs    : Nat
  keys     : Keys
  lanes    : Vector OptLane 4
  deriving DecidableEq, Repr

/-- A flit sent to a peer and not acknowledged: its sequence number, its port, when it was sent, and whether it was then
lost, so that it brings no acknowledgement (`State.hits`, log 103). -/
structure SentFlit where
  seq  : Word
  port : Nat
  ns   : Nat
  lost : Bool
  deriving DecidableEq, Repr

/-- The fabric's state towards one peer package (spec/17 R322, R323): the stripe (ports in order), the round-robin
position and deficits, flits sent and not acknowledged, next sequence numbers each way. -/
structure PeerLink where
  stripe   : List Nat
  turn     : Nat
  deficit  : List (Nat × Nat)
  nextSend : Word
  unacked  : List SentFlit
  nextRecv : Word
  early    : List (Word × List PeerReq)
  deriving DecidableEq, Repr

/-- A Whey session (spec/17 R337-R339). `state` 0 closed, 1 agreeing keys, 2 open; `frames` and `sent` count the frames
received and sent under the present keys (R335). -/
structure Session where
  kind     : Nat
  ctx      : Nat
  ports    : BitVec 8
  tmoMs    : Nat
  lport    : BitVec 16
  rport    : BitVec 16
  peerMac  : BitVec 48
  peerIp   : BitVec 128
  state    : Nat
  openNs   : Nat
  opens    : Nat
  keyGen   : Nat
  keys     : Keys
  frames   : Nat
  sent     : Nat
  nextSend : Word
  unacked  : List (Word × List Byte × Nat × Nat)
  nextRecv : Word
  inbox    : List (List Byte)
  lastAck  : Nat
  srttNs   : Nat
  deriving DecidableEq, Repr

/-- A package-network message between base dies: the request of a lane of an operation, or its response, from the
requester's base die and to the home's, which way round the ring of base dies it travels, and whether it is an atomic's
(spec/18 R340, R343, spec/19 R356). -/
structure LinkMsg where
  op     : Nat
  lane   : Nat
  src    : Nat
  dst    : Nat
  back   : Bool
  up     : Bool
  atomic : Bool
  deriving DecidableEq, Repr

/-- A data flit of a replay buffer: its SEQ, its messages, and when it was last sent (spec/18 R342). -/
structure LinkFlit where
  seq  : BitVec 16
  msgs : List LinkMsg
  sent : Option Nat
  deriving DecidableEq, Repr

/-- One direction of a die-to-die link (spec/18 R342, spec/19 R357). The sender: its next SEQ, its replay buffer, the
messages that wait for a place there, the SEQ from which a resend round is due, the flits still to go in a round or as
traffic resumes, the times of the rounds within the last 100 us, the time of its next flit, and the flits on the way. The
receiver: the SEQ it expects, its failures, its last NAK, and whether it owes one. `stateAt` is the cycle at which the
link-state flit of its sender comes out while the link is down, `told` whether its receiver's has come, and `pass` the
lanes that pass a test (log 109). -/
structure LinkDir where
  nextSeq  : BitVec 16
  buffer   : List LinkFlit
  queue    : List LinkMsg
  round    : Option (BitVec 16)
  again    : List (BitVec 16)
  rounds   : List Nat
  nextNs   : Nat
  wire     : List (Nat × Flit)
  expect   : BitVec 16
  failures : Nat
  lastNak  : Option Nat
  nak      : Bool
  stateAt  : Option Nat
  told     : Bool
  pass     : BitVec 64
  deriving DecidableEq, Repr

/-- A die-to-die link (spec/18 R344, R345): `state` and `lanes` as LKSTAT has them, since when, and whether the half
in use at 32 lanes is the upper. -/
structure Link where
  state   : Nat
  lanes   : Nat
  upper   : Bool
  replays : Nat
  crc     : Nat
  step    : Word
  sinceNs : Nat
  up      : LinkDir
  down    : LinkDir
  deriving DecidableEq, Repr

/-- Where the request of a lane's access to a home on another base die is: on its way there, at the home, or answered
and on its way back (spec/18 R343). -/
inductive ReqStage where
  | out | home | back
  deriving DecidableEq, Repr

/-- The request of a lane of an operation to a home on another base die; those at a home stand in the order in which they
came. -/
structure Req where
  op    : Nat
  lane  : Nat
  src   : Nat
  dst   : Nat
  stage : ReqStage
  deriving DecidableEq, Repr

/-! ## Repairs -/

/-- The error log of a base die (spec/21 R367). -/
structure RasLog where
  ce   : Word
  ue   : Word
  addr : DWord
  deriving DecidableEq, Repr

/-- The boot-step record (spec/21 R370, R371), with its 62 reserved bytes and the 64 bytes that its signature was made
over, and the start in progress: `recovery` when the start has stopped there, `ready` after step 12, `at_` the step it
stands at (0 none), whether some start has passed step 5 (R369), and the step whose failed starts FAILS counts. -/
structure Boot where
  spare    : List Byte
  signed   : List Byte
  failsAt  : Nat
  starts   : BitVec 16
  step     : Nat
  state    : Nat
  reason   : BitVec 16
  alt      : Word
  fails    : Word
  recovery : Bool
  ready    : Bool
  at_      : Nat
  sweepOk  : Bool
  deriving DecidableEq, Repr

/-- Firmware slots and the update in progress (spec/21 R372-R374): the image of the idle slot (`staged`) and of the
active one (`running`), `rolledAt` the cycle in which hardware last set ROLLBACK, `quiesced` while dispatch is ended,
the time at which the heartbeat is missed (`armed`), the physical address of the handover structure (R373), and the
fused minimum version. -/
structure FwSlots where
  hbeat    : Bool
  rollback : Bool
  rolledAt : Option Nat
  slot     : Bool
  staged   : Option FirmwareImage
  running  : FirmwareImage
  quiesced : Bool
  armed    : Option Nat
  handed   : Nat
  minVer   : Nat
  deriving DecidableEq, Repr

/-- Power and thermal control (spec/21 R376). -/
structure Power where
  plimit  : BitVec 16
  tlimit  : BitVec 8
  pwr     : BitVec 16
  tcp     : BitVec 8
  clk     : BitVec 8
  underNs : Option Nat
  hotNs   : Option Nat
  coolNs  : Option Nat
  halted  : Option Nat
  deriving DecidableEq, Repr

/-- Identity and attestation (spec/21 R375, R377): measurement indices 1-4 as lists of digests extended, the
requesters that have exchanged keys and those with a secure session, each with its certificate, the rosters with
whether management has set them since the package left the factory, and the random draws made. -/
structure Identity where
  keyMade   : Bool
  measured  : Vector (List (List Byte)) 4
  exchanged : List Nat
  secure    : List (Nat × List Byte)
  podSet    : Bool
  podRoster : List (List Byte)
  opSet     : Bool
  opRoster  : List (List Byte)
  draws     : Nat
  deriving DecidableEq, Repr

/-- What the package sends to the outside; `whey` is a frame: its port, the headers it travels in (spec/17 R336), its
transport header and what follows that, the message sealed (R337), and whether it is the marked one (R335). -/
inductive Sent where
  | whey (port : Nat) (outer : List Byte) (header : List Byte) (body : List Byte) (mark : Bool)
  | keyShare (port : Nat) (bytes : List Byte)
  | remote (op : Nat) (peer : Nat)
  | fabricAck (peer : Nat) (seq : Word)
  | peerAnswer (peer : Nat) (tag : Nat) (accept : Bool) (poison : Bool) (bytes : List Byte)
  | hostRead (bytes : List Byte) (poison : Bool)
  | hostStore (hostPa : Nat) (bytes : List Byte)
  | unsupported
  | management (code : Nat) (bytes : List Byte)
  | stopReport (core : Nat) (slot : Nat) (addr : DWord) (mask : LaneMask)
  | debugValue (vals : List (BitVec 128))
  | refusedCmd (code : Nat)
  | spdm (code : Nat) (bytes : List Byte)
  | regRead (value : DWord)
  deriving DecidableEq, Repr

/-! ## The machine -/

/-- The path an instruction executes for: its group's key, its address and its lanes (spec/09 R223), and the first cycle
at which the group's next instruction may issue, when a path issued with it makes that later (R223). -/
structure Cur where
  group : Nat
  pc    : DWord
  lanes : LaneMask
  next  : Nat
  deriving DecidableEq, Repr

/-- The whole package. -/
structure State where
  -- control of the model: log 1, log 2, log 4
  agenda   : List Event
  inputs   : List (Nat × Event)
  asker    : Nat
  chosen   : List Cur
  cur      : Cur
  delays   : List Nat
  hits     : List Bool
  freeCtr  : Nat
  nextId   : Nat
  -- time (R18, R384): core cycles, base-die cycles with the fraction of one and those still to run, ns
  cycle    : BitVec 64
  baseCycle : BitVec 64
  baseAcc  : Nat
  baseDue  : Nat
  timer    : BitVec 64
  timerAcc : Nat
  -- kernels
  groups   : List (Nat × Group)
  teams    : List (Nat × Team)
  launches : List (Nat × Launch)
  ranges   : List TeamRange
  ops      : List (Nat × Op)
  regsUsed : List (Nat × List Nat)
  laneBusy : List (Nat × Nat)
  -- clusters, dies
  clusters : List (Nat × Cluster)
  dies     : List (Nat × Die)
  copies   : List (Nat × Copy)
  orphans  : List Orphan
  -- memory
  mem      : List Host.Cell
  dirty    : List Host.Cell
  log      : List LogStore
  reds     : List RedEntry
  heldLines : List (Nat × List Nat)
  poisoned : List Nat
  keyed    : List (Nat × Nat × Bool)
  ciphers  : List (Nat × Cipher)
  peers    : List Host.Cell
  peerPoison : List Nat
  -- the packages of the pod that are present (R162; log 91), and requests of theirs that wait at this package (R161, R252)
  pod      : BitVec 48
  peerAsks : List (Nat × PeerReq)
  l1       : List (Nat × List L1Line)
  victims  : List (Nat × List Victim)
  slices   : List SliceLine
  remap    : List RemapEntry
  tlb      : List TluEntry
  migs     : List Migration
  heldStores : List (Nat × VAddr × List Byte)
  heldEnds : List Completion
  cream    : Vector Nat 4
  -- front end and firmware
  queues   : List (Nat × Queue)
  children : List Child
  front    : Option FrontItem
  rrPos    : List (Nat × Nat)
  events   : List DWord
  heldEvts : List DWord
  qlocks   : List (Nat × Nat)
  contexts : List (Nat × Context)
  resid    : List Residency
  scripts  : List FrontItem
  cmcOut   : List Nat
  cpHalt   : Bool
  cmcEvent : List (Nat × DWord)
  cmcTrapNs : List (Nat × Nat)
  keySlots : List (Nat × Nat)
  -- fabric
  package  : Nat
  tickets  : List (Nat × Ticket)
  clbs     : List (Nat × List Nat)
  ports    : List (Nat × Port)
  modules  : Vector Nat 4
  drained  : BitVec 16
  peerLinks : List (Nat × PeerLink)
  hellos   : Vector Nat 16
  silent   : BitVec 16
  sessions : List (Nat × Session)
  wheyDrops : Nat
  links    : Vector Link 4
  reqs     : List Req
  -- repairs
  ras      : Vector RasLog 4
  boot     : Boot
  fw       : FwSlots
  power    : Power
  ident    : Identity
  hostErr  : Bool
  hostShares : List Nat
  outbox   : List Sent
  deriving DecidableEq, Repr

/-! ## Faults and refusals -/

/-- How a step of the model can stop without a next state. -/
inductive Fault where
  /-- A word's meaning was asked for an engine that has no program of that kind resident: raised by nothing the
  package does by itself. Safe: the model stops. -/
  | noProgram
  deriving DecidableEq, Repr

/-- Why a step has no meaning in the model. -/
inductive Refusal where
  /-- An instruction this model has no meaning for; raised only by an arm of `exec`. Safe: the model stops. -/
  | notModelled (mnemonic : String)
  deriving DecidableEq, Repr

/-! ## Reset -/

/-- A barrier with no arrival (spec/07 R173). -/
def Barrier.closed : Barrier := ⟨false, 0, [], []⟩

/-- A byte-counting barrier at placement (spec/07 R178). -/
def ByteBarrier.zero : ByteBarrier := ⟨0, false, false⟩

/-- A latch entry that the group has not written (spec/03 R60). -/
def Latch.empty : Latch := ⟨0#64, false, none, false⟩

/-- A group before anything is loaded: every register at the value spec/03 R60 gives the start of a group. -/
def Group.blank : Group where
  engine := .partition
  ctx := 0
  team := 0
  grp := 0
  producer := false
  floor := 0
  budget := 0
  codeSpace := 0#16
  linkBase := 0#64
  linkSpace := 0#16
  x := []
  pending := []
  o := Vector.replicate 16 (Vector.replicate 32 0#32)
  lat := Vector.replicate 32 Latch.empty
  ulat := Latch.empty
  deep := []
  landed := []
  q := Vector.replicate 64 0#32
  k := Vector.replicate 7 0#32
  h := Vector.replicate 4 false
  j := Vector.replicate 16 ⟨0#32, 0#32⟩
  f := Vector.replicate 12 0#6
  s := Vector.replicate 8 0#16
  ret := Vector.replicate 32 ⟨[], 0⟩
  table := []
  parked := []
  waiting := []
  barExec := []
  exited := 0#32
  occ := 0
  epoch := 0
  stallEnd := 0
  lastIssue := none
  yieldPass := false
  yieldEnd := 0
  laneSkip := 0
  uniSkip := 0
  poolHeld := false
  seq := 0
  undo := []
  snaps := []
  trap := ⟨false, 0#8, 0#32, 0#64, 0#32, 0#64⟩
  clockh := 0#32
  timeh := 0#32
  xcode := Vector.replicate 32 0#32
  tx := Vector.replicate 32 none
  series := Vector.replicate 32 ⟨0#64, 0⟩
  lease := ⟨.measured, 0, 0, [], 0, 0, .inactive, 0, 0, false⟩
  wait := none
  fault := none
  stop := none
  holdOp := none
  openBatch := none
  batches := []
  nextBatch := 0
  poison := []
  halted := false
  trapPend := none
  awaits := []
  replayFrom := 0

/-- A Churn that runs nothing; its tiles are +0 (log 9). -/
def Churn.idle : Churn := ⟨none, [], [], [], [], [], [], [], [], []⟩

/-- An optical lane at reset (spec/17 R317, R319): registers 0, taps 0xF060. -/
def OptLane.reset : OptLane where
  retire := false
  wear := false
  rate := 0
  temp := 0#16
  bias := 0#16
  bias0 := 0#16
  age := 0#32
  ageAcc := 0
  retraining := false
  locked := false
  failed := false
  sampled := false
  noted := false
  highSince := none
  cpl := 0xF060F060F060#48
  spl := 0xF060F060F060#48
  modTap := 0xF060F060F060#48

/-- A port at reset (spec/17 R315): dark, cause 0x00. -/
def Port.reset : Port where
  state := 0
  cause := 0#8
  peerPkg := 0#6
  peerPort := 0#6
  sinceNs := 0
  lights := false
  ticket := none
  badAuth := 0
  lastNs := 0
  frames := 0
  sent := 0
  keyGen := 0
  keyNs := 0
  keys := .off
  lanes := Vector.replicate 4 OptLane.reset

/-- One direction of a link at reset. -/
def LinkDir.reset : LinkDir where
  nextSeq := 0#16
  buffer := []
  queue := []
  round := none
  again := []
  rounds := []
  nextNs := 0
  wire := []
  expect := 0#16
  failures := 0
  lastNak := none
  nak := false
  stateAt := none
  told := false
  pass := 0xFFFFFFFFFFFFFFFF#64

/-- A link at reset (spec/18 R345): not trained since start. -/
def Link.reset : Link := ⟨0, 0, false, 0, 0, 0#32, 0, .reset, .reset⟩

/-- A queue at reset (spec/14 R267, R268). -/
def Queue.reset : Queue where
  en := false
  prio := 0#5
  logsz := 0#4
  ctx := 0#8
  qbase := 0#64
  qspace := 0#16
  qcbase := 0#64
  wptr := 0#64
  rptr := 0#64
  tlv := 0#64
  ph := 0#16
  tlInit := 0#64
  gen := 0
  inFlight := []
  complete := []

/-- A ticket slot that nobody holds (spec/17 R327); the first sequence number is 1 (log 12). -/
def Ticket.free : Ticket where
  state := 0
  seq := 1#24
  cause := 0#8
  swus := 0#16
  port := 0
  peerPkg := 0
  peerPort := 0
  ctx := 0
  releasing := false
  sentNs := 0
  firstRel := 0

/-- A closed Whey session (spec/17 R338). -/
def Session.closed : Session where
  kind := 0
  ctx := 0
  ports := 0#8
  tmoMs := 0
  lport := 0#16
  rport := 0#16
  peerMac := 0#48
  peerIp := 0#128
  state := 0
  openNs := 0
  opens := 0
  keyGen := 0
  keys := .off
  frames := 0
  sent := 0
  nextSend := 0#32
  unacked := []
  nextRecv := 0#32
  inbox := []
  lastAck := 0
  srttNs := 0

/-- A compute die with nothing on it. -/
def Die.idle : Die := ⟨[], [], [], [], [], false⟩

/-- A cluster with nothing on it. -/
def Cluster.idle : Cluster := ⟨Churn.idle, []⟩

/-- Whey session 0, which carries firmware's and the circuit agents' messages (spec/17 R328, R338): the spec gives no
record for it; it is open from reset, on every port, belongs to firmware, and has no time-out (log 92). -/
def Session.agents : Session := { Session.closed with kind := 1, ports := 0xFF#8, state := 2 }

/-- Nothing known of a peer package yet. -/
def PeerLink.idle : PeerLink := ⟨[], 0, [], 0#32, [], 0#32, []⟩

/-- The package right after reset, before the first step of start (spec/21 R369): nothing is resident, no queue is
enabled, every register has its reset value and memory lists nothing. -/
def State.reset : State where
  agenda := []
  inputs := []
  asker := 0
  chosen := []
  cur := ⟨0, 0#64, 0#32, 0⟩
  delays := []
  hits := []
  freeCtr := 0
  nextId := 1
  cycle := 0#64
  baseCycle := 0#64
  baseAcc := 0
  baseDue := 0
  timer := 0#64
  timerAcc := 0
  groups := []
  teams := []
  launches := []
  ranges := []
  ops := []
  regsUsed := []
  laneBusy := []
  clusters := []
  dies := []
  copies := []
  orphans := []
  mem := []
  dirty := []
  log := []
  reds := []
  heldLines := []
  poisoned := []
  keyed := []
  ciphers := []
  peers := []
  peerPoison := []
  pod := BitVec.allOnes 48
  peerAsks := []
  l1 := []
  victims := []
  slices := []
  remap := []
  tlb := []
  migs := []
  heldStores := []
  heldEnds := []
  cream := #v[64, 64, 64, 64]
  queues := []
  children := []
  front := none
  rrPos := []
  events := []
  heldEvts := []
  qlocks := []
  contexts := []
  resid := []
  scripts := []
  cmcOut := []
  cpHalt := false
  cmcEvent := []
  cmcTrapNs := []
  keySlots := [(0, 0)]
  package := 0
  tickets := []
  clbs := []
  ports := []
  modules := #v[64, 64, 64, 64]
  drained := 0#16
  peerLinks := []
  hellos := Vector.replicate 16 0
  silent := 0#16
  sessions := [(0, Session.agents)]
  wheyDrops := 0
  links := Vector.replicate 4 Link.reset
  reqs := []
  ras := Vector.replicate 4 ⟨0#32, 0#32, 0#64⟩
  boot := ⟨List.replicate 62 0#8, [], 0, 0#16, 0, 0, 0#16, 0#32, 0#32, false, false, 0, false⟩
  fw := ⟨false, false, none, false, none, ⟨true, 0, 1#8, []⟩, false, none, 0, 0⟩
  power := ⟨2400#16, 45#8, 0#16, 0#8, 96#8, none, none, none, none⟩
  ident := ⟨false, Vector.replicate 4 [], [], [], false, [], false, [], 1⟩
  hostErr := false
  hostShares := []
  outbox := []

end Sys2Proof.Machine
end

