-- ==== Sys2Proof/Machine/Ops.lean ====
section
/-! DEFINITION. The named operations over the package's state: where things lie, memory and its views, caches,
translation, registers of a group, paths, and taking an exception. -/

namespace Sys2Proof.Machine

/-- Element n of a vector, or a default beyond its end. -/
def vget {α : Type} {n : Nat} (v : Vector α n) (i : Nat) (d : α) : α := (v[i]?).getD d

/-! ## Where things lie (spec/01 R10-R15) -/

/-- The first key of the churn controllers' programs. -/
def churnKey (cluster : Nat) : Nat := 0x4000 + cluster
/-- The key of circuit script i (0-15). -/
def scriptKey (i : Nat) : Nat := 0x4040 + i
/-- The key of command core i (0-11). -/
def commandKey (i : Nat) : Nat := 0x4050 + i

/-- The key that a group or controller program of a context keeps while the context is out (spec/15 R289). -/
def outKey (ctx key : Nat) : Nat := (ctx + 1) * 0x10000 + key % 0x10000
/-- The place that a key has, or had while its context was resident. -/
def homeKey (key : Nat) : Nat := key % 0x10000
/-- The key that a group of a team has while its team is out (spec/09 R227). -/
def parkedKey (party key : Nat) : Nat := (0x1000 + 2 * party) * 0x10000 + key % 0x10000
/-- The key under which the stores of a group that has released its slot go on (spec/02 R43; log 22). -/
def ghostKey (n key : Nat) : Nat := (0x1001 + 2 * n) * 0x10000 + key % 0x10000
/-- Is a key one of a group, or a controller program, whose context is out? -/
def isImage (key : Nat) : Bool := 0x10000 ≤ key && key < 0x10000000
/-- Is a key one of a group that has released its slot? -/
def isGhost (key : Nat) : Bool := 0x1000 * 0x10000 ≤ key && key / 0x10000 % 2 = 1
/-- The groups whose accesses a DRAIN counts: those of its core, swapped out or gone from their slots too, or its engine's
program (spec/07 R166). -/
def sameCore (a b : Nat) : Bool :=
  if a < 0x4000 then homeKey b < 0x4000 && a / 64 == homeKey b / 64 && (b < 0x10000 || 0x1000 * 0x10000 ≤ b) else a == b
/-- Is a key one of a context that is out? -/
def isOut (key : Nat) : Bool := 0x10000 ≤ key
/-- The partition of a group's key. -/
def partOf (key : Nat) : Nat := homeKey key / 16
/-- The core of a group's key. -/
def coreOf (key : Nat) : Nat := homeKey key / 64
/-- The cluster of a group's key, or of a churn controller's. -/
def clusterOf (key : Nat) : Nat := if homeKey key < 0x4000 then homeKey key / 256 else homeKey key - 0x4000
/-- The compute die of an agent (spec/07 R386): circuit processor and command cores belong to die 0. -/
def dieOf (key : Nat) : Nat := if homeKey key < 0x4040 then clusterOf key / 8 else 0
/-- Where the Churn that a key's program uses stands in State.clusters: its cluster's, or its context's image. -/
def churnIx (key : Nat) : Nat := clusterOf key + 0x1000 * (key / 0x10000)
/-- The base die that carries a compute die. -/
def baseOf (die : Nat) : Nat := die / 2

/-- The owner of a physical address. -/
def ownerOf (pa : Nat) : Nat := pa / 2 ^ 48
/-- The offset within the owner. -/
def offsetOf (pa : Nat) : Nat := pa % 2 ^ 48
/-- The 128-byte line of an address. -/
def lineOf (a : Nat) : Nat := a / 128

/-- The kinds of place a physical address names (spec/01 R15). -/
inductive Place where
  | near | far | cream | hostWindow | hostMem | regs | absent
  deriving DecidableEq, Repr

/-- The place a physical address names; far memory is absent when no start has trained it (spec/21 R369). -/
def placeOf (s : State) (pa : Nat) : Place :=
  let o := ownerOf pa
  let a := offsetOf pa
  if o < 8 then
    if a < 0x1000000000 then .near
    else if 0x10000000000 ≤ a && a < 0x14000000000 && s.boot.sweepOk then .far else .absent
  else if o = 8 then
    let b := a / 0x40000000
    if h : b < 4 then (if a % 0x40000000 < s.cream[b] * 0x100000 then .cream else .absent) else .absent
  else if o = 9 then (if a < 0x4000000 then .hostWindow else .hostMem)
  else if o = 10 then .regs
  else .absent

/-- The base die that is the home of a physical address. -/
def homeBase (pa : Nat) : Nat :=
  let o := ownerOf pa
  if o < 8 then o / 2 else if o = 8 then offsetOf pa / 0x40000000 else 0

/-! ## Time and free values -/

/-- The cycle as a number. -/
def State.now (s : State) : Nat := s.cycle.toNat
/-- Does a group's engine run on the base-die clock (spec/05 R107): a script of the circuit processor, a program of a
command core? -/
def onBaseClock (key : Nat) : Bool := 0x4040 ≤ key && key < 0x10000
/-- The cycle of the clock on which a group's engine runs, as a number. -/
def State.timeOf (s : State) (key : Nat) : Nat := if onBaseClock key then s.baseCycle.toNat else s.now
/-- The package timer in ns as a number. -/
def State.ns (s : State) : Nat := s.timer.toNat

/-- The lengths of the next variable phases, one for each of a list. -/
def State.delaysFor (s : State) (ds : List Nat) : List (Nat × Nat) :=
  ds.mapIdx fun i d => (d, s.now + max 1 (s.delays.getD i 1))

/-- The next length of a variable phase: at least one cycle (log 2). -/
def State.nextDelay (s : State) : Nat := max 1 (s.delays.headD 1)
/-- The state with that length taken. -/
def State.tookDelay (s : State) : State := { s with delays := s.delays.tail }
/-- Is the next flit lost or damaged on its way (log 103)? -/
def State.nextHit (s : State) : Bool := s.hits.headD false
/-- The state with that fate taken. -/
def State.tookHit (s : State) : State := { s with hits := s.hits.tail }
/-- The state with a fresh free value taken (log 4). -/
def State.tookFree (s : State) : State := { s with freeCtr := s.freeCtr + 1 }
/-- The state with an event put at the end of the agenda. -/
def State.later (s : State) (e : Event) : State := { s with agenda := s.agenda ++ [e] }
/-- The state with an event put at the head of the agenda. -/
def State.soon (s : State) (e : Event) : State := { s with agenda := e :: s.agenda }
/-- The state with something sent to the outside. -/
def State.send (s : State) (x : Sent) : State := { s with outbox := s.outbox ++ [x] }

/-! ## Bytes -/

/-- What a byte of memory that nothing has written reads as (log 11). -/
def memDefault : Byte := 0#8

/-- A byte of a memory in canonical form. -/
def memGet (m : List Host.Cell) (a : Nat) : Byte := mapGet m a memDefault

/-- A memory with a byte written; the default is not listed. -/
def memSet (m : List Host.Cell) (a : Nat) (b : Byte) : List Host.Cell :=
  if b = memDefault then mapDel m a else mapSet m a b

/-- Canonical form: addresses rise strictly and no entry equals what an unlisted address reads as. -/
def Memory.wf (m : List Host.Cell) : Bool := mapSorted m && m.all (fun c => c.2 != memDefault)

/-- A memory with consecutive bytes written. -/
def memSetAll (m : List Host.Cell) : Nat → List Byte → List Host.Cell
  | _, [] => m
  | a, b :: t => memSetAll (memSet m a b) (a + 1) t

/-- A map of modified bytes with consecutive bytes put in it. -/
def dirtySetAll (m : List Host.Cell) : Nat → List Byte → List Host.Cell
  | _, [] => m
  | a, b :: t => dirtySetAll (mapSet m a b) (a + 1) t

/-- Bytes as a little-endian number (spec/00 R1). -/
def leNat : List Byte → Nat
  | [] => 0
  | b :: t => b.toNat + 256 * leNat t

/-- The low n bytes of a number, lowest first (spec/00 R1). -/
def leBytes : Nat → Nat → List Byte
  | 0, _ => []
  | n + 1, x => BitVec.ofNat 8 x :: leBytes n (x / 256)

/-- The bytes a reader gives from an address on. -/
def readWith (g : Nat → Byte) : Nat → Nat → List Byte
  | _, 0 => []
  | a, n + 1 => g a :: readWith g (a + 1) n

/-! ## Views of memory (spec/07 R146, R154, R155) -/

/-- A byte below the store log: in a slice when modified there, else at its home. -/
def State.homeByte (s : State) (pa : Nat) : Byte := (mapGet? s.dirty pa).getD (memGet s.mem pa)

/-- The byte the newest store of a log that meets a test leaves at an address. -/
def logByte (seen : LogStore → Bool) : List LogStore → Nat → Option Byte
  | [], _ => none
  | r :: t, pa =>
    match logByte seen t pa with
    | some b => some b
    | none => if seen r && r.pa ≤ pa then r.bytes[pa - r.pa]? else none

/-- A byte as a compute die sees it. -/
def State.viewByte (s : State) (die pa : Nat) : Byte :=
  (logByte (fun r => r.seen.getLsbD die) s.log pa).getD (s.homeByte pa)

/-- A byte in the latest state of its coherence order. -/
def State.latestByte (s : State) (pa : Nat) : Byte := (logByte (fun _ => true) s.log pa).getD (s.homeByte pa)

/-- Do two runs of bytes overlap? -/
def overlaps (a n b m : Nat) : Bool := a < b + m && b < a + n


/-- The parts of a run of bytes that each lie in one line. -/
def lineParts : Nat → Nat → List Byte → List (Nat × List Byte)
  | 0, _, _ => []
  | n + 1, pa, bs =>
    if bs.isEmpty then []
    else
      let k := 128 - pa % 128
      (pa, bs.take k) :: lineParts n (pa + k) (bs.drop k)

/-- Bytes of one line put into the slices that hold the line, which then hold data newer than their home's, else at its
home (spec/11 R247, R249, R251), where the host gives up its copy of a line of the coherent window (spec/11 R253). -/
def State.storeLine (s : State) (pa : Nat) (bytes : List Byte) : State :=
  if s.slices.any fun l => l.pline = lineOf pa then { s with
    dirty := dirtySetAll s.dirty pa bytes
    slices := s.slices.map fun l => if l.pline = lineOf pa then { l with modified := true } else l }
  else { s with
    mem := memSetAll s.mem pa bytes
    hostShares := s.hostShares.filter fun l => l != lineOf pa }

/-- A store folded out of the log. -/
def State.storeHome (s : State) (pa : Nat) (bytes : List Byte) : State :=
  (lineParts (bytes.length + 1) pa bytes).foldl (fun (s : State) p => s.storeLine p.1 p.2) s

/-- The slice lines that a store touches hold data newer than their home's. -/
def State.markModified (s : State) (pa n : Nat) : State :=
  let mark (l : SliceLine) : SliceLine := if overlaps (l.pline * 128) 128 pa n then { l with modified := true } else l
  { s with slices := s.slices.map mark }

/-- The stores at the head of the log that every die sees leave it, oldest first. -/
def foldLogFrom (s : State) : List LogStore → State
  | [] => { s with log := [] }
  | r :: t => if r.seen = 0xFF#8 then foldLogFrom (s.storeHome r.pa r.bytes) t else { s with log := r :: t }

/-- The log folded as far as it goes. -/
def State.foldLog (s : State) : State := foldLogFrom s s.log

/-- Lines of a core's L1. -/
def State.l1Of (s : State) (core : Nat) : List L1Line := mapGet s.l1 core []

/-- A line's bytes with a store applied. -/
def patchLine (l : L1Line) (pa : Nat) (bytes : List Byte) : L1Line :=
  { l with data := l.data.mapIdx (fun i b =>
      let a := l.pline * 128 + i
      if pa ≤ a then (bytes[a - pa]?).getD b else b) }

/-- A store becomes visible to a die: other cores' copies of its line are invalidated, the issuing core's is updated
(spec/11 R248). `core` is none for a store of another path or die. -/
def l1AfterStore (l1 : List (Nat × List L1Line)) (die : Nat) (core : Option Nat) (pa : Nat) (bytes : List Byte) :
    List (Nat × List L1Line) :=
  l1.map fun (c, ls) =>
    if c / 32 = die then
      if core = some c then (c, ls.map fun l => if l.pline = lineOf pa then patchLine l pa bytes else l)
      else (c, ls.filter fun l => l.pline != lineOf pa)
    else (c, ls)

/-- A store record seen by one more die; a store of a path other than L leaves L1 alone (spec/11 R260). -/
def LogStore.seenBy (r : LogStore) (die : Nat) : LogStore := { r with seen := r.seen ||| (1#8 <<< die) }

/-- Dies 0 to 7 that do not see a store. -/
def unseenDies (seen : BitVec 8) : List Nat := (List.range 8).filter (fun d => !seen.getLsbD d)

/-- Does a store wait at the home of a held line (spec/11 R262)? Nothing shows it to another die until it is served. -/
def LogStore.parked (r : LogStore) : Bool := r.due.isEmpty && r.seen != 0xFF#8

/-- Every store the log holds that meets a test becomes visible to every die. -/
def State.showAll (s : State) (test₀ : LogStore → Bool) : State :=
  let test (r : LogStore) : Bool := test₀ r && !r.parked
  let l1 := s.log.foldl (fun l1 r =>
    if test r && r.inL1 then (unseenDies r.seen).foldl (fun l1 d => l1AfterStore l1 d none r.pa r.bytes) l1 else l1) s.l1
  State.foldLog { s with l1 := l1, log := s.log.map fun r => if test r then { r with seen := 0xFF#8 } else r }

/-- An EF store enters the coherence order: its own die sees it now, each other die after a delay of its own (spec/07
R154). `inL1` is false for a store of paths P and C, which leaves L1 copies alone (spec/11 R260). -/
def State.storeEF (s : State) (die core : Nat) (inL1 : Bool) (op pa : Nat) (bytes : List Byte) : State :=
  let due := s.delaysFor (unseenDies (1#8 <<< die))
  let s := State.markModified { s with delays := s.delays.drop due.length } pa bytes.length
  State.foldLog { s with
    l1 := if inL1 then l1AfterStore s.l1 die (some core) pa bytes else s.l1
    log := s.log ++ [⟨pa, bytes, 1#8 <<< die, due, op, inL1⟩] }

/-- A GA store becomes visible to every die at one point, after every earlier store to its bytes has,
and before those that wait at its line while it is held (spec/07 R154, R155, spec/11 R262). -/
def State.storeGA (s : State) (die core : Nat) (inL1 : Bool) (op pa : Nat) (bytes : List Byte) : State :=
  let s := (s.showAll (fun r => overlaps r.pa r.bytes.length pa bytes.length)).markModified pa bytes.length
  let waits (r : LogStore) : Bool := r.parked && overlaps r.pa r.bytes.length pa bytes.length
  let own := if s.log.any waits then none else some core
  let l1 := if inL1 then
      (List.range 8).foldl (fun l1 d => l1AfterStore l1 d (if d = die then own else none) pa bytes) s.l1
    else s.l1
  State.foldLog { s with
    l1 := l1
    log := s.log.filter (fun r => !waits r) ++ [⟨pa, bytes, 0xFF#8, [], op, inL1⟩] ++ s.log.filter waits }

/-- An EF store to a held line: its own die sees it, and it waits at the home, later in coherence order than the held
store (spec/11 R262). -/
def State.storeParked (s : State) (die core : Nat) (inL1 : Bool) (op pa : Nat) (bytes : List Byte) : State :=
  let s := s.markModified pa bytes.length
  { s with
    l1 := if inL1 then l1AfterStore s.l1 die (some core) pa bytes else s.l1
    log := s.log ++ [⟨pa, bytes, 1#8 <<< die, [], op, inL1⟩] }

/-- The waiting stores of an operation are served: each other die comes to see them after a delay of its own. -/
def State.unpark (s : State) (op : Nat) : State :=
  s.log.foldl (fun (s : State) r =>
    if r.op != op || !r.parked then s
    else
      let due := s.delaysFor (unseenDies r.seen)
      { s with
        delays := s.delays.drop due.length
        log := s.log.map fun x => if x == r then { x with due := due } else x }) s

/-- What a die is shown of stores to some bytes, none of them waiting at a held line: a read at the home leaves it
behind none of them (spec/07 R155). -/
def State.showTo (s : State) (die pa n : Nat) : State :=
  let new (r : LogStore) : Bool := overlaps r.pa r.bytes.length pa n && !r.seen.getLsbD die && !r.parked
  let l1 := s.log.foldl (fun l1 r => if new r && r.inL1 then l1AfterStore l1 die none r.pa r.bytes else l1) s.l1
  State.foldLog { s with l1 := l1, log := s.log.map fun r => if new r then r.seenBy die else r }

/-- A store in its mode. -/
def State.storeIn (s : State) (m : StoreMode) (die core : Nat) (inL1 : Bool) (op pa : Nat) (bytes : List Byte) :
    State :=
  match m with
  | .ef => s.storeEF die core inL1 op pa bytes
  | .ga => s.storeGA die core inL1 op pa bytes

/-- Is the line of a physical address poisoned (spec/07 R157)? -/
def State.poisonAt (s : State) (pa : Nat) : Bool := s.poisoned.contains (lineOf pa)

/-- A line poisoned. -/
def State.poison (s : State) (line : Nat) : State :=
  if s.poisoned.contains line then s else { s with poisoned := line :: s.poisoned }

/-- A line's poison cleared. -/
def State.unpoison (s : State) (line : Nat) : State := { s with poisoned := s.poisoned.filter (· != line) }

/-! ## Translation (spec/15 R298-R301) -/

/-- The context number's record. -/
def State.context (s : State) (ctx : Nat) : Option Context := mapGet? s.contexts ctx

/-- A table entry's 8 bytes, read at its home past every cache. -/
def State.entryAt (s : State) (pa : Nat) : DWord := BitVec.ofNat 64 (leNat (readWith (memGet s.mem) pa 8))

/-- The right an access needs. -/
inductive Need where
  | read | write | both | fetch
  deriving DecidableEq, Repr

/-- Do rights cover a need (spec/15 R300)? -/
def Rights.cover (r : Rights) : Need → Bool
  | .read => r.rd
  | .write => r.wr
  | .both => r.rd && r.wr
  | .fetch => r.ex

/-- The outcome of a walk; a physical-address fault gives the address, another fault 0 (spec/01 R16, spec/08 R215). -/
inductive Walk where
  | ok (pa : Nat) (key : Nat) (rights : Rights) (big : Bool)
  | hold
  | fault (cause : BitVec 8) (pa : Nat)
  deriving DecidableEq, Repr

/-- Is a reserved bit of a table entry set (spec/15 R299)? -/
def entryReserved (e : DWord) : Bool := (e &&& 0xF00000000003FF44#64) != 0#64

/-- May a table lie at a physical address (spec/15 R300)? -/
def tableOwner (pa : Nat) : Bool := ownerOf pa < 9

/-- Index of a level into its table. -/
def walkIndex (va : VAddr) (lvl : Nat) : Nat :=
  match lvl with
  | 3 => va.toNat / 2 ^ 63
  | 2 => va.toNat / 2 ^ 48 % 2 ^ 15
  | 1 => va.toNat / 2 ^ 33 % 2 ^ 15
  | _ => va.toNat / 2 ^ 18 % 2 ^ 15

/-- The rights of a leaf. -/
def leafRights (e : DWord) : Rights := ⟨e.getLsbD 3, e.getLsbD 4, e.getLsbD 5⟩

/-- ADDR of an entry as a physical address. -/
def entryAddr (e : DWord) : Nat := (e.extractLsb' 18 34).toNat * 2 ^ 18

/-- The walk from a level down (spec/15 R300). -/
def walkFrom (s : State) (va : VAddr) (need : Need) : Nat → Nat → Walk
  | lvl, pa =>
    let at_ := pa + 8 * walkIndex va lvl
    let e := s.entryAt at_
    if !tableOwner pa then .fault 0x20#8 0
    else if placeOf s at_ = .absent then .fault 0x22#8 at_
    else if !e.getLsbD 0 || entryReserved e then .fault 0x20#8 0
    else if e.getLsbD 1 then
      if 1 < lvl then .fault 0x20#8 0
      else if lvl = 1 && (e.extractLsb' 18 15) != 0#15 then .fault 0x20#8 0
      else if e.getLsbD 7 then .hold
      else if !(leafRights e).cover need then .fault 0x21#8 0
      else .ok (entryAddr e + va.toNat % (if lvl = 1 then 2 ^ 33 else 2 ^ 18))
        (e.extractLsb' 52 8).toNat (leafRights e) (lvl = 1)
    else match lvl with
      | 0 => .fault 0x20#8 0
      | l + 1 => walkFrom s va need l (entryAddr e)

/-- Does an offset lie in a block of device registers: the queues', the ports', the links', the error logs', the power
block with FWSLOT after it (spec/14 R267, spec/17 R314, spec/18 R345, spec/21 R367, R374, R376)? -/
def regExists (off : Nat) : Bool :=
  (0x100000 ≤ off && off < 0x104000) || (0x200000 ≤ off && off < 0x208000)
    || (0x300000 ≤ off && off < 0x300100 && off % 0x40 < 0x10)
    || (0x400000 ≤ off && off < 0x404000 && off % 0x1000 < 0x10)
    || (0x500000 ≤ off && off < 0x500104)

/-- Does a physical address exist for a context (spec/01 R15, R16)? Device registers are firmware's alone. -/
def State.paGood (s : State) (ctx pa : Nat) : Bool :=
  match placeOf s pa with
  | .absent => false
  | .regs => ctx = 0 && regExists (offsetOf pa)
  | .near | .far | .cream | .hostWindow | .hostMem => true

/-- A full walk with the physical check (spec/15 R300, spec/01 R16). A context that does not exist maps nothing. -/
def State.walk (s : State) (ctx : Nat) (va : VAddr) (need : Need) : Walk :=
  match s.context ctx with
  | none => .fault 0x20#8 0
  | some c =>
    match walkFrom s va need 3 c.ttbase.toNat with
    | .ok pa key r big => if s.paGood ctx pa then .ok pa key r big else .fault 0x22#8 pa
    | .hold => .hold
    | .fault c pa => .fault c pa

/-- Does a migration keep a physical address from being served: its old page until the page has moved, its new page while
requests held at the old home are still to be served there (spec/15 R303)? -/
def Migration.keeps (m : Migration) (pa : Nat) : Bool :=
  pa / 2 ^ 18 == (if m.moved then m.newPa else m.oldPa).toNat / 2 ^ 18

/-- Is a physical page frozen for migration (spec/15 R303)? -/
def State.pageFrozen (s : State) (pa : Nat) : Bool := s.migs.any fun m => m.keeps pa

/-- The page of a virtual address. -/
def pageOf (va : VAddr) (big : Bool) : VAddr :=
  BitVec.ofNat 80 (va.toNat - va.toNat % (if big then 2 ^ 33 else 2 ^ 18))

/-- The translation unit a request of a die goes to: of its base die's four, at the near and far controllers of its
two compute dies, the one that the low bits of the 256 KiB page's number choose (spec/01 R14; log 17). -/
def tluOf (die : Nat) (va : VAddr) : Nat := 4 * baseOf die + va.toNat / 2 ^ 18 % 4

/-- The TLU entry for an address. -/
def State.tluHit (s : State) (die ctx : Nat) (va : VAddr) : Option TluEntry :=
  s.tlb.find? fun e => e.tlu = tluOf die va && e.ctx = ctx && e.page = pageOf va e.big

/-- The generation of the key pair in a slot; an empty one holds zeros, as a zeroised one does (spec/15 R306; log 16). -/
def State.genOf (s : State) (slot : Nat) : Nat := (mapGet? s.keySlots slot).getD (2 ^ 64)

/-- A line of far memory whose channel decrypts with another key pair than before (spec/15 R306: XTS-AES-128 over the
line's 128 bytes): its bytes are free values, all of them, until the pair that encrypted them is in force again (log
16). -/
def State.recipher (s : State) (old new line : Nat) : State :=
  let now := readWith (memGet s.mem) (line * 128) 128
  let o : Cipher := match mapGet? s.ciphers line with
    | some c => if c.shown == now then c else ⟨old, now, now⟩
    | none => ⟨old, now, now⟩
  let shown := if o.gen = new then o.plain else (List.range 128).map fun i => Config.xtsByte o.gen new line o.plain i
  { s with
    mem := memSetAll s.mem (line * 128) shown
    ciphers := if o.gen = new then mapDel s.ciphers line else mapSet s.ciphers line { o with shown := shown } }

/-- Far memory of `n` pages of 256 KiB read with another pair of keys than before. -/
def State.decryptAnew (s : State) (page n old new : Nat) : State :=
  (List.range (2048 * n)).foldl (fun (s : State) i => s.recipher old new (2048 * page + i)) s

/-- Pages of 256 KiB that a far page noted with its key slot takes in. -/
def keyedSpan (big : Bool) : Nat := if big then 2 ^ 15 else 1

/-- The key slot of a far page noted (spec/15 R306): the number of its first 256 KiB, the slot, and whether it is an
8 GiB page. What was noted under another slot is read with this one's pair from then on. -/
def State.noteKey (s : State) (pa key : Nat) (big : Bool) : State :=
  let page := (pa - pa % (if big then 2 ^ 33 else 2 ^ 18)) / 2 ^ 18
  if placeOf s pa != .far || s.keyed.contains (page, key, big) then s
  else
    let other := s.keyed.filter fun k => k.2.1 != key && overlaps k.1 (keyedSpan k.2.2) page (keyedSpan big)
    let s := other.foldl (fun (s : State) k =>
      let lo := max k.1 page
      let hi := min (k.1 + keyedSpan k.2.2) (page + keyedSpan big)
      s.decryptAnew lo (hi - lo) (s.genOf k.2.1) (s.genOf key)) s
    { s with keyed := (page, key, big) :: s.keyed.filter fun k => !other.contains k }

/-- A key slot given another pair, or zeros: what was read under it decrypts otherwise (spec/15 R306). -/
def State.rekeySlot (s : State) (slot new : Nat) : State :=
  (s.keyed.filter fun k => k.2.1 = slot).foldl (fun (s : State) k =>
    s.decryptAnew k.1 (keyedSpan k.2.2) (s.genOf slot) new) s

/-- A walk's result kept in its TLU: at most 16,384 entries, the oldest leaving first (spec/15 R301; log 17). -/
def State.tluFill (s : State) (die ctx : Nat) (va : VAddr) (pa key : Nat) (r : Rights) (big : Bool) : State :=
  let e : TluEntry := ⟨tluOf die va, ctx, pageOf va big, big,
    BitVec.ofNat 52 (pa - va.toNat % (if big then 2 ^ 33 else 2 ^ 18)), key, r⟩
  let others := s.tlb.filter fun x => !(x.tlu = e.tlu && x.ctx = ctx && x.page = e.page)
  let (mine, rest) := others.partition fun x => x.tlu = e.tlu
  State.noteKey { s with tlb := e :: mine.take 16383 ++ rest } pa key big

/-- A translation through the TLU or by a walk. -/
def State.translate (s : State) (die ctx : Nat) (va : VAddr) (need : Need) : Walk :=
  match s.tluHit die ctx va with
  | some e =>
    let pa := e.pa.toNat + va.toNat % (if e.big then 2 ^ 33 else 2 ^ 18)
    if !e.rights.cover need then .fault 0x21#8 0
    else if s.paGood ctx pa then .ok pa e.key e.rights e.big else .fault 0x22#8 pa
  | none => s.walk ctx va need

/-- Where an address lies for a context, under whatever right its page gives (spec/15 R299, R300). -/
def State.whereIs (s : State) (die ctx : Nat) (va : VAddr) : Option Nat :=
  [Need.read, .write, .fetch].findSome? fun n => match s.translate die ctx va n with
    | .ok pa _ _ _ => some pa
    | .hold | .fault _ _ => none

/-- A virtual address of a space and an offset. -/
def vaddr (space : BitVec 16) (off : DWord) : VAddr := space ++ off

/-- VA[79:7]. -/
def vlineOf (va : VAddr) : BitVec 73 := va.extractLsb' 7 73

/-! ## The save area (spec/15 R288, R294, R297) -/

/-- The first byte of a context's save area of a cluster. -/
def Context.saveArea (c : Context) (cl : Nat) : Nat := cl / 8 * 2 ^ 48 + c.saveOff + cl % 8 * c.saveSz

/-- Bytes of a cluster image. -/
def imageBytes : Nat := 6 * 2 ^ 20

/-- A stretch of a save area written with what the spec gives no layout: free values (log 30). -/
def State.writeSave (s : State) (pa n : Nat) : State :=
  ({ s with mem := memSetAll s.mem pa ((List.range n).map fun i => Config.saveByte s.freeCtr i) }).tookFree

/-! ## Caches (spec/11 R247-R250) -/

/-- The L1 line that holds an address in a core. -/
def State.l1Hit (s : State) (core ctx : Nat) (va : VAddr) : Option L1Line :=
  (s.l1Of core).find? fun l => l.ctx = ctx && l.vline = vlineOf va

/-- The slice line of a base die that holds an address. -/
def State.sliceHit (s : State) (base ctx : Nat) (va : VAddr) : Option SliceLine :=
  s.slices.find? fun l => l.base = base && l.ctx = ctx && l.vline = vlineOf va

/-- Is a virtual line in an L1 or a slice? -/
def State.lineCached (s : State) (ctx : Nat) (vline : BitVec 73) : Bool :=
  s.slices.any (fun l => l.ctx = ctx && l.vline = vline)
    || s.l1.any (fun p => p.2.any fun l => l.ctx = ctx && l.vline = vline)

/-- Remap-filter entries whose line has left every cache are freed (spec/11 R250). -/
def State.sweepRemap (s : State) : State :=
  { s with remap := s.remap.filter fun e => s.lineCached e.ctx e.vline }

/-- Is a physical line registered under another virtual line that some cache holds (spec/11 R250)? -/
def State.isSynonym (s : State) (ctx pline : Nat) (vline : BitVec 73) : Bool :=
  s.remap.any fun e => e.pline = pline && !(e.ctx = ctx && e.vline = vline) && s.lineCached e.ctx e.vline

/-- A physical line registered when it is not; an entry whose line has left every cache counts for nothing. -/
def State.register (s : State) (ctx pline : Nat) (vline : BitVec 73) : State :=
  if s.remap.any (fun e => e.pline = pline && s.lineCached e.ctx e.vline) then s
  else { s with remap := ⟨pline, ctx, vline⟩ :: s.remap.filter fun e => e.pline != pline }

/-- The set index VA[14:7] of a line. -/
def l1Set (vline : BitVec 73) : Nat := vline.toNat % 256

/-- The line a full set gives up: one loaded with hint 1 first, else the least recently used. Of several last used in
one core cycle, among which spec/11 R248 does not choose, it is the one put in last (DESIGN CHOICE, log 59). -/
def l1Pick : List L1Line → Option L1Line
  | [] => none
  | l :: t =>
    match l1Pick t with
    | none => some l
    | some m =>
      if l.hint = 1 && m.hint != 1 then some l
      else if m.hint = 1 && l.hint != 1 then some m
      else if l.lastUse ≤ m.lastUse then some l else some m

/-- A line put into a core's L1; an evicted line's tag enters the victim store (spec/11 R248, spec/10 R235). -/
def State.l1Put (s : State) (core : Nat) (l : L1Line) : State :=
  let ls := s.l1Of core
  let set := ls.filter fun x => l1Set x.vline = l1Set l.vline
  if set.length < 16 then { s with l1 := mapSet s.l1 core (l :: ls) }
  else match l1Pick set with
    | none => { s with l1 := mapSet s.l1 core (l :: ls) }
    | some v =>
      let vs := mapGet s.victims core [] ++ [⟨v.ctx, v.vline, v.owner⟩]
      State.sweepRemap { s with
        l1 := mapSet s.l1 core (l :: ls.filter fun x => !(x.ctx = v.ctx && x.vline = v.vline))
        victims := mapSet s.victims core (vs.drop (vs.length - 1024)) }


/-- The copies of a physical line dropped from every L1. -/
def State.l1DropLine (s : State) (pline : Nat) : State :=
  { s with l1 := s.l1.map fun (c, ls) => (c, ls.filter fun l => l.pline != pline) }

/-- The modified bytes of a physical line written back to their home. -/
def State.writeBack (s : State) (pline : Nat) : State :=
  let mine := s.dirty.filter fun c => lineOf c.1 = pline
  { s with
    mem := mine.foldl (fun m c => memSet m c.1 c.2) s.mem
    dirty := s.dirty.filter fun c => lineOf c.1 != pline }

/-- The number of the slice of a base die that serves a line (spec/11 R249). -/
def sliceOf (ctx : Nat) (vline : BitVec 73) : Nat :=
  (vline.extractLsb' 0 4 ^^^ vline.extractLsb' 4 4 ^^^ vline.extractLsb' 8 4 ^^^ BitVec.ofNat 4 ctx).toNat

/-- Lines a slice of a base die holds: a sixteenth of what the Cream store window and, on base die 0, the 64 MiB host
window leave of its 512 MiB (spec/01 R13). -/
def State.sliceLines (s : State) (base : Nat) : Nat :=
  (512 - (if base = 0 then 64 else 0) - vget s.cream base 64) * 512

/-- A slice line given up: its modified bytes are written back to their home, as an access of no path (spec/11 R249). -/
def State.sliceEvict (s : State) (l : SliceLine) : State :=
  let s := if l.modified then s.writeBack l.pline else s
  { s with slices := s.slices.filter fun x => !(x.base = l.base && x.ctx = l.ctx && x.vline = l.vline) }

/-- A line of near or far memory put into its slice of a base die, modified when a store to it is still on its way; a full
slice gives up the line that it has held longest (log 59). -/
def State.slicePut (s : State) (base ctx : Nat) (va : VAddr) (pline key : Nat) (r : Rights) : State :=
  if (s.sliceHit base ctx va).isSome then s
  else
    let mine := s.slices.filter fun l => l.base = base && sliceOf l.ctx l.vline = sliceOf ctx (vlineOf va)
    let s := if mine.length < s.sliceLines base then s else match mine.getLast? with
      | some l => s.sliceEvict l
      | none => s
    let newer := s.log.any fun x => overlaps (pline * 128) 128 x.pa x.bytes.length
    { s with slices := ⟨base, ctx, vlineOf va, pline, key, r, newer⟩ :: s.slices }

/-- The lines of a core's L1 whose bytes differ from what its die sees are invalidated: what an acquire, a DRAIN or a
FENCEX does for stores of paths P and C (spec/11 R260). -/
def State.refreshL1 (s : State) (core : Nat) : State :=
  let die := core / 32
  { s with l1 := mapSet s.l1 core ((s.l1Of core).filter fun l =>
      l.data == readWith (s.viewByte die) (l.pline * 128) 128) }

/-! ## Groups -/

/-- The group of a key; blank when none is resident. -/
def State.group (s : State) (key : Nat) : Group := mapGet s.groups key Group.blank
/-- The state with a group put at its key. -/
def State.setGroup (s : State) (key : Nat) (g : Group) : State := { s with groups := mapSet s.groups key g }
/-- The state with a resident group changed. -/
def State.modGroup (s : State) (key : Nat) (f : Group → Group) : State :=
  match mapGet? s.groups key with
  | some g => s.setGroup key (f g)
  | none => s
/-- The team of a number. -/
def State.team? (s : State) (t : Nat) : Option Team := mapGet? s.teams t
/-- The state with a team put at its number. -/
def State.setTeam (s : State) (t : Nat) (x : Team) : State := { s with teams := mapSet s.teams t x }
/-- The launch of a number. -/
def State.launch? (s : State) (n : Nat) : Option Launch := mapGet? s.launches n
/-- The state with a launch put at its number. -/
def State.setLaunch (s : State) (n : Nat) (x : Launch) : State := { s with launches := mapSet s.launches n x }
/-- The cluster of a number. -/
def State.cluster (s : State) (c : Nat) : Cluster := mapGet s.clusters c Cluster.idle
/-- The state with a cluster put at its number. -/
def State.setCluster (s : State) (c : Nat) (x : Cluster) : State := { s with clusters := mapSet s.clusters c x }
/-- The compute die of a number. -/
def State.die (s : State) (d : Nat) : Die := mapGet s.dies d Die.idle
/-- The state with a compute die put at its number. -/
def State.setDie (s : State) (d : Nat) (x : Die) : State := { s with dies := mapSet s.dies d x }
/-- Is a compute die halted, by a debugger or for its heat (spec/18 R355, spec/21 R376)? -/
def State.dieHalted (s : State) (d : Nat) : Bool := !(s.die d).dbgHalt.isEmpty || (s.die d).thermHalt
/-- The queue of a number. -/
def State.queue (s : State) (q : Nat) : Queue := mapGet s.queues q Queue.reset
/-- The state with a queue put at its number. -/
def State.setQueue (s : State) (q : Nat) (x : Queue) : State := { s with queues := mapSet s.queues q x }
/-- The port of a number. -/
def State.port (s : State) (p : Nat) : Port := mapGet s.ports p Port.reset
/-- The state with a port put at its number. -/
def State.setPort (s : State) (p : Nat) (x : Port) : State := { s with ports := mapSet s.ports p x }
/-- The ticket of a slot. -/
def State.ticket (s : State) (n : Nat) : Ticket := mapGet s.tickets n Ticket.free
/-- The state with a ticket put in its slot. -/
def State.setTicket (s : State) (n : Nat) (x : Ticket) : State := { s with tickets := mapSet s.tickets n x }
/-- The Whey session of a number. -/
def State.session (s : State) (n : Nat) : Session := mapGet s.sessions n Session.closed
/-- The state with a session put at its number. -/
def State.setSession (s : State) (n : Nat) (x : Session) : State := { s with sessions := mapSet s.sessions n x }
/-- The state with an operation put in flight. -/
def State.setOp (s : State) (id : Nat) (o : Op) : State := { s with ops := mapSet s.ops id o }
/-- The state with an operation gone. -/
def State.delOp (s : State) (id : Nat) : State := { s with ops := mapDel s.ops id }

/-- DEEP of a group's team, 0 on an engine without one. -/
def State.deepOf (s : State) (g : Group) : Nat :=
  match s.team? g.team with
  | some t => if g.engine = .partition then t.deepSize else 0
  | none => 0

/-- The register indices a group holds (spec/03 R69): mapped and release-pending, mirrored copies included. -/
def Group.regCount (g : Group) : Nat :=
  g.x.foldl (fun n e => n + e.2.phys.length) 0 + g.pending.foldl (fun n p => n + p.entry.phys.length) 0

/-- Is a lane of the group parked? -/
def Group.parkedMask (g : Group) : LaneMask := g.parked.foldl (fun m p => m ||| p.lanes) 0#32

/-- The lanes of the group that have not exited (%lmask). -/
def Group.liveMask (g : Group) : LaneMask := ~~~g.exited

/-- The groups of a team that are resident, with their keys, in rising %grp. -/
def State.teamGroups (s : State) (t : Nat) : List (Nat × Group) :=
  let own := s.groups.filter fun p => p.2.engine = .partition && p.2.team = t
  sortBy own (fun a b => a.2.grp ≤ b.2.grp)

/-- The right an operation's accesses need (spec/15 R300). -/
def OpKind.need : OpKind → Need
  | .store _ _ | .tdrain | .wrecv _ _ => .write
  | .atom _ _ _ _ | .red _ _ _ _ => .both
  | _ => .read

/-- Is an operation remote (path X)? -/
def OpKind.remote : OpKind → Bool
  | .rld | .rst | .ratom _ _ | .ffence => true
  | _ => false

/-- The path of an operation's accesses (spec/11 R259). -/
def OpKind.path (k : OpKind) : AccPath :=
  match k with
  | .tfeed _ | .tdrain => .c
  | k => if k.remote then .x else .l

/-- Operations held until every older access of the group has passed its fault point (spec/07 R147, spec/08 R180). -/
def OpKind.heldBack : OpKind → Bool
  | .store _ _ | .atom _ _ _ _ | .red _ _ _ _ | .rld | .rst | .ratom _ _ | .ffence | .xend | .tcopy _
  | .tfeed _ | .tdrain | .emit _ | .enq _ | .wsend _ _ | .wrecv _ _ => true
  | _ => false

/-- Acquires: no later access of the lane performs before they have bound (spec/07 R152, R159, R168, R177). -/
def OpKind.acquires : OpKind → Bool
  | .load _ (some _) _ | .atom _ _ _ _ | .wwait _ _ | .xend => true
  | _ => false

/-- The scope at which an operation is a release (spec/07 R153, R159, R160, R168, spec/08 R201, R202). -/
def OpKind.releases : OpKind → Option Scope
  | .store _ r => r
  | .atom _ _ s _ => some s
  | .red _ _ s _ => some s
  | .xend => some .die
  | .emit _ => some .die
  | .enq _ => some .package
  | _ => none

/-- Does an operation in flight count as not retired? A PREF completes at issue (spec/07 R148). Lanes that wait at a
barrier or a JOIN while other paths of the group go on issuing do not keep those paths' undo entries (spec/03 R69,
R70; log 19). A selector's read is no part of its word's completion, but the q62 of LOOP is a result. -/
def Op.unretired (o : Op) : Bool :=
  match o.kind with
  | .barWait _ | .barArrive _ | .barcWait | .bardWait | .joinWait _ | .pref _ => false
  | .turn x => x.nx == .loop
  | _ => true

/-- Does an operation reach memory, here or at a peer? -/
def OpKind.isAccess : OpKind → Bool
  | .load _ _ _ | .pref _ | .store _ _ | .atom _ _ _ _ | .red _ _ _ _ | .rld | .rst | .ratom _ _ | .ffence
  | .xend | .wwait _ _ | .tcopy _ | .tfeed _ | .tdrain | .emit _ | .enq _ | .wsend _ _ | .wrecv _ _ => true
  | _ => false

/-- Has an operation passed its fault point? -/
def Op.pastFault (o : Op) : Bool := o.walked || !o.kind.isAccess

/-- The oldest instruction of a group that has not retired: the least in flight (spec/03 R69). -/
def State.oldestOp (s : State) (key : Nat) : Option Nat :=
  s.ops.foldl (fun m p => if p.2.group = key && p.2.unretired then
      match m with
      | none => some p.2.seq
      | some n => some (min n p.2.seq)
    else m) none

/-! ## The register pool (spec/03 R66-R72) -/

/-- Indices in use in a partition. -/
def State.poolUsed (s : State) (part : Nat) : List Nat := mapGet s.regsUsed part []

/-- Lowest index of a bank class not in use (log 5); `want` tests the index. -/
def lowestFree (used : List Nat) (want : Nat → Bool) : Nat → Nat → Option Nat
  | 0, _ => none
  | n + 1, i => if want i && !used.contains i then some i else lowestFree used want n (i + 1)

/-- The groups resident on a partition, with keys. -/
def State.partGroups (s : State) (part : Nat) : List (Nat × Group) :=
  s.groups.filter fun p => p.2.engine = .partition && !isOut p.1 && partOf p.1 = part

/-- Indices of a partition that no resident group reserves (spec/03 R71): a group holds the larger of its floor and its
count, and its deep window. -/
def State.poolFree (s : State) (part : Nat) : Nat :=
  2048 - (s.partGroups part).foldl (fun n p => n + max p.2.regCount p.2.floor + s.deepOf p.2) 0

/-- Team numbers resident on a partition, oldest first. -/
def State.partTeams (s : State) (part : Nat) : List Nat :=
  let ts := s.teams.filter fun t => (s.partGroups part).any fun g => g.2.team = t.1
  (sortBy ts (fun a b => a.2.age ≤ b.2.age)).map (·.1)

/-- The grant test of R72 over teams, oldest first: each team's need against the free indices and what older teams
will give back. `count` gives each group's count, the requester's raised. -/
def grantTest (groups : List (Nat × Group)) (count : Nat → Group → Nat) (free : Nat) : List Nat → Nat → Bool
  | [], _ => true
  | t :: ts, s =>
    let mine := groups.filter fun p => p.2.team = t
    let need := mine.foldl (fun n p => n + (p.2.budget - max (count p.1 p.2) p.2.floor)) 0
    let above := mine.foldl (fun n p => n + (count p.1 p.2 - p.2.floor)) 0
    if free + s < need then false else grantTest groups count free ts (s + above)

/-- The answer to a request for registers. -/
inductive Grant where
  | take
  | hold
  | trap
  deriving DecidableEq, Repr

/-- Allocate(g) of R72 for `n` indices, `w` being the requesting instruction. -/
def State.grant (s : State) (key n w : Nat) : Grant :=
  let g := s.group key
  if g.regCount + n ≤ g.floor then .take
  else if g.budget < g.regCount + n then
    if g.pending.any (fun p => p.seq < w) then .hold else .trap
  else
    let part := partOf key
    let r := g.floor - g.regCount
    let free := s.poolFree part
    let count (k : Nat) (h : Group) : Nat := if k = key then h.regCount + n else h.regCount
    if free + r < n then .hold
    else if grantTest (s.partGroups part) count (free - (n - r)) (s.partTeams part) 0 then .take else .hold

/-- Is a name mirrored in the group's team (spec/03 R74)? -/
def State.mirrored (s : State) (g : Group) (n : Nat) : Bool :=
  match s.team? g.team with
  | some t => t.mirror.contains n
  | none => false

/-- The lowest free index of a bank. -/
def lowestInBank (used : List Nat) (b : Nat) : Option Nat := lowestFree used (fun i => i % 8 == b % 8) 2048 0

/-- A free pair whose banks differ by 4, from bank `b` on. -/
def pickPair (used : List Nat) : Nat → Nat → Option (List Nat)
  | 0, _ => none
  | n + 1, b =>
    match lowestInBank used b, lowestInBank used (b + 4) with
    | some p, some q => some [p, q]
    | _, _ => pickPair used n (b + 1)

/-- Indices for one name: one, or a pair whose banks differ by 4 (spec/03 R74). -/
def pickPhys (used : List Nat) (mirror : Bool) : Option (List Nat) :=
  if mirror then pickPair used 8 0 else (lowestFree used (fun _ => true) 2048 0).map fun p => [p]

/-- The release-pending registers and undo entries that the group still needs, given the oldest instruction that has
not retired and whether that one may still fault (spec/03 R69, R70). -/
def Group.settle (g : Group) (oldest : Option Nat) (mayFault : Bool) : Group :=
  match oldest with
  | none => { g with pending := [], undo := [], snaps := [] }
  | some n => { g with
      snaps := g.snaps.filter (fun p => n ≤ p.1)
      pending := g.pending.filter (fun p => n ≤ p.seq)
      undo := g.undo.filter (fun u => n < u.seq || (mayFault && n == u.seq)) }

/-- The physical indices a group holds. -/
def Group.physHeld (g : Group) : List Nat :=
  g.x.flatMap (fun e => e.2.phys) ++ g.pending.flatMap (fun p => p.entry.phys)

/-- The pool of a partition recomputed from what its groups hold. -/
def State.syncPool (s : State) (part : Nat) : State :=
  { s with regsUsed := mapSet s.regsUsed part ((s.partGroups part).flatMap fun p => p.2.physHeld) }

/-- Has an instruction of a group an operation in flight that has not passed its fault point (spec/07 R147)? -/
def State.mayFault (s : State) (key : Nat) (n : Option Nat) : Bool :=
  s.ops.any fun p => p.2.group = key && some p.2.seq = n && !p.2.pastFault

/-- Whatever has retired is released (spec/03 R69). -/
def State.settle (s : State) (key : Nat) : State :=
  (s.modGroup key (fun g => g.settle (s.oldestOp key) (s.mayFault key (s.oldestOp key)))).syncPool (partOf key)

/-! ## Results landing in registers (spec/03 R63, R66) -/

/-- Lane values with the lanes of a mask replaced. -/
def mergeLanes {α : Type} (m : LaneMask) (new old : Lanes α) : Lanes α :=
  Vector.ofFn fun i : Fin 32 => if m.getLsbD i then new[i] else old[i]

/-- Word `k` (0 the lowest) of every lane of a value. -/
def wordsOf (v : Lanes Val) (k : Nat) : Lanes Word := v.map fun x => x.extractLsb' (32 * k) 32

/-- A physical register written in some lanes, wherever the group holds it. -/
def Group.writePhys (g : Group) (p : Nat) (m : LaneMask) (v : Lanes Word) : Group :=
  { g with
    x := g.x.map fun (n, e) => (n, if e.phys.contains p then { e with vals := mergeLanes m v e.vals } else e)
    pending := g.pending.map fun r =>
      if r.entry.phys.contains p then { r with entry := { r.entry with vals := mergeLanes m v r.entry.vals } } else r }

/-- A latch entry for a result of a width, under the group's present epoch. -/
def latchFor (g : Group) (width : Nat) (x : Val) : Latch :=
  ⟨x.setWidth 64 &&& (if width ≤ 32 then 0xFFFFFFFF#64 else 0xFFFFFFFFFFFFFFFF#64), 64 ≤ width, some g.epoch, false⟩

/-- Registers a result of a width fills. -/
def regsFor (width : Nat) : Nat := if width ≤ 32 then 1 else width / 32

/-- An undo entry of an instruction younger than `seq` sees an older write in its old value too. -/
def UndoEntry.older (u : UndoEntry) (seq : Nat) (f : UndoItem → UndoItem) : UndoEntry :=
  if seq < u.seq then { u with item := f u.item } else u

/-- An entry of a group's deep window in a lane; 0 until written (spec/03 R60, R77). -/
def Group.deepWord (g : Group) (entry lane : Nat) : Word :=
  vget (mapGet g.deep entry (Vector.replicate 32 0#32)) lane 0#32

/-- What the bank holds in an entry of a lane: the last landing there, or the word LDX reads (spec/06 R139). -/
def Group.bankWord (g : Group) (entry lane : Nat) : Word :=
  match (g.landed.filter fun x => x.entry == entry && x.lane == lane).getLast? with
  | some x => x.word
  | none => g.deepWord entry lane

/-- Is what the bank holds there poisoned? -/
def Group.bankPoison (g : Group) (entry lane : Nat) : Bool :=
  match (g.landed.filter fun x => x.entry == entry && x.lane == lane).getLast? with
  | some x => x.poison
  | none => g.poison.contains (.deep entry lane)

/-- A deep-window entry set in a lane. -/
def Group.setDeep (g : Group) (entry lane : Nat) (w : Word) : Group :=
  let ws := mapGet g.deep entry (Vector.replicate 32 0#32)
  { g with deep := mapSet g.deep entry (ws.setIfInBounds lane w) }

/-- A landing joined to those of its group: a later one of its copy's batch takes the place of an earlier. -/
def Group.addLanding (g : Group) (x : DeepLanding) : Group :=
  { g with landed := (g.landed.filter fun y => !(y.entry == x.entry && y.lane == x.lane && y.party == x.party
      && y.batch == x.batch && y.cb == x.cb)) ++ [x] }

/-- Landings that meet a test become visible to LDX, and what they landed on with them. -/
def Group.showLanded (g : Group) (test : DeepLanding → Bool) : Group :=
  let out := g.landed.filter test
  let later (y : DeepLanding) (ys : List DeepLanding) : Bool :=
    ys.any fun x => test x && x.entry == y.entry && x.lane == y.lane
  let g := out.foldl (fun (g : Group) x =>
    let g := g.setDeep x.entry x.lane x.word
    let p := PoisonReg.deep x.entry x.lane
    { g with poison := if x.poison then (if g.poison.contains p then g.poison else g.poison ++ [p])
        else g.poison.filter (· != p) }) g
  { g with landed := (g.landed.zipIdx.filter fun y => !later y.1 (g.landed.drop y.2)).map (·.1) }

/-- An STX's entries written, and the undo buffer's older values with them (spec/06 R138): the bank then holds what it
wrote (R139). -/
def Group.landDeep (g : Group) (seq : Nat) (cells : List (Nat × Nat × Word)) : Group :=
  let put (c : Nat × Nat × Word) : Nat × Nat × Word :=
    match cells.find? fun d => d.1 == c.1 && d.2.1 == c.2.1 with
    | some d => d
    | none => c
  let covers (x : DeepLanding) : Bool := cells.any fun c => c.1 == x.lane && c.2.1 == x.entry
  let g := cells.foldl (fun (g : Group) c => g.setDeep c.2.1 c.1 c.2.2) g
  { g with
    poison := g.poison.filter fun p => !(cells.any fun c => p == .deep c.2.1 c.1)
    landed := g.landed.filter fun x => !covers x
    undo := g.undo.map fun u => match u.item with
      | .deep old ls => if u.seq = seq then { u with item := .deep old (ls ++ g.landed.filter covers) }
          else u.older seq fun _ => .deep (old.map put) ls
      | _ => u }

/-- A register outside the rename map written, and the undo buffer's older values with it. -/
def Group.writeDest (g : Group) (seq : Nat) (r : RegResult) : Group :=
  match r.dest with
  | .none | .zero | .latchOnly => g
  | .main _ =>
    (r.targets.zipIdx).foldl (fun g (ts, k) =>
      ts.foldl (fun g t => g.writePhys t.1 t.2 (wordsOf r.vals k)) g) g
  | .oper n =>
    (List.range (regsFor r.width)).foldl (fun g k =>
      let w := wordsOf r.vals k
      { g with
        o := g.o.setIfInBounds (n + k) (mergeLanes r.lanes w (vget g.o (n + k) (Vector.replicate 32 0#32)))
        undo := g.undo.map fun u => u.older seq fun it => match it with
          | .oper m old => if m = n + k then .oper m (mergeLanes r.lanes w old) else it
          | it => it }) g
  | .uni n =>
    if r.lanes.getLsbD 0 then
      (List.range (regsFor r.width)).foldl (fun g k =>
        let w := (laneOf r.vals 0).extractLsb' (32 * k) 32
        { g with
          q := g.q.setIfInBounds (n + k) w
          undo := g.undo.map fun u => u.older seq fun it => match it with
            | .uni m old => if m = n + k then .uni m w else .uni m old
            | it => it }) g
    else g
  | .pred n =>
    let bits : LaneMask := BitVec.ofNat 32 ((List.range 32).foldl
      (fun acc i => acc + if (laneOf r.vals i).getLsbD 0 then 2 ^ i else 0) 0)
    let put (old : LaneMask) : LaneMask := (old &&& ~~~r.lanes) ||| (bits &&& r.lanes)
    { g with
      k := g.k.setIfInBounds n (put (vget g.k n 0#32))
      undo := g.undo.map fun u => u.older seq fun it => match it with
        | .pred m old => if m = n then .pred m (put old) else .pred m old
        | it => it }
  | .upred n =>
    if r.lanes.getLsbD 0 then
      let b := (laneOf r.vals 0).getLsbD 0
      { g with
        h := g.h.setIfInBounds n b
        undo := g.undo.map fun u => u.older seq fun it => match it with
          | .upred m old => if m = n then .upred m b else .upred m old
          | it => it }
    else g

/-- The latch a result writes (spec/03 R63). -/
def Group.writeLatch (g : Group) (seq : Nat) (r : RegResult) : Group :=
  if !r.latch then g
  else if r.uniform then
    if r.lanes.getLsbD 0 then
      let l := latchFor g r.width (laneOf r.vals 0)
      { g with
        ulat := l
        undo := g.undo.map fun u => u.older seq fun it => match it with
          | .ulat _ => .ulat l
          | it => it }
    else g
  else
    let ls : Lanes Latch := r.vals.map fun x => latchFor g r.width x
    { g with
      lat := mergeLanes r.lanes ls g.lat
      undo := g.undo.map fun u => u.older seq fun it => match it with
        | .lat old => .lat (mergeLanes r.lanes ls old)
        | it => it }

/-- An operand-file register written in every lane holds no poison (spec/21 R366). -/
def Group.cleanOper (g : Group) (r : RegResult) : Group :=
  match r.dest with
  | .oper n => if r.lanes = 0xFFFFFFFF#32 then { g with
      poison := g.poison.filter fun p => !((List.range (regsFor r.width)).any fun k => p == .oper (n + k)) } else g
  | _ => g

/-- A result lands: its destination and its latch. -/
def Group.land (g : Group) (seq : Nat) (r : RegResult) : Group := ((g.writeDest seq r).writeLatch seq r).cleanOper r

/-! ## The path table (spec/09 R220-R222) -/

/-- Lanes joined to entries at their program counter, or given a new entry, or parked. -/
def Group.placeAt (g : Group) (pc : DWord) (lanes : LaneMask) : Group :=
  if lanes = 0#32 then g
  else if g.table.any (fun e => e.pc = pc) then
    { g with table := g.table.map fun e => if e.pc = pc then { e with lanes := e.lanes ||| lanes } else e }
  else if g.table.length < 8 then { g with table := g.table ++ [⟨pc, lanes, 0⟩] }
  else { g with parked := g.parked ++ [⟨pc, lanes⟩] }

/-- The lowest program counter of a list of parked lanes. -/
def lowestPc : List LanesAt → Option DWord
  | [] => none
  | p :: t =>
    match lowestPc t with
    | none => some p.pc
    | some q => some (if p.pc.toNat ≤ q.toNat then p.pc else q)

/-- One round of R222: parked lanes at a program counter leave the park set for the table. -/
def Group.unpark (g : Group) (pc : DWord) : Group :=
  let m := (g.parked.filter (fun p => p.pc = pc)).foldl (fun m p => m ||| p.lanes) 0#32
  { g with parked := g.parked.filter fun p => p.pc != pc }.placeAt pc m

/-- R222: parked lanes join an entry at their program counter; freed entries take the lowest parked ones. -/
def settlePark : Nat → Group → Group
  | 0, g => g
  | n + 1, g =>
    match g.parked.find? (fun p => g.table.any fun e => e.pc = p.pc) with
    | some p => settlePark n (g.unpark p.pc)
    | none =>
      if g.table.length < 8 then
        match lowestPc g.parked with
        | some pc => settlePark n (g.unpark pc)
        | none => g
      else g

/-- The moves of R221, lowest program counter first, then R222. -/
def Group.placeAll (g : Group) (moves : List (DWord × LaneMask)) : Group :=
  let ms := sortBy moves (fun a b => a.1.toNat ≤ b.1.toNat)
  settlePark 32 (ms.foldl (fun g m => g.placeAt m.1 m.2) g)

/-- The entry of a path emptied. -/
def Group.leavePath (g : Group) (pc : DWord) : Group := { g with table := g.table.filter fun e => e.pc != pc }

/-- Lanes taken out of every path, parked place and waiting place. -/
def Group.pullLanes (g : Group) (m : LaneMask) : Group :=
  { g with
    table := (g.table.map fun e => { e with lanes := e.lanes &&& ~~~m }).filter fun e => e.lanes != 0#32
    parked := (g.parked.map fun p => { p with lanes := p.lanes &&& ~~~m }).filter fun p => p.lanes != 0#32
    waiting := (g.waiting.map fun w => { w with lanes := w.lanes &&& ~~~m }).filter fun w => w.lanes != 0#32 }

/-! ## Ending a team, and exceptions (spec/08 R210-R216, spec/09 R225) -/

/-- A team stops issuing at once; TEAM_END with its code is the next event (spec/09 R225). -/
def State.haltTeam (s : State) (t : Nat) (code : BitVec 16) : State :=
  { s with
    groups := s.groups.map fun (k, g) =>
      (k, if g.engine = .partition && g.team = t then { g with halted := true } else g)
    agenda := .teamEnd t code :: s.agenda }

/-- The teams of a launch on a cluster: those placed there and not ended. -/
def State.teamsOn (s : State) (grid cluster : Nat) : List Nat :=
  (s.teams.filter fun t => t.2.grid = grid && t.2.core / 4 = cluster && !t.2.ended).map (·.1)

/-- The first error of a launch is kept; a later one sets the lost mark (spec/14 R274). -/
def Launch.withError (l : Launch) (code : BitVec 16) : Launch :=
  if code = 0#16 then l
  else if l.error = 0#16 then { l with error := code } else { l with errorLost := true }

/-- A launch's error recorded. -/
def State.launchError (s : State) (grid : Nat) (code : BitVec 16) : State :=
  match s.launch? grid with
  | some l => s.setLaunch grid (l.withError code)
  | none => s

/-- The code 0x0100 + c of an ending cause. -/
def causeCode (c : BitVec 8) : BitVec 16 := 0x0100#16 + c.setWidth 16

/-- A lane's open transaction dropped with a code (spec/07 R170): its stores are discarded, %xcode written. Codes 1 and
2 count in the retry series. -/
def Group.abortLane (g : Group) (lane : Nat) (code user : Nat) : Group :=
  match laneOf g.tx lane with
  | none => g
  | some t =>
    let old := laneOf g.series lane
    let n := if old.fallback = t.fallback then old.conflicts else 0
    let n' := if code = 1 || code = 2 then min 255 (n + 1) else n
    { g with
      tx := g.tx.setIfInBounds lane none
      series := g.series.setIfInBounds lane ⟨t.fallback, n'⟩
      xcode := g.xcode.setIfInBounds lane (BitVec.ofNat 32 (code + 256 * user + 65536 * n')) }

/-- The accesses in flight of a lane's open transaction do nothing more, its stores being discarded (spec/07 R170). -/
def State.skipTx (s : State) (key lane : Nat) : State :=
  match laneOf (s.group key).tx lane with
  | none => s
  | some t =>
    { s with ops := s.ops.map fun p =>
        if p.2.group = key && !p.2.uni && t.seq ≤ p.2.seq then
          (p.1, { p.2 with acc := p.2.acc.map fun a => if a.lane = lane then { a with skip := true } else a })
        else p }

/-- Lanes moved to an address in a record of where lanes stood. -/
def PathState.moveTo (p : PathState) (m : LaneMask) (pc : DWord) : PathState :=
  let g := (({ Group.blank with table := p.table, parked := p.parked, waiting := p.waiting }).pullLanes m).placeAll [(pc, m)]
  { p with table := g.table, parked := g.parked, waiting := g.waiting }

/-- A lane whose transaction has aborted stands at its fallback for a replay of any instruction of the body too. -/
def Group.abortSnaps (g : Group) (t : Tx) (lane : Nat) : Group :=
  { g with snaps := g.snaps.map fun p => if t.seq < p.1 then (p.1, p.2.moveTo (BitVec.ofNat 32 (2 ^ lane)) t.fallback) else p }

/-- The lanes of a mask whose transaction is open. -/
def Group.txMask (g : Group) (m : LaneMask) : LaneMask :=
  BitVec.ofNat 32 ((lanesOf m).foldl (fun acc n => acc + if (laneOf g.tx n).isSome then 2 ^ n else 0) 0)

/-- Lanes of a group whose transaction an XEND in flight is about to end. -/
def State.endingTx (s : State) (key : Nat) : LaneMask :=
  s.ops.foldl (fun m p => if p.2.group = key && p.2.kind == .xend then m ||| p.2.active else m) 0#32

/-- The lanes of a mask that stand inside a transaction at issue. -/
def State.txLanes (s : State) (key : Nat) (m : LaneMask) : LaneMask :=
  (s.group key).txMask (m &&& ~~~(s.endingTx key))

/-- The fallback address of a lane's transaction. -/
def Group.fallbackOf (g : Group) (lane : Nat) : DWord :=
  match laneOf g.tx lane with
  | some t => t.fallback
  | none => 0#64

/-- A program counter: its bits [3:0] are always zero (spec/02 R22). -/
def wordAddr (a : DWord) : DWord := a &&& ~~~15#64

/-- Handler mode entered (spec/08 R210): TCAUSE, TDETAIL, TMASK, TPC, and the trapping path at TVEC. -/
def Group.enterHandler (g : Group) (tpc : DWord) (lanes : LaneMask) (c : BitVec 8) (t : Word) : Group :=
  (({ g with trap := { g.trap with hm := true, cause := c, detail := t, pc := tpc, mask := lanes } }).pullLanes
    lanes).placeAll [(wordAddr g.trap.vec, lanes)]

/-- The macro-operations of a cluster that have not begun are discarded, as when their controller's program ends by a
trap. -/
def State.dropMacros (s : State) (cl : Nat) : State :=
  let x := s.cluster cl
  let gone := (x.churn.macros.filter fun m => !m.begun).map fun m => m.op
  { s.setCluster cl { x with churn := { x.churn with macros := x.churn.macros.filter (·.begun) } } with
    ops := s.ops.filter fun p => !gone.contains p.1 }

/-- A program of an engine other than a partition ends at once: it issues nothing more, what it has in flight is
discarded, and its slot is released. -/
def State.stopProgram (s : State) (key : Nat) : State :=
  let s := s.modGroup key fun g => { g with table := [], parked := [], waiting := [], exited := 0xFFFFFFFF#32, halted := true }
  State.later { s with ops := s.ops.filter fun p => !(p.2.group = key && p.2.kind != .churnOp) } (.groupSlotRelease key)

/-- A precise trap (spec/08 R210) of the path with `lanes`; `tpc` is the address TPC takes. On a partition the
team ends when there is no vector or the group is in handler mode, else the group enters handler mode. On a churn
controller the launch's teams on the cluster end (R195); on the circuit processor the script's launch ends; on a
command core the firmware's own vector runs (spec/21 R368). An open transaction of the path's lanes is aborted first,
and TPC is then its fallback (spec/11 R261). -/
def State.takeTrap (s : State) (key : Nat) (tpc : DWord) (lanes : LaneMask) (c : BitVec 8) (t : Word) : State :=
  let g := s.group key
  match g.engine with
  | .partition =>
    let txs := lanesOf (s.txLanes key lanes)
    let tpc := match txs with
      | [] => tpc
      | n :: _ => g.fallbackOf n
    let g := { (txs.foldl (fun g n => g.abortLane n 8 0) g) with trapPend := none, replayFrom := g.seq }
    let s := txs.foldl (fun (s : State) n => s.skipTx key n) s
    if g.trap.hm then (s.setGroup key g).haltTeam g.team 0x0133#16
    else if g.trap.vec = 0#64 then (s.setGroup key g).haltTeam g.team (causeCode c)
    else s.setGroup key (g.enterHandler tpc lanes c t)
  | .churn =>
    let cl := clusterOf key
    let s := (s.dropMacros (churnIx key)).stopProgram key
    match (s.cluster (churnIx key)).churn.grid with
    | some grid => (s.teamsOn grid cl).foldl (fun s t => s.haltTeam t (causeCode c)) (s.launchError grid (causeCode c))
    | none => s
  | .circuit => (s.launchError g.team (causeCode c)).stopProgram key
  | .command => (s.modGroup key fun g => { g with halted := true }).soon (.cmcTrap (key - 0x4050))

/-- Return from handler mode (spec/08 R212): HM clears and the handler's lanes continue as one path at TPC. -/
def State.returnFromTrap (s : State) (key : Nat) : State :=
  s.modGroup key fun g =>
    let m := g.trap.mask &&& g.liveMask
    (({ g with trap := { g.trap with hm := false } }).pullLanes m).placeAll [(wordAddr g.trap.pc, m)]

end Sys2Proof.Machine
end

