-- ==== Sys2Proof/Machine/Devices.lean ====
section
/-! DEFINITION. What the device registers of owner 0xA read as (spec/14 R267, R268, spec/17 R314-R319, spec/18 R345,
spec/21 R367, R374, R376). -/

namespace Sys2Proof.Machine

/-- QCTL (spec/14 R268). -/
def Queue.ctl (q : Queue) : Nat :=
  (if q.en then 2 ^ 31 else 0) + q.prio.toNat * 2 ^ 20 + q.logsz.toNat * 2 ^ 16 + q.ctx.toNat * 2 ^ 8

/-- The 8 bytes at an offset of a queue's block (spec/14 R267). -/
def Queue.reg (q : Queue) (off : Nat) : Nat :=
  match off with
  | 0x00 => q.ctl
  | 0x08 => q.qbase.toNat
  | 0x10 => q.qspace.toNat
  | 0x18 => q.qcbase.toNat
  | 0x20 => q.wptr.toNat
  | 0x28 => q.rptr.toNat
  | 0x30 => q.tlv.toNat
  | 0x38 => q.ph.toNat
  | _ => 0

/-- Is a lane usable (spec/17 R316)? -/
def OptLane.usable (l : OptLane) : Bool := l.rate != 0 && !l.retire && !l.retraining && !l.failed

/-- Lanes of a port that carry traffic (spec/17 R315). -/
def Port.liveMask (p : Port) : Nat :=
  if p.state = 3 then (List.range 4).foldl (fun n i =>
    n + if (vget p.lanes i OptLane.reset).usable then 2 ^ i else 0) 0 else 0

/-- PSTAT (spec/17 R315). -/
def Port.stat (p : Port) : Nat :=
  p.liveMask * 2 ^ 28 + p.peerPort.toNat * 2 ^ 22 + p.peerPkg.toNat * 2 ^ 16 + p.cause.toNat * 2 ^ 8 + p.state

/-- LSTAT (spec/17 R317). -/
def OptLane.stat (l : OptLane) : Nat :=
  (if l.retire then 2 ^ 31 else 0) + (if l.wear then 2 ^ 30 else 0) + l.rate * 2 ^ 24 + l.temp.toNat

/-- The 8 bytes at an offset of a port's block (spec/17 R314). -/
def Port.reg (p : Port) (off : Nat) : Nat :=
  if off < 0x40 then (if off = 0 then p.stat else 0)
  else if 0x140 ≤ off then 0
  else
    let l := vget p.lanes ((off - 0x40) / 0x40) OptLane.reset
    match (off - 0x40) % 0x40 with
    | 0x00 => l.stat + (l.bias.toNat * 2 ^ 16 + l.bias0.toNat) * 2 ^ 32
    | 0x08 => l.age.toNat
    | 0x10 => l.cpl.toNat
    | 0x18 => l.spl.toNat
    | 0x20 => l.modTap.toNat
    | _ => 0

/-- LKSTAT (spec/18 R345). -/
def Link.stat (l : Link) : Nat := l.state * 2 ^ 30 + l.lanes * 2 ^ 23 + l.replays

/-- The 8 bytes at an offset of a link's block (spec/18 R345). -/
def Link.reg (l : Link) (off : Nat) : Nat :=
  match off with
  | 0x00 => l.stat + l.crc * 2 ^ 32
  | 0x08 => l.step.toNat
  | _ => 0

/-- The 8 bytes at an offset of a base die's error log (spec/21 R367). -/
def RasLog.reg (r : RasLog) (off : Nat) : Nat :=
  match off with
  | 0x00 => r.ce.toNat + r.ue.toNat * 2 ^ 32
  | 0x08 => r.addr.toNat
  | _ => 0

/-- PWRCTL and PWRSTAT (spec/21 R376). -/
def Power.regs (p : Power) : Nat :=
  p.plimit.toNat * 2 ^ 16 + p.tlimit.toNat * 2 ^ 8
    + (p.pwr.toNat * 2 ^ 16 + p.tcp.toNat * 2 ^ 8 + p.clk.toNat) * 2 ^ 32

/-- FWSLOT (spec/21 R374). -/
def FwSlots.reg (f : FwSlots) : Nat :=
  (if f.hbeat then 2 ^ 31 else 0) + (if f.rollback then 2 ^ 30 else 0) + (if f.slot then 1 else 0)

/-- The 8 bytes of the device registers at an 8-byte-aligned offset of owner 0xA. -/
def State.devWord (s : State) (off : Nat) : Nat :=
  if 0x100000 ≤ off && off < 0x104000 then (s.queue ((off - 0x100000) / 0x40)).reg (off % 0x40)
  else if 0x200000 ≤ off && off < 0x208000 then (s.port ((off - 0x200000) / 0x200)).reg (off % 0x200)
  else if 0x300000 ≤ off && off < 0x300100 && off % 0x40 < 0x10 then
    (vget s.links ((off - 0x300000) / 0x40) Link.reset).reg (off % 0x40)
  else if 0x400000 ≤ off && off < 0x404000 then
    (vget s.ras ((off - 0x400000) / 0x1000) ⟨0#32, 0#32, 0#64⟩).reg (off % 0x1000)
  else if off = 0x500000 then s.power.regs
  else if off = 0x500100 then s.fw.reg
  else 0

/-- A byte of the device registers. -/
def State.devByte (s : State) (off : Nat) : Byte :=
  BitVec.ofNat 8 (s.devWord (off - off % 8) / 256 ^ (off % 8))

/-- Does a read of `n` bytes at an offset take in a register at another? -/
def coversReg (off n reg : Nat) : Bool := overlaps off n reg 4

/-- The error log of a base die. -/
def State.rasOf (s : State) (b : Nat) : RasLog := vget s.ras b ⟨0#32, 0#32, 0#64⟩

/-- RASCE read: it is cleared (spec/21 R367). -/
def State.rasceRead (s : State) (b : Nat) : State := { s with ras := s.ras.setIfInBounds b { s.rasOf b with ce := 0#32 } }

/-- RASUE read: it is cleared (spec/21 R367). -/
def State.rasueRead (s : State) (b : Nat) : State := { s with ras := s.ras.setIfInBounds b { s.rasOf b with ue := 0#32 } }

/-- A link's block read at LKCRC: the count is cleared (spec/18 R345). -/
def State.crcRead (s : State) (k : Nat) : State :=
  { s with links := s.links.setIfInBounds k { vget s.links k Link.reset with crc := 0 } }

/-- What a read of `n` bytes of device registers does to those that a read clears, at once (spec/00 R6). -/
def State.readClears (s : State) (off n : Nat) : State :=
  let s := ((List.range 4).filter fun k => coversReg off n (0x300004 + 0x40 * k)).foldl State.crcRead s
  let s := ((List.range 4).filter fun b => coversReg off n (0x400000 + 0x1000 * b)).foldl State.rasceRead s
  ((List.range 4).filter fun b => coversReg off n (0x400004 + 0x1000 * b)).foldl State.rasueRead s

/-- The saturating increment of a 32-bit count. -/
def satInc (w : Word) (n : Nat) : Word := BitVec.ofNat 32 (min 0xFFFFFFFF (w.toNat + n))

/-- RASUE of a base die rises (spec/21 R366, R367, R378). -/
def State.countUE (s : State) (base : Nat) : State :=
  let r := vget s.ras base ⟨0#32, 0#32, 0#64⟩
  { s with ras := s.ras.setIfInBounds base { r with ue := satInc r.ue 1 } }

/-- A store to device registers: REGISTER_WRITEs of up to 8 bytes, rising, before anything else of the cycle (spec/14
R267; log 34). -/
def State.writeRegs (s : State) (off : Nat) (bytes : List Byte) : State :=
  let ws := (List.range ((bytes.length + 7) / 8)).map fun i =>
    let b := (bytes.drop (8 * i)).take 8
    Event.registerWrite (off + 8 * i) b.length (BitVec.ofNat 64 (leNat b))
  let isWrite (e : Event) : Bool := match e with
    | .registerWrite _ _ _ => true
    | _ => false
  { s with agenda := s.agenda.takeWhile isWrite ++ ws ++ s.agenda.dropWhile isWrite }

/-- A store to host memory (spec/01 R15, spec/11 R254). -/
def State.storeHostMem (s : State) (pa : Nat) (bytes : List Byte) : State :=
  if s.hostErr then s.countUE 0
  else ({ s with mem := memSetAll s.mem pa bytes }).send (.hostStore (offsetOf pa - 0x4000000) bytes)

end Sys2Proof.Machine
end

