-- ==== Sys2Proof/Machine/Flags.lean ====
section
/-! DEFINITION. Conditions and predicates (spec/06 R123, R124): the machine has no arithmetic flags beside its
predicate registers; the outstanding-operation flags f0-f11 of spec/02 R33 stand in Group.f. -/

namespace Sys2Proof.Machine

/-- A condition of layout CP over a pair whose order is known (spec/06 R123). -/
def condOrdered (cond : Nat) (lt eq : Bool) : Bool :=
  match cond with
  | 0 => eq
  | 1 => !eq
  | 2 => lt
  | 3 => lt || eq
  | 4 => !lt && !eq
  | 5 => !lt
  | 6 => true
  | _ => false

/-- A condition over an unordered pair: only `ne` and `unordered` hold. -/
def condUnordered (cond : Nat) : Bool := cond == 1 || cond == 7

/-- A condition over two numbers; IEEE comparison, -0 equal to +0. -/
def condNum (cond : Nat) (a b : FloatNum) : Bool :=
  if a.isNaN || b.isNaN then condUnordered cond else condOrdered cond (a.lt b) (a.eq b)

/-- A condition over two integers. -/
def condInt (cond : Nat) (a b : Int) : Bool := condOrdered cond (a < b) (a == b)

/-- ICMP. -/
def icmpVal (f : Fields) (a b _ : Val) : Val :=
  let w := if intTy64 f.mod10 then 64 else 32
  boolVal (condInt f.modHi (intArg (intTySigned f.mod10) w a) (intArg (intTySigned f.mod10) w b))

/-- FCMP: formats `.f32`, `.f16`, `.bf16` in MOD[1:0]. -/
def fcmpVal (f : Fields) (a b _ : Val) : Val :=
  boolVal (condNum f.modHi (numArg (.ofCode f.mod10) a) (numArg (.ofCode f.mod10) b))

/-- DCMP. -/
def dcmpVal (f : Fields) (a b _ : Val) : Val := boolVal (condNum f.modHi (numArg .f64 a) (numArg .f64 b))

/-- D8CMP compares decoded values; 0x80 is its NaN. -/
def d8cmpVal (f : Fields) (a b _ : Val) : Val :=
  boolVal (condNum f.modHi (decodeD8 (a.setWidth 8)) (decodeD8 (b.setWidth 8)))

/-- PLOG (spec/06 R124). -/
def plogVal (f : Fields) (a b _ : Val) : Val :=
  let x := a != 0#128
  let y := b != 0#128
  boolVal (match f.modHi with
    | 0 => x && y
    | 1 => x || y
    | 2 => x != y
    | 3 => x && !y
    | _ => x || !y)

/-- A word-wait's condition, in MOD[5:3] (spec/07 R177): eq, ne, signed lt and ge, unsigned lt and ge. -/
def wwaitHolds (cond : Nat) (word operand : Word) : Bool :=
  match cond with
  | 0 => word == operand
  | 1 => word != operand
  | 2 => word.toInt < operand.toInt
  | 3 => operand.toInt ≤ word.toInt
  | 4 => word.toNat < operand.toNat
  | _ => operand.toNat ≤ word.toNat

end Sys2Proof.Machine
end

