-- ==== Sys2Proof/Machine/Lease.lean ====
section
/-! DEFINITION. The lease of a group (spec/10 R233-R236). -/

namespace Sys2Proof.Machine

/-- The 6-bit hash of a virtual line (spec/10 R234): VA[79] xor the twelve 6-bit pieces of VA[78:7]. -/
def lineHash (vline : BitVec 73) : BitVec 6 :=
  (List.range 12).foldl (fun h i => h ^^^ vline.extractLsb' (6 * i) 6) ((vline.extractLsb' 72 1).setWidth 6)

/-- Is a filter entry live at an instruction count? -/
def FilterEntry.live (e : FilterEntry) (count : Nat) : Bool := count - e.stamp < 4096

/-- The measured value (spec/10 R234). -/
def Lease.measured (l : Lease) : Nat :=
  min 4096 (64 * (l.filter.filter fun e => e.live l.count).length + l.boost)

/-- The active lease (spec/10 R233). -/
def Lease.active (l : Lease) : Nat :=
  match l.mode with
  | .declared => l.declared
  | .measured => l.measured

/-- The entry with the smallest stamp replaced by a new one (spec/10 R234).
DESIGN CHOICE (log 87): of several entries with the smallest stamp, the first in the list goes, the one added last. -/
def replaceOldest (new : FilterEntry) (es : List FilterEntry) : List FilterEntry :=
  match sortBy es (fun a b => a.stamp ≤ b.stamp) with
  | [] => [new]
  | _ :: t => new :: t

/-- One distinct line sampled (spec/10 R234). -/
def Lease.sampleLine (l : Lease) (vline : BitVec 73) : Lease :=
  if lineHash vline != 0#6 then l
  else if l.filter.any (fun e => e.line = vline) then
    { l with filter := l.filter.map fun e => if e.line = vline then { e with stamp := l.count } else e }
  else
    let live := l.filter.filter fun e => e.live l.count
    if live.length < 64 then { l with filter := ⟨vline, l.count⟩ :: live }
    else { l with filter := replaceOldest ⟨vline, l.count⟩ l.filter }

/-- The distinct lines of an instruction's accesses sampled. -/
def Lease.sample (l : Lease) (vlines : List (BitVec 73)) : Lease := vlines.eraseDups.foldl Lease.sampleLine l

/-- Bits [12:0] of the issue control word (spec/10 R236). -/
def icwBudget (icw : Word) : Nat := (icw.extractLsb' 0 13).toNat
/-- Bit [31] of the issue control word. -/
def icwChk (icw : Word) : Bool := icw.getLsbD 31

/-- The issue control word of the context a group runs for. -/
def State.icw (s : State) (ctx : Nat) : Word :=
  match s.context ctx with
  | some c => c.icw
  | none => 0x0E00#32

/-- Is the checking scoreboard on for a context now (spec/10 R236: 256 cycles after the write)? -/
def State.chkOn (s : State) (ctx : Nat) : Bool :=
  match s.context ctx with
  | some c => c.chkFrom.foldl (fun b e => if e.1 ≤ s.now then e.2 else b) (c.chkFrom.isEmpty && icwChk c.icw)
  | none => false

/-- The groups resident on a core's partitions, with keys. -/
def State.coreGroups (s : State) (core : Nat) : List (Nat × Group) :=
  s.groups.filter fun p => p.2.engine = .partition && !isOut p.1 && coreOf p.1 = core

/-- The age a group's team has. -/
def State.teamAge (s : State) (g : Group) : Nat :=
  match s.team? g.team with
  | some t => t.age
  | none => 0

/-- The groups of a core in age order: team age, then %grp (spec/10 R236). -/
def State.coreByAge (s : State) (core : Nat) : List (Nat × Group) :=
  sortBy (s.coreGroups core) fun a b =>
    s.teamAge a.2 < s.teamAge b.2 || (s.teamAge a.2 == s.teamAge b.2 && a.2.grp ≤ b.2.grp)

/-- The sum S of a core (spec/10 R236). -/
def State.leaseSum (s : State) (core : Nat) : Nat :=
  (s.coreGroups core).foldl (fun n p => if p.2.lease.act = .active then n + p.2.lease.active else n) 0

/-- The budget that acts for a context now: a new LBUDGET acts from the next evaluation (spec/10 R236). -/
def State.budgetOf (s : State) (ctx : Nat) : Nat :=
  match s.context ctx with
  | some c => c.budFrom.foldl (fun b e => if e.1 ≤ s.now then e.2 else b) (icwBudget c.icw)
  | none => icwBudget 0x0E00#32

/-- The budget B of a core: that of the context resident on it. -/
def State.leaseBudget (s : State) (core : Nat) : Nat :=
  match s.coreGroups core with
  | (_, g) :: _ => s.budgetOf g.ctx
  | [] => icwBudget 0x0E00#32

/-- A group deactivated under R238. -/
def Group.deactivate (g : Group) (ns : Nat) : Group :=
  { g with lease := { g.lease with act := .inactive, inactiveSince := ns, recentlyOff := true } }

/-- A group activated. -/
def Group.activate (g : Group) : Group := { g with lease := { g.lease with act := .active } }

/-- Does S exceed B, with more than one active group and one of them not protected (spec/10 R238)? -/
def State.overBudget (s : State) (core : Nat) : Bool :=
  s.leaseBudget core < s.leaseSum core
    && 1 < ((s.coreGroups core).filter fun p => p.2.lease.act = .active).length
    && (s.coreGroups core).any fun p => p.2.lease.act = .active && p.2.lease.protectedUntil ≤ s.ns

/-- The overrun of R238 put on the agenda when it stands. -/
def State.checkOverrun (s : State) (core : Nat) : State :=
  if s.overBudget core then s.later (.leaseOverrunDeactivate core) else s

/-- The groups that stand on a core with the group of a key: the resident ones, or those of its image (spec/10 R242). -/
def State.coreMates (s : State) (key : Nat) : List (Nat × Group) :=
  s.groups.filter fun p => p.2.engine = .partition && p.1 / 0x10000 = key / 0x10000 && coreOf p.1 = coreOf key

/-- The sum S of a group's core, of its own context's groups. -/
def State.leaseSumAt (s : State) (key : Nat) : Nat :=
  (s.coreMates key).foldl (fun n p => if p.2.lease.act = .active then n + p.2.lease.active else n) 0

/-- The wait of a dormant group has ended (spec/10 R237): active at once if it fits, else inactive. -/
def State.leaveDormant (s : State) (key : Nat) : State :=
  let g := s.group key
  if g.lease.act = .dormant then
    if s.leaseSumAt key + g.lease.active ≤ s.budgetOf g.ctx then s.setGroup key g.activate
    else s.setGroup key { g with lease := { g.lease with act := .inactive, inactiveSince := s.ns } }
  else s

/-- A lost-locality event against an owner (spec/10 R235). -/
def State.lostLocality (s : State) (owner : Nat × Nat) : State :=
  let g := s.group owner.1
  if (mapGet? s.groups owner.1).isSome && g.occ = owner.2 && g.lease.act = .active then
    (s.setGroup owner.1 { g with lease := { g.lease with
      boost := min 4096 (g.lease.boost + 64), decayFrom := g.lease.count } }).checkOverrun (coreOf owner.1)
  else s

end Sys2Proof.Machine
end

