-- ==== Sys2Proof/Machine/Operands.lean ====
section
/-! DEFINITION. Reading the operands of a word (spec/02 R25-R29, spec/03 R60-R81, spec/06 R110-R116): every storage
level, the immediate's forms, negation, the latch checks and the guard. -/

namespace Sys2Proof

/-- Bits of an operand class. -/
def OpClass.bits : OpClass → Nat
  | .unused => 0
  | .w _ | .dw | .base => 64
  | .q4 _ | .dq => 128
  | .k | .dk => 1
  | .uq wide => if wide then 64 else 32
  | .permA wide _ => if wide then 64 else 32
  | .v _ | .dv | .space | .peer | .laneSide | .ldxA | .jreg | .immOr => 32

/-- The class of source field `pos`: 0 is A, 1 is B, 2 is C. -/
def Info.srcCls (i : Info) (pos : Nat) : OpClass := if pos == 0 then i.aCls else if pos == 1 then i.bCls else i.cCls

end Sys2Proof

namespace Sys2Proof.Machine

/-! ## What an opcode makes of its source fields -/

/-- What the negate-or-invert bit does to an operand (spec/06 R112). -/
inductive NegKind where
  | int (w : Nat)
  | bits (w : Nat)
  | sign (f : FloatFmt)
  | signPair
  | d8
  deriving DecidableEq, Repr

/-- How `imm` supplies a value (spec/06 R111). -/
inductive ImmKind where
  | word | zext | sext | low16 | pair16 | widen | low8
  deriving DecidableEq, Repr

/-- The two together. -/
structure SrcForm where
  neg : NegKind
  imm : ImmKind
  deriving DecidableEq, Repr

/-- An integer operand of type code `ty` in layouts IA, CV and AT, whose `.b64` immediate is zero-extended. -/
def intForm (ty : Nat) : SrcForm :=
  if ty == 3 then ⟨.int 64, .zext⟩ else if ty == 2 then ⟨.int 64, .sext⟩ else ⟨.int 32, .word⟩

/-- A bit operand of 32 or 64 bits. -/
def bitForm (wide : Bool) : SrcForm := if wide then ⟨.bits 64, .sext⟩ else ⟨.bits 32, .word⟩

/-- A float operand of a format. -/
def floatForm (f : FloatFmt) : SrcForm :=
  ⟨.sign f, match f with
    | .f32 => .word
    | .f16 | .bf16 => .low16
    | .f64 => .widen⟩

/-- A D8 code operand. -/
def d8Form : SrcForm := ⟨.d8, .low8⟩

/-- An atomic operand (spec/06 R112, spec/07 R158): integer or float negation for add, min and max, else inversion of
the whole pair or quad. -/
def atomForm (op : Nat) (ty : Nat) : SrcForm :=
  if op < 3 then
    if ty == 4 then floatForm .f32
    else if ty == 5 then floatForm .f64
    else if ty == 2 then ⟨.int 64, .zext⟩
    else if ty == 3 then ⟨.int 64, .sext⟩
    else ⟨.int 32, .word⟩
  else if op == 7 then (if ty == 0 || ty == 1 then ⟨.bits 64, .sext⟩ else ⟨.bits 128, .word⟩)
  else if ty == 2 then ⟨.bits 64, .zext⟩
  else if ty == 3 then ⟨.bits 64, .sext⟩
  else if ty == 5 then ⟨.bits 64, .widen⟩
  else ⟨.bits 32, .word⟩

/-- The form of source field `pos` (spec/06 R111, R112). -/
def srcForm (i : Info) (pos : Nat) : SrcForm :=
  let f := i.fields
  let cls := i.srcCls pos
  match i.layout with
  | .ia => if i.op == 0x1D && pos == 2 then ⟨.int 64, if f.iaSigned then .sext else .zext⟩
    else if i.op == 0x1D then ⟨.int 32, .word⟩ else intForm f.mod43
  | .sh => if pos == 0 then ⟨.int 64, .sext⟩ else ⟨.int 32, .word⟩
  | .lg | .mv => bitForm (cls.bits == 64)
  | .cp =>
    if i.op == 0x30 then (if intTy64 f.mod10 then ⟨.int 64, .sext⟩ else ⟨.int 32, .word⟩)
    else if i.op == 0x31 then floatForm (.ofCode f.mod10)
    else if i.op == 0x32 then floatForm .f64
    else d8Form
  | .fa => floatForm f.faFmt
  | .da => floatForm .f64
  | .sp => floatForm (if 0x5A ≤ i.op then .f64 else .f32)
  | .cv => if i.op == 0x60 || i.op == 0x63 then intForm f.mod32 else floatForm (.ofCode f.mod32)
  | .d8 =>
    if pos == 1 && (i.op == 0x64 || i.op == 0x65) then ⟨.int 32, .word⟩
    else if i.op == 0x64 || i.op == 0x66 then floatForm f.faFmt
    else d8Form
  | .hp => ⟨.signPair, .pair16⟩
  | .xl =>
    if pos == 1 then ⟨.int 32, .word⟩
    else if i.op == 0x77 then (if f.modHi < 5 then ⟨.int 32, .word⟩ else ⟨.bits 32, .word⟩)
    else if i.op == 0x78 then floatForm .f32
    else if i.op == 0x79 then (if f.modHi < 2 then ⟨.int 32, .word⟩ else floatForm .f32)
    else bitForm (cls.bits == 64)
  | .at =>
    let n := if 0xC0 ≤ i.op then i.op - 0xC0 else (i.op % 16) / 2
    atomForm n f.modLo
  | .z | .pl | .lm | .fn | .sy | .en =>
    if cls.bits == 128 then ⟨.bits 128, .word⟩ else bitForm (cls.bits == 64)

/-- The value `imm` supplies (spec/06 R111). A D8 code is IMM[7:0] in each of the four bytes that D8MIN and D8MAX read. -/
def immVal (k : ImmKind) (imm : Word) : Val :=
  match k with
  | .word => imm.setWidth 128
  | .zext => imm.setWidth 128
  | .sext => (imm.signExtend 64).setWidth 128
  | .low16 => (imm.setWidth 16).setWidth 128
  | .pair16 => BitVec.ofNat 128 ((imm.toNat % 2 ^ 16) * 0x10001)
  | .widen => BitVec.ofNat 128 (widen32to64 imm.toNat)
  | .low8 => BitVec.ofNat 128 ((imm.toNat % 2 ^ 8) * 0x1010101)

/-- The negate-or-invert bit at work on a value (spec/06 R112). -/
def negVal (k : NegKind) (x : Val) : Val :=
  match k with
  | .int w => wrapInt w (-(natArg w x : Int))
  | .bits w => lowBits w (~~~x)
  | .sign f => x ^^^ BitVec.ofNat 128 f.signBit
  | .signPair => x ^^^ 0x80008000#128
  | .d8 => bytewise (fun c _ => negD8 c) x x

/-! ## The registers an operand names -/

/-- A main-file name in a lane: 0 when unmapped (spec/03 R68). -/
def Group.xWord (g : Group) (n lane : Nat) : Word :=
  match mapGet? g.x n with
  | some e => laneOf e.vals lane
  | none => 0#32

/-- `n` consecutive words as one value, the first lowest. -/
def wordsVal (get : Nat → Word) (n : Nat) : Val :=
  BitVec.ofNat 128 ((List.range n).foldl (fun acc k => acc + (get k).toNat * 2 ^ (32 * k)) 0)

/-- The special registers that the spec gives one value for each lane (spec/03 R81). -/
def perLane (idx : Nat) : Bool := idx == 0x10 || idx == 0x11 || idx == 0x26 || idx == 0x29

/-- Special registers that the spec gives the program of a churn controller, a script or a command core. -/
def engineHas (e : EngineKind) (idx : Nat) : Bool :=
  match e with
  | .partition => true
  | .churn => [0x14, 0x15, 0x16, 0x18, 0x1E, 0x1F, 0x20, 0x21].contains idx
  | .circuit | .command => [0x16, 0x18, 0x1E, 0x1F, 0x20, 0x21].contains idx

/-- Does the spec give a value to a special register read on a pipe of an engine? A lane's register read by the
uniform pipe, or a group's register read where there is no group, has none (log 18). -/
def specialGiven (e : EngineKind) (uniform : Bool) (idx : Nat) : Bool :=
  engineHas e idx && !(uniform && perLane idx)

/-- The grid a group works for. -/
def State.gridOf (s : State) (key : Nat) : Nat :=
  let g := s.group key
  match g.engine with
  | .partition => match s.team? g.team with
    | some t => t.grid
    | none => 0
  | .churn => ((s.cluster (churnIx key)).churn.grid).getD 0
  | .circuit | .command => g.team

/-- A special register's value (spec/03 R81, spec/09 R218) for a path and lane. -/
def specialVal (s : State) (key : Nat) (lanes : LaneMask) (uniform : Bool) (lane idx : Nat) : Word :=
  let g := s.group key
  let w (n : Nat) : Word := BitVec.ofNat 32 n
  let team (f : Team → Word) : Word := match s.team? g.team with
    | some t => f t
    | none => 0#32
  if !specialGiven g.engine uniform idx then (Config.freeValue s.freeCtr).setWidth 32
  else match idx with
  | 0x10 => w lane
  | 0x11 => w (32 * g.grp + lane)
  | 0x12 => w g.grp
  | 0x13 => team (·.index)
  | 0x14 => w (clusterOf key)
  | 0x15 => w (dieOf key)
  | 0x16 => w (s.gridOf key)
  | 0x17 => w (if g.producer then 1 else 0)
  | 0x18 => w g.ctx
  | 0x19 => w (coreOf key)
  | 0x1A => w (partOf key % 4)
  | 0x1B => team (fun t => w t.ngrp)
  | 0x1C => team (fun t => w (32 * t.ngrp))
  | 0x1D => team (·.nteam)
  | 0x1E => s.cycle.setWidth 32
  | 0x1F => g.clockh
  | 0x20 => s.timer.setWidth 32
  | 0x21 => g.timeh
  | 0x22 => w g.lease.active
  | 0x23 => w g.lease.measured
  | 0x24 => lanes
  | 0x25 => g.liveMask
  | 0x26 => w (laneOf g.ret lane).spilled
  | 0x27 => team (·.node)
  | 0x28 => team (·.nrec)
  | 0x29 => laneOf g.xcode lane
  | 0x2A => w (s.deepOf g)
  | 0x2B => w g.regCount
  | 0x2C => w g.budget
  | 0x2D => w g.floor
  | _ => 0#32

/-- A predicate register in a lane: k7 reads true (spec/03 R60). -/
def Group.kBit (g : Group) (n lane : Nat) : Bool := n == 7 || (vget g.k n 0#32).getLsbD lane

/-- A uniform predicate. -/
def Group.hBit (g : Group) (n : Nat) : Bool := vget g.h n false

/-- The word a path executes: its engine's group, what the word is, and where. -/
structure Ctx where
  key    : Nat
  info   : Info
  pc     : DWord
  lanes  : LaneMask
  active : LaneMask
  seq    : Nat
  deriving DecidableEq, Repr

/-- Fields of the word. -/
def Ctx.f (c : Ctx) : Fields := c.info.fields

/-- An operand before negation, in one lane (spec/02 R25, R26). On the uniform pipe `lane` is 0. -/
def rawVal (s : State) (c : Ctx) (cls : OpClass) (form : SrcForm) (o : Operand) (lane : Nat) : Val :=
  let g := s.group c.key
  let n := o.index.toNat
  let words := max 1 (cls.bits / 32)
  match cls with
  | .uq _ => wordsVal (fun k => vget g.q (n + k) 0#32) words
  | .laneSide =>
    match o.level with
    | .main => (g.xWord n lane).setWidth 128
    | .oper => (laneOf (vget g.o n (Vector.replicate 32 0#32)) lane).setWidth 128
    | .latch => ((laneOf g.lat lane).val.setWidth 32).setWidth 128
    | .special => 0#128
  | _ =>
    match o.level with
    | .main =>
      if c.info.uniform then wordsVal (fun k => vget g.q (n + k) 0#32) words
      else wordsVal (fun k => g.xWord (n + k) lane) words
    | .oper => wordsVal (fun k => laneOf (vget g.o (n + k) (Vector.replicate 32 0#32)) lane) words
    | .latch =>
      let l := if n == 0 then laneOf g.lat lane else g.ulat
      if cls.bits ≤ 32 then (l.val.setWidth 32).setWidth 128 else l.val.setWidth 128
    | .special =>
      if n == 0 then 0#128
      else if n == 1 then immVal form.imm c.f.imm
      else if 0x10 ≤ n && n ≤ 0x2D then (specialVal s c.key c.lanes c.info.uniform lane n).setWidth 128
      else if 0x40 ≤ n && n ≤ 0x47 then boolVal (g.kBit (n - 0x40) lane)
      else if 0x48 ≤ n && n ≤ 0x4B then boolVal (g.hBit (n - 0x48))
      else 0#128

/-- The operand in a field. -/
def Ctx.operand (c : Ctx) (pos : Nat) : Operand := if pos == 0 then c.f.a else if pos == 1 then c.f.b else c.f.c

/-- A source operand's value in a lane, negation applied (spec/06 R112). -/
def srcVal (s : State) (c : Ctx) (pos lane : Nat) : Val :=
  let cls := c.info.srcCls pos
  let o := c.operand pos
  let form := srcForm c.info pos
  if cls = .unused then 0#128
  else
    let x := rawVal s c cls form o lane
    if !o.neg then x
    else if cls = .k then boolVal (x == 0#128)
    else negVal form.neg x

/-- A source operand in every lane. -/
def srcLanes (s : State) (c : Ctx) (pos : Nat) : Lanes Val := Vector.ofFn fun i : Fin 32 => srcVal s c pos i

/-- The lowest active lane; 0 when none. -/
def firstLane (m : LaneMask) : Nat := (lanesOf m).headD 0

/-! ## The guard (spec/02 R29-R31) -/

/-- Does the guard hold in a lane of the lane pipe? -/
def laneGuard (g : Group) (f : Fields) (lane : Nat) : Bool := g.kBit f.guardSel.toNat lane != f.guardNeg

/-- Does the guard hold on the uniform pipe? Code 7 is the constant true. -/
def uniformGuard (g : Group) (f : Fields) : Bool :=
  (f.guardSel == 7#3 || g.hBit f.guardSel.toNat) != f.guardNeg

/-- The lanes of a path in which the operation takes part; on the uniform pipe lane 0 stands for the group. -/
def activeLanes (g : Group) (i : Info) (lanes : LaneMask) : LaneMask :=
  if i.uniform then (if uniformGuard g i.fields then 1#32 else 0#32)
  else BitVec.ofNat 32 ((lanesOf lanes).foldl
    (fun acc n => acc + if laneGuard g i.fields n then 2 ^ n else 0) 0)

/-! ## Latch checks (spec/03 R64) -/

/-- The detail of a stale latch entry read as an operand of some width. -/
def latchDetail (g : Group) (wide : Bool) (l : Latch) : Option Nat :=
  match l.tag with
  | none => some 1
  | some e => if e != g.epoch then some 2 else if wide && !l.wide then some 3 else none

/-- The lowest of a list of details. -/
def lowestDetail (ds : List (Option Nat)) : Option Nat :=
  ds.foldl (fun m d => match m, d with
    | none, d => d
    | m, none => m
    | some a, some b => some (min a b)) none

/-- The stale-latch detail of one source field. -/
def latchFault (s : State) (c : Ctx) (pos : Nat) : Option Nat :=
  let g := s.group c.key
  let o := c.operand pos
  let cls := c.info.srcCls pos
  if cls = .unused || o.level != .latch then none
  else if cls = .laneSide then
    if c.active = 0#32 then none else latchDetail g false (laneOf g.lat (natArg 5 (srcVal s c 1 0)))
  else if o.index == 1#8 then
    if c.active = 0#32 then none else latchDetail g (64 ≤ cls.bits) g.ulat
  else lowestDetail ((lanesOf c.active).map fun n => latchDetail g (64 ≤ cls.bits) (laneOf g.lat n))

/-- The lowest stale-latch detail of the word's sources. -/
def latchFaults (s : State) (c : Ctx) : Option Nat := lowestDetail ((List.range 3).map (latchFault s c))

/-! ## Poison in registers (spec/21 R366) -/

/-- Does a source field read a register that holds poison, in an active lane? -/
def poisonSource (s : State) (c : Ctx) (pos : Nat) : Bool :=
  let g := s.group c.key
  let o := c.operand pos
  let cls := c.info.srcCls pos
  let n := o.index.toNat
  let words := max 1 (cls.bits / 32)
  c.active != 0#32 && cls != .unused && cls != .laneSide && match o.level with
  | .main => !c.info.uniform && cls != .uq false && cls != .uq true
      && (List.range words).any fun k => match mapGet? g.x (n + k) with
        | some e => e.poison
        | none => false
  | .oper => (List.range words).any fun k => g.poison.contains (.oper (n + k))
  | .latch => if n == 0 then (lanesOf c.active).any fun i => (laneOf g.lat i).poison else g.ulat.poison
  | .special => false

end Sys2Proof.Machine
end

