-- ==== Sys2Proof/Machine/Waits.lean ====
section
/-! DEFINITION. Operations that end, waits, rejoin masks and barriers (spec/02 R33, spec/07 R173-R178, spec/09 R224). -/

namespace Sys2Proof.Machine

/-! ## Ending an operation -/

/-- A flag's count falls (spec/02 R33); flag 0 is none. -/
def Group.flagDown (g : Group) (n : Nat) : Group :=
  if n = 0 then g else { g with f := g.f.setIfInBounds (n - 1) (vget g.f (n - 1) 0#6 - 1#6) }

/-- A flag's count rises. -/
def Group.flagUp (g : Group) (n : Nat) : Group :=
  if n = 0 then g else { g with f := g.f.setIfInBounds (n - 1) (vget g.f (n - 1) 0#6 + 1#6) }

/-- Are all flags set? -/
def Group.flagsSet (g : Group) : Bool := g.f.toList.all (· == 0#6)

/-- Another operation in flight that holds a group's issue: two paths of one cycle may both issue one (spec/09 R223). -/
def State.otherHolder (s : State) (key id : Nat) : Option Nat :=
  (s.ops.find? fun p => p.2.group = key && p.2.holds && p.1 != id).map (·.1)

/-- Have all lanes of the group exited? -/
def Group.done (g : Group) : Bool := g.exited = 0xFFFFFFFF#32

/-- Operations that keep a slot though they do not keep registers: arrivals not yet recorded. -/
def barHolds : OpKind → Bool
  | .barArrive _ | .barWait _ | .barcWait | .bardWait => true
  | _ => false

/-- Stores and atomics, which perform though their group has released its slot (spec/02 R43). -/
def OpKind.goesOn : OpKind → Bool
  | .store _ _ | .atom _ _ _ _ | .red _ _ _ _ | .rst | .ratom _ _ | .ffence => true
  | _ => false

/-- Operations of which only registers of their group would show anything. -/
def OpKind.onlyRegisters : OpKind → Bool
  | .result | .deepStore _ | .turn _ | .load _ _ _ | .pref _ | .rld | .nop | .yield => true
  | _ => false

/-- Does an operation in flight keep its group's slot: it may still fault and be replayed, or it acts through its group
(log 22)? -/
def Op.keepsSlot (o : Op) : Bool :=
  (o.unretired || barHolds o.kind) && !(o.pastFault && (o.kind.goesOn || o.kind.onlyRegisters))

/-- A group whose lanes have all exited releases its slot once its flags are set (spec/02 R43) and no replay of it can
follow (log 22). -/
def State.checkRelease (s : State) (key : Nat) : State :=
  match mapGet? s.groups key with
  | some g =>
    if g.done && g.flagsSet && !g.halted && !s.agenda.contains (.groupSlotRelease key)
        && !(s.ops.any fun p => p.2.group == key && (p.2.keepsSlot || isGhost key)) then
      s.later (.groupSlotRelease key)
    else s
  | none => s

/-- An operation completes for R33: it leaves the list, its flag falls, its hold on issue ends, and what it kept from
retiring retires. -/
def State.completeOp (s : State) (id : Nat) : State :=
  match mapGet? s.ops id with
  | none => s
  | some o =>
    let s := (s.delOp id).modGroup o.group fun g =>
      { g.flagDown o.flag with holdOp := if g.holdOp = some id then s.otherHolder o.group id else g.holdOp }
    (s.settle o.group).checkRelease o.group

/-- The operations of a group that meet a test complete. -/
def State.completeWhere (s : State) (key : Nat) (test : OpKind → Bool) : State :=
  (s.ops.filter fun p => p.2.group = key && test p.2.kind).foldl (fun s p => s.completeOp p.1) s

/-- The results of an operation land in its group. -/
def State.landOp (s : State) (o : Op) : State :=
  s.modGroup o.group fun g => o.res.foldl (fun g r => g.land o.seq r) g

/-- A group's epoch advances (spec/03 R64). -/
def Group.nextEpoch (g : Group) : Group := { g with epoch := g.epoch + 1 }

/-- A wait begins; one that follows another at once goes on with its clock (spec/09 R226, spec/10 R237). -/
def State.beginWait (s : State) (key : Nat) (k : WaitKind) : State :=
  s.modGroup key fun g => { g with wait := match g.wait with
    | some w => some { w with kind := k }
    | none => some ⟨k, s.now, s.ns⟩ }

/-! ## Rejoin masks (spec/07 R176) -/

/-- Lanes waiting at a place. -/
def Group.waitingMask (g : Group) (w : WaitAt) : LaneMask :=
  (g.waiting.filter fun x => x.place = w).foldl (fun m x => m ||| x.lanes) 0#32

/-- The lanes waiting at a place return to the path table, each at its own address (spec/09 R221). -/
def Group.releaseWaiting (g : Group) (w : WaitAt) : Group :=
  let out := g.waiting.filter fun x => x.place = w
  ({ g with waiting := g.waiting.filter fun x => x.place != w } : Group).placeAll
    (out.map fun (x : WaitingLanes) => (x.pc, x.lanes))

/-- Lanes put to wait at a place, at the addresses their selector gave them. -/
def Group.putWaiting (g : Group) (w : WaitAt) (moves : List (DWord × LaneMask)) (m : LaneMask) : Group :=
  { g with waiting := g.waiting ++
      ((moves.map fun x => (⟨w, x.1, x.2 &&& m⟩ : WaitingLanes)).filter fun x => x.lanes != 0#32) }

/-- A rejoin mask of a group. -/
def Group.rejoin (g : Group) (j : Nat) : Rejoin := vget g.j j ⟨0#32, 0#32⟩

/-- A rejoin mask set. -/
def Group.setRejoin (g : Group) (j : Nat) (r : Rejoin) : Group := { g with j := g.j.setIfInBounds j r }

/-- Is a rejoin mask complete: every lane of it has arrived or exited (spec/02 R43)? -/
def Group.joinFull (g : Group) (j : Nat) : Bool :=
  (g.rejoin j).mask &&& ~~~((g.rejoin j).arrived ||| g.exited) = 0#32

/-- Check(j) of R176. Where no lane waits, as with an empty mask, no wait ends, and the epoch stays (DESIGN CHOICE,
log 99). -/
def State.checkJoin (s : State) (key j : Nat) : State :=
  let g := s.group key
  if g.joinFull j && (g.rejoin j).mask != 0#32 then
    let waited := g.waitingMask (.join j) != 0#32
    let g := (g.setRejoin j ⟨0#32, 0#32⟩).releaseWaiting (.join j)
    State.completeWhere (s.setGroup key (if waited then g.nextEpoch else g)) key
      (fun k => k == .joinWait j)
  else s

/-- Every rejoin mask checked, as when lanes have exited. -/
def State.checkJoins (s : State) (key : Nat) : State := (List.range 16).foldl (fun s j => s.checkJoin key j) s

/-! ## Going back (spec/03 R70) -/

/-- One undo entry applied. -/
def Group.undoOne (g : Group) (u : UndoItem) : Group :=
  match u with
  | .oper n old => { g with o := g.o.setIfInBounds n old }
  | .uni n old => { g with q := g.q.setIfInBounds n old }
  | .pred n old => { g with k := g.k.setIfInBounds n old }
  | .upred n old => { g with h := g.h.setIfInBounds n old }
  | .rejoin n old => { g with j := g.j.setIfInBounds n old }
  | .lat old => { g with lat := old }
  | .ulat old => { g with ulat := old }
  | .ret old => { g with ret := old }
  | .deep cells landed =>
    let g := cells.foldl (fun (g : Group) c => g.setDeep c.2.1 c.1 c.2.2) g
    { g with landed := landed ++ g.landed }

/-- The registers and the rename map as they stood when instruction `n` issued (spec/03 R70, steps 1-4). -/
def Group.undoFrom (g : Group) (n : Nat) : Group :=
  let g := ((g.undo.filter fun u => n ≤ u.seq).reverse).foldl (fun (g : Group) u => g.undoOne u.item) g
  let back := g.pending.filter fun p => n ≤ p.seq && p.entry.seq < n
  { g with
    undo := g.undo.filter fun u => u.seq < n
    x := back.foldl (fun x p => mapSet x p.name p.entry) (g.x.filter fun e => e.2.seq < n)
    pending := g.pending.filter fun p => p.seq < n }

/-- The lanes and the epoch as they stood when instruction `n` issued; what has landed in a latch since then from an older
instruction is of that epoch. -/
def Group.pathsFrom (g : Group) (n : Nat) : Group :=
  match g.snaps.find? fun p => n ≤ p.1 with
  | none => g
  | some (_, p) =>
    { g with
      table := p.table
      parked := p.parked
      waiting := p.waiting
      barExec := p.barExec
      exited := p.exited
      epoch := p.epoch
      lat := g.lat.map fun l => { l with tag := l.tag.map fun e => min e p.epoch }
      ulat := { g.ulat with tag := g.ulat.tag.map fun e => min e p.epoch }
      snaps := g.snaps.filter fun q => q.1 < n }

/-- Transactions opened at instruction `n` or later are dropped without a code (spec/07 R171). -/
def Group.dropTx (g : Group) (n : Nat) : Group :=
  { g with tx := g.tx.map fun t => t.filter fun t => t.seq < n }

/-- The transactions still open when the group becomes replayable (spec/07 R171): each aborts with code 8 and its lane
takes its fallback. -/
def Group.faultTx (g : Group) : Group :=
  (List.range 32).foldl (fun g lane =>
    match laneOf g.tx lane with
    | none => g
    | some t =>
      let m : LaneMask := BitVec.ofNat 32 (2 ^ lane)
      ((g.abortLane lane 8 0).pullLanes m).placeAll [(t.fallback, m)]) g

/-- Operations of a group from instruction `n` on are discarded, and their flags fall (spec/07 R147, spec/02 R33). -/
def State.dropOps (s : State) (key n : Nat) : State :=
  (s.ops.filter fun p => p.2.group = key && n ≤ p.2.seq).foldl (fun (s : State) p =>
    (s.delOp p.1).modGroup key fun g =>
      { g.flagDown p.2.flag with holdOp := if g.holdOp = some p.1 then s.otherHolder key p.1 else g.holdOp }) s

/-- What discarded operations held of the Churn (spec/08 R191, R194): the slot of the faulting TFEED stays taken and
empty and the tile of the faulting TDRAIN claimed, for the replay; those of younger ones are given back. -/
def Churn.dropOps (c : Churn) (faulting : List Nat) (younger : List Nat) : Churn :=
  { c with
    feed := (c.feed.filter fun x => !younger.contains x.op).map fun x =>
      if faulting.contains x.op then { x with op := 0, data := [], full := false } else x
    drain := c.drain.map fun d => match d.claim with
      | some (g, o) => if younger.contains o then { d with claim := none }
          else if faulting.contains o then { d with claim := some (g, 0) } else d
      | none => d }

/-- The registers, the lanes and what is in flight brought back to where they stood as instruction `n` issued. -/
def State.rewind (s : State) (key n : Nat) : State :=
  let ids (test : Nat → Bool) := (s.ops.filter fun p => p.2.group = key && test p.2.seq).map (·.1)
  let c := s.cluster (churnIx key)
  let s := if (s.group key).engine = .partition then
      s.setCluster (churnIx key) { c with
        churn := c.churn.dropOps (ids fun q => q == n) (ids fun q => n < q) } else s
  let s := s.dropOps key n
  let s := (List.range 32).foldl (fun (s : State) l => s.skipTx key l) s
  (s.modGroup key fun g => { ((g.undoFrom n).pathsFrom n).dropTx n with trapPend := none }).syncPool (partOf key)

/-- The group goes back to instruction `n`, replayable there (spec/09 R225). -/
def State.rollback (s : State) (key n : Nat) : State := (s.rewind key n).modGroup key fun g => g.faultTx

/-! ## Barriers (spec/07 R173-R175) -/

/-- The barriers: a team's, the cluster's and the die's for a launch. -/
inductive BarAt where
  | team (t b : Nat)
  | cluster (c grid : Nat)
  | die (d grid : Nat)
  deriving DecidableEq, Repr

/-- The place a group's lanes wait at. -/
def BarAt.place : BarAt → WaitAt
  | .team _ b => .bar b
  | .cluster _ _ => .barc
  | .die _ _ => .bard

/-- The index of a barrier in Group.barExec. -/
def BarAt.slot : BarAt → Nat
  | .team _ b => b
  | .cluster _ _ => 8
  | .die _ _ => 9

/-- The largest count a barrier takes (spec/07 R174). -/
def State.barLimit (s : State) : BarAt → Nat
  | .team t _ => match s.team? t with
    | some x => x.ngrp
    | none => 0
  | .cluster _ _ => 256
  | .die _ _ => 512

/-- A barrier's state. -/
def State.barrier (s : State) : BarAt → Barrier
  | .team t b => match s.team? t with
    | some x => vget x.bars b Barrier.closed
    | none => Barrier.closed
  | .cluster c grid => mapGet (s.cluster c).cluBar grid Barrier.closed
  | .die d grid => mapGet (s.die d).dieBar grid Barrier.closed

/-- A barrier's state set. -/
def State.setBarrier (s : State) (at_ : BarAt) (x : Barrier) : State :=
  match at_ with
  | .team t b => match s.team? t with
    | some u => s.setTeam t { u with bars := u.bars.setIfInBounds b x }
    | none => s
  | .cluster c grid =>
    let u := s.cluster c
    s.setCluster c { u with cluBar := mapSet u.cluBar grid x }
  | .die d grid =>
    let u := s.die d
    s.setDie d { u with dieBar := mapSet u.dieBar grid x }

/-- Groups of a team, resident or swapped out, that have not exited. -/
def State.liveGroupsOf (s : State) (t : Nat) : List (Nat × Group) :=
  let saved := match s.team? t with
    | some x => x.saved
    | none => []
  ((s.teamGroups t) ++ saved).filter fun p => !p.2.done

/-- The number a group has as a party of a barrier, the same before and after a swap of its team. -/
def groupParty (g : Group) : Nat := g.team * 64 + g.grp

/-- The parties a barrier with count 0 waits for: non-exited groups of the team, or of the launch's teams on the
cluster; for the die barrier the launch's teams on the die that have not ended. -/
def State.barParties (s : State) : BarAt → List Nat
  | .team t _ => (s.liveGroupsOf t).map fun p => groupParty p.2
  | .cluster c grid => (s.teamsOn grid c).flatMap fun t => (s.liveGroupsOf t).map fun p => groupParty p.2
  | .die d grid => (s.teams.filter fun t => t.2.grid = grid && t.2.core / 32 = d && !t.2.ended).map (·.1)

/-- Is an operation of a group one that has executed a barrier? -/
def barOpOf (at_ : BarAt) (k : OpKind) : Bool :=
  match at_ with
  | .team _ b => k == .barWait b || k == .barArrive b
  | .cluster _ _ => k == .barcWait
  | .die _ _ => k == .bardWait

/-- Operations in flight that meet a test. -/
def State.opsWhere (s : State) (test : Op → Bool) : List (Nat × Op) := s.ops.filter fun p => test p.2

/-- Has a group an access in flight older than instruction `n` that has not passed its fault point? -/
def State.olderFault (s : State) (key n : Nat) : Bool :=
  s.ops.any fun p => p.2.group == key && p.2.seq < n && !p.2.pastFault

/-- The youngest operation of a group that has executed a barrier. -/
def State.barLast (s : State) (at_ : BarAt) (key : Nat) : Option Op :=
  (s.opsWhere fun o => o.group == key && barOpOf at_ o.kind).foldl (fun (m : Option Op) p => match m with
    | none => some p.2
    | some o => if o.seq < p.2.seq then some p.2 else some o) none

/-- The first instruction after a group's executions of a barrier. -/
def State.barEnd (s : State) (at_ : BarAt) (key : Nat) : Nat := match s.barLast at_ key with
  | some o => o.seq + 1
  | none => 0

/-- Where lanes stood, without those that have passed a barrier since: they stand after it. -/
def PathState.passBar (p : PathState) (w : WaitAt) (m : LaneMask) : PathState :=
  let out := (p.waiting.filter fun x => x.place = w).map fun x => (x.pc, x.lanes &&& m)
  out.foldl (fun (p : PathState) x => if x.2 = 0#32 then p else p.moveTo x.2 x.1) p

/-- Operations that a barrier's completion ends. -/
def barOps (w : WaitAt) (k : OpKind) : Bool :=
  match w with
  | .bar b => k == .barWait b
  | .barc => k == .barcWait
  | .bard => k == .bardWait
  | .join _ => false

/-- The executions of a barrier by lanes that no longer wait there complete. -/
def State.endBarOps (s : State) (at_ : BarAt) (key : Nat) : State :=
  let held := (s.group key).waitingMask at_.place
  (s.opsWhere fun o => o.group = key && barOps at_.place o.kind && o.active &&& held = 0#32).foldl
    (fun s p => s.completeOp p.1) s

/-- Is a barrier complete (spec/07 R173)? The die barriers of a halted die stay open (R174). -/
def State.barFull (s : State) (at_ : BarAt) (x : Barrier) : Bool :=
  !(match at_ with
    | .die d _ => s.dieHalted d
    | _ => false) && (x.arrived.length == x.count || (x.count == 0 && (s.barParties at_).all fun p => x.arrived.contains p))

/-- Does a wait of this kind belong to the place? -/
def waitKindOf : WaitAt → WaitKind
  | .bar _ => .bar
  | .barc => .barc
  | .bard => .bard
  | .join _ => .bar

/-- The party that arrives for a group: the group, or its team at the die barrier. -/
def partyOf (at_ : BarAt) (g : Group) : Nat :=
  match at_ with
  | .team _ _ | .cluster _ _ => groupParty g
  | .die _ _ => g.team

/-- The party of the group of a key. -/
def State.barParty (s : State) (at_ : BarAt) (key : Nat) : Nat := partyOf at_ (s.group key)

/-- Lanes of a group that have executed a barrier it has still to arrive at. -/
def Group.executedBar (g : Group) (slot : Nat) : LaneMask := (mapGet g.barExec slot (0#32, 0)).1

/-- The count that the last of them gave: where lanes execute the barrier on several paths with different A, the spec does
not say which A is the group's, and the model takes the last execution's (log 79). -/
def Group.countBar (g : Group) (slot : Nat) : Nat := (mapGet g.barExec slot (0#32, 0)).2

/-- Lanes that execute a barrier with count `a`; that of the last execution is kept (log 79). -/
def Group.executeBar (g : Group) (slot : Nat) (m : LaneMask) (a : Nat) : Group :=
  { g with barExec := mapSet g.barExec slot (g.executedBar slot ||| m, a) }

/-- Has every lane of a group that has not exited executed the barrier? -/
def Group.reachedBar (g : Group) (slot : Nat) : Bool := g.liveMask &&& ~~~(g.executedBar slot) = 0#32

/-- Lanes that wait at a barrier for the phase their group has arrived at; those of its next phase stay (spec/07 R173). -/
def Group.heldLanes (g : Group) (at_ : BarAt) : LaneMask := g.waitingMask at_.place &&& ~~~(g.executedBar at_.slot)

/-! ### Waits (spec/09 R226, spec/10 R237) -/

/-- The barriers of a group of a partition, resident or swapped out: its team's eight, its cluster's and its die's. -/
def State.barsFor (s : State) (key : Nat) (g : Group) : List BarAt :=
  let grid := match s.team? g.team with
    | some t => t.grid
    | none => 0
  (List.range 8).map (fun b => BarAt.team g.team b) ++ [.cluster (clusterOf key) grid, .die (dieOf key) grid]

/-- The barriers of a resident group. -/
def State.barsOf (s : State) (key : Nat) : List BarAt := s.barsFor key (s.group key)

/-- Is a group held at a barrier: lanes of it wait there and it has arrived, or it has reached the barrier while it still
has to arrive or, again, before the barrier it has arrived at completes (spec/07 R149, R173, spec/09 R224)? -/
def State.heldAtBar (s : State) (at_ : BarAt) (g : Group) : Bool :=
  let x := s.barrier at_
  let in_ := x.isOpen && x.arrived.contains (partyOf at_ g)
  (in_ && g.heldLanes at_ != 0#32)
    || (g.executedBar at_.slot != 0#32 && g.reachedBar at_.slot
      && (in_ || g.waitingMask at_.place &&& g.executedBar at_.slot != 0#32))

/-- What holds a group in a wait (spec/09 R226): a fault, an operation in flight, a barrier; or the debugger's stop. -/
def State.waitFor (s : State) (key : Nat) (g : Group) : Option WaitKind :=
  if g.fault.isSome then some .fault
  else match s.ops.findSome? fun p => if p.2.group != key then none else match p.2.kind with
    | .wwait _ _ => some WaitKind.wwait
    | .cbwait _ => some WaitKind.cbwait
    | .twait _ => some WaitKind.twait
    | _ => none with
  | some k => some k
  | none =>
    match (if g.engine != .partition then none else (s.barsFor key g).find? fun at_ => s.heldAtBar at_ g) with
    | some at_ => some (waitKindOf at_.place)
    | none => if g.stop.isSome then some .stop else none

/-- What holds a resident group in a wait. -/
def State.waitOf (s : State) (key : Nat) : Option WaitKind := s.waitFor key (s.group key)

/-- A group's wait brought to what holds it: it begins, goes on, or ends (spec/10 R237). -/
def State.syncWait (s : State) (key : Nat) : State :=
  match s.waitOf key with
  | some k => s.beginWait key k
  | none =>
    if (s.group key).wait.isSome then (s.modGroup key fun g => { g with wait := none }).leaveDormant key else s

/-- A wait ends, unless something else still holds the group. -/
def State.endWait (s : State) (key : Nat) : State := s.syncWait key

/-! ### Arriving -/

/-- Would an arrival with count `a` be a mismatch (spec/07 R173)? -/
def State.barMismatch (s : State) (at_ : BarAt) (a : Nat) : Bool :=
  let x := s.barrier at_
  (x.isOpen && a != x.count) || s.barLimit at_ < (if x.isOpen then x.count else a)

/-- Have the accesses of a group that are older than its executions of a barrier passed their fault points? The group
arrives only then, for no replay may repeat its arrival (spec/07 R147; log 23). -/
def State.barDrained (s : State) (at_ : BarAt) (key : Nat) : Bool :=
  s.ops.all fun p => !(p.2.group == key && barOpOf at_ p.2.kind && s.olderFault key p.2.seq)

/-- The accesses of path L that a group's arrival releases: those in flight that each lane made before it executed the
barrier, and what the group itself waits for from an earlier barrier (spec/07 R175). -/
def State.barOwes (s : State) (at_ : BarAt) (key : Nat) : List Nat :=
  let bars := (s.opsWhere fun o => o.group == key && barOpOf at_ o.kind).map (·.2)
  ((s.opsWhere fun o => o.group == key && o.kind.isAccess && o.kind.path == .l
      && bars.any fun b => o.seq < b.seq && o.lanes &&& b.active != 0#32).map (·.1))
    ++ (s.group key).awaits.flatMap fun w => w.2.filter fun i => (mapGet? s.ops i).isSome

/-- The groups that arrive with the party of a group: at the die barrier, the team's. -/
def State.barMembers (s : State) (at_ : BarAt) (key : Nat) : List Nat :=
  match at_ with
  | .die _ _ => (s.teamGroups (s.group key).team).map (·.1)
  | .team _ _ | .cluster _ _ => [key]

/-- The party of a group arrives with count `a`; the BARAs of the group complete (spec/07 R148). -/
def State.barArrive (s : State) (at_ : BarAt) (key a : Nat) : State :=
  let slot := at_.slot
  let x := s.barrier at_
  let x := if x.isOpen then x else ⟨true, a, [], []⟩
  let members := s.barMembers at_ key
  let s := s.setBarrier at_ { x with
    arrived := x.arrived ++ [s.barParty at_ key]
    owes := x.owes ++ members.flatMap fun k => s.barOwes at_ k }
  members.foldl (fun (s : State) (k : Nat) =>
    ((s.modGroup k fun g => { g with barExec := mapDel g.barExec slot, replayFrom := max g.replayFrom (s.barEnd at_ k) }).completeWhere
      k fun o => match at_ with
      | .team _ b => o == .barArrive b
      | .cluster _ _ | .die _ _ => false).syncWait k) s

/-- Is the party of a group ready to arrive: every lane that has not exited has executed the barrier, earlier accesses
are past their fault points, and it is not among the arrived of an open barrier? A team needs its every group (spec/07
R174). -/
def State.barReady (s : State) (at_ : BarAt) (key : Nat) : Bool :=
  let x := s.barrier at_
  !(x.isOpen && x.arrived.contains (s.barParty at_ key)) && match at_ with
  | .team _ _ | .cluster _ _ => (s.group key).reachedBar at_.slot && s.barDrained at_ key
  | .die _ _ => (s.liveGroupsOf (s.group key).team).all fun p => p.2.reachedBar at_.slot && s.barDrained at_ p.1

/-- Had a group reached a barrier as it executed it with an operation, no lane having exited since? -/
def Group.reachedAt (g : Group) (at_ : BarAt) (o : Op) : Bool :=
  match g.snaps.find? fun p => p.1 == o.seq with
  | some (_, p) => ~~~p.exited &&& ~~~((mapGet p.barExec at_.slot (0#32, 0)).1 ||| o.active) == 0#32
  | none => false

/-- A group arrives if it is ready; a mismatch is the precise trap of its last execution of the barrier, whose detail
is the barrier's number; BARC and BARD have none, and the model gives 0 and 1 (spec/07 R173, spec/08 R216; log 86). Where
its arrival has waited for older fault points, what its later words have done meanwhile is undone. -/
def State.arrive (s : State) (at_ : BarAt) (key : Nat) : State :=
  let g := s.group key
  if g.executedBar at_.slot = 0#32 then s
  else if !s.barReady at_ key then s.syncWait key
  else
    let a := g.countBar at_.slot
    if s.barMismatch at_ a then
      match s.barLast at_ key with
      | some o =>
        let s := if g.reachedAt at_ o then s.rewind key o.seq else s
        ((s.modGroup key fun g => { g with barExec := mapDel g.barExec at_.slot }).takeTrap key
          o.pc (o.active &&& g.liveMask) 0x0A#8 (BitVec.ofNat 32 (at_.slot % 8))).syncWait key
      | none => s
    else s.barArrive at_ key a

/-! ### Completing -/

/-- The lanes a group holds at a barrier it has arrived at return to the table, its epoch advances, and its later
accesses of path L wait for what the arrived groups' release covers (spec/07 R175). -/
def Group.passBarrier (g : Group) (at_ : BarAt) (owes : List Nat) : Group :=
  let m := g.heldLanes at_
  if m = 0#32 then g
  else
    let out := (g.waiting.filter fun x => x.place = at_.place).map fun x => (x.pc, x.lanes &&& m)
    let g := { g with
      waiting := (g.waiting.map fun (x : WaitingLanes) => if x.place = at_.place then { x with lanes := x.lanes &&& ~~~m } else x).filter
        fun x => x.lanes != 0#32
      snaps := g.snaps.map fun (p : Nat × PathState) => (p.1, p.2.passBar at_.place m)
      awaits := if owes.isEmpty then g.awaits else g.awaits ++ [(g.seq, owes)] }
    (g.placeAll (out.filter fun x => x.2 != 0#32)).nextEpoch

/-- A resident group that has arrived is released from a barrier; the acquire of R175 refreshes its core's L1 (spec/11
R260). -/
def State.releaseAt (s : State) (at_ : BarAt) (owes : List Nat) (key : Nat) : State :=
  let g := s.group key
  let g := { g with awaits := g.awaits.filter fun w => w.2.any fun i => (mapGet? s.ops i).isSome }
  let s := s.setGroup key (g.passBarrier at_ owes)
  let s := s.endBarOps at_ key
  if g.heldLanes at_ = 0#32 then s.syncWait key else (s.syncWait key).refreshL1 (coreOf key)

/-- A swapped-out team with groups that were held at a barrier that has completed is ready to return (spec/09 R228). -/
def Team.releaseSaved (t : Team) (at_ : BarAt) (arrived owes : List Nat) : Team :=
  let passes (g : Group) : Bool := arrived.contains (partyOf at_ g) && g.heldLanes at_ != 0#32
  if t.saved.any (fun p => passes p.2) then
    { t with
      saved := t.saved.map fun (p : Nat × Group) => (p.1, if passes p.2 then { p.2.passBarrier at_ owes with
          wait := if p.2.fault.isSome then p.2.wait else none } else p.2)
      ready := true }
  else t

/-- The teams a barrier may release. -/
def State.barTeams (s : State) : BarAt → List Nat
  | .team t _ => [t]
  | .cluster c grid => s.teamsOn grid c
  | .die d grid => (s.teams.filter fun t => t.2.grid = grid && t.2.core / 32 = d && !t.2.ended).map (·.1)

/-- The groups of a barrier's teams, in age order of their teams. -/
def State.barGroups (s : State) (at_ : BarAt) : List Nat :=
  (s.barTeams at_).flatMap fun t => (s.teamGroups t).map (·.1)

/-- A barrier completes: it closes, and the groups that have arrived are released. -/
def State.barComplete (s : State) (at_ : BarAt) : State :=
  let x := s.barrier at_
  let owes := x.owes.filter fun i => (mapGet? s.ops i).isSome
  let s := s.setBarrier at_ Barrier.closed
  let ts := s.barTeams at_
  let s : State := { s with teams := s.teams.map fun (p : Nat × Team) =>
    (p.1, if ts.contains p.1 then p.2.releaseSaved at_ x.arrived owes else p.2) }
  ((s.barGroups at_).filter fun k => x.arrived.contains (s.barParty at_ k)).foldl (fun s k => s.releaseAt at_ owes k) s

/-- A barrier that has become full completes, and groups held because they had reached it again repeat their arrival, as
often as that fills it (spec/07 R173). -/
def settleBar (at_ : BarAt) : Nat → State → State
  | 0, s => s
  | n + 1, s =>
    let x := s.barrier at_
    if x.isOpen && s.barFull at_ x then
      let s := s.barComplete at_
      settleBar at_ n ((s.barGroups at_).foldl (fun (s : State) k => s.arrive at_ k) s)
    else s

/-- A barrier looked at again. -/
def State.barCheck (s : State) (at_ : BarAt) : State := settleBar at_ 3 s

/-- A group arrives if it is ready, and the barrier completes if that fills it. -/
def State.tryArrive (s : State) (at_ : BarAt) (key : Nat) : State := (s.arrive at_ key).barCheck at_

/-- The barriers of a group tried again, as when lanes have exited or an access has passed its fault point, in the
order of its executions of them; the die barrier for each group of the team, which may wait for this one alone. -/
def State.checkBarriers (s : State) (key : Nat) : State :=
  if (s.group key).engine != .partition then s
  else
    let last (at_ : BarAt) : Nat := s.barEnd at_ key
    (sortBy (s.barsOf key) fun a b => last a ≤ last b).foldl (fun (s : State) at_ =>
      (s.barMembers at_ key).foldl (fun (s : State) k => s.tryArrive at_ k) s) s

/-- Lanes exit (spec/02 R43). -/
def State.exitLanes (s : State) (key : Nat) (m : LaneMask) : State :=
  let s := s.modGroup key fun g => { (g.pullLanes m) with exited := g.exited ||| m }
  let s := s.checkJoins key
  let s := s.checkBarriers key
  s.checkRelease key

/-! ## Byte-counting barriers (spec/07 R178) -/

/-- Settle(b). -/
def ByteBarrier.settle (b : ByteBarrier) : ByteBarrier :=
  let b := if b.balance < -(2 ^ 47) || 2 ^ 47 ≤ b.balance then { b with overrun := true } else b
  if b.posted && b.balance == 0 then { b with posted := false } else b

/-- A post of n bytes. -/
def ByteBarrier.post (b : ByteBarrier) (n : Nat) : ByteBarrier :=
  ByteBarrier.settle { b with balance := b.balance + n, posted := true }

/-- An arrival of n bytes. -/
def ByteBarrier.arrive (b : ByteBarrier) (n : Nat) : ByteBarrier :=
  let b := { b with balance := b.balance - n }
  ByteBarrier.settle (if b.posted && b.balance < 0 then { b with overrun := true } else b)

/-- Does a CBWAIT pass? -/
def ByteBarrier.passes (b : ByteBarrier) : Bool := (!b.posted && b.balance == 0) || b.overrun

/-- A team's byte-counting barrier. -/
def State.byteBar (s : State) (t b : Nat) : ByteBarrier :=
  match s.team? t with
  | some x => vget x.cbs b ByteBarrier.zero
  | none => ByteBarrier.zero

/-- A team's byte-counting barrier set. -/
def State.setByteBar (s : State) (t b : Nat) (x : ByteBarrier) : State :=
  match s.team? t with
  | some u => s.setTeam t { u with cbs := u.cbs.setIfInBounds b x }
  | none => s

/-- Landings of a team, resident or swapped out, that meet a test become visible to LDX (spec/03 R77). -/
def State.showLandedOf (s : State) (t : Nat) (test : DeepLanding → Bool) : State :=
  { s with
    groups := s.groups.map fun (p : Nat × Group) =>
      (p.1, if p.2.engine = .partition && p.2.team = t then p.2.showLanded test else p.2)
    teams := s.teams.map fun (x : Nat × Team) => if x.1 = t then
      (x.1, { x.2 with saved := x.2.saved.map fun (p : Nat × Group) => (p.1, p.2.showLanded test) }) else x }

/-- A resident group's CBWAIT that passes completes, or ends with the barrier-overrun trap at its own address, once no
older access of the group may still fault; landings of the copies it counted are then visible to the group (spec/03
R77, spec/07 R178, spec/08 R210; log 88). -/
def State.cbWake (s : State) (id : Nat) (o : Op) (b : Nat) : State :=
  let t := (s.group o.group).team
  let x := s.byteBar t b
  if !x.passes || (x.overrun && s.olderFault o.group o.seq) then s
  else
    let s := s.modGroup o.group Group.nextEpoch
    let s := (s.completeOp id).endWait o.group
    if x.overrun then
      (s.setByteBar t b ByteBarrier.zero).takeTrap o.group o.pc o.lanes 0x0B#8 (BitVec.ofNat 32 b)
    else s.modGroup o.group fun g => g.showLanded fun x => x.cb == some b

/-- Every CBWAIT of a team on a barrier tested again; a swapped-out team with a satisfied one is ready to return. -/
def State.cbCheck (s : State) (t b : Nat) : State :=
  let s := (s.ops.filter fun p => p.2.kind == .cbwait b && (s.group p.2.group).team == t
      && (mapGet? s.groups p.2.group).isSome).foldl (fun s p => s.cbWake p.1 p.2 b) s
  match s.team? t with
  | some u =>
    if (s.byteBar t b).passes && u.saved.any (fun p =>
        s.ops.any fun q => q.2.group == p.1 && q.2.kind == .cbwait b) then
      s.setTeam t { u with ready := true } else s
  | none => s

/-- Bytes arrive at a team's barrier. -/
def State.cbArrive (s : State) (t b n : Nat) : State :=
  (s.setByteBar t b ((s.byteBar t b).arrive n)).cbCheck t b

end Sys2Proof.Machine
end

