-- ==== Sys2Proof/Machine/Faults.lean ====
section
/-! DEFINITION. Replayable faults (spec/02 R33, spec/03 R70, spec/07 R147, R157, spec/08 R215, R389, spec/09 R225):
going back to the faulting instruction, the record, and the handler's call; and the events of the command cores. -/

namespace Sys2Proof.Machine

/-! ## The event queue (spec/14 R275) -/

/-- An event's 64 bits. -/
def eventWord (kind queue data : Nat) : DWord := BitVec.ofNat 64 (kind * 2 ^ 56 + queue * 2 ^ 48 + data % 2 ^ 48)

/-- An event posted; a source that finds the queue full holds its event. -/
def State.postEvent (s : State) (e : DWord) : State :=
  if s.events.length < 4096 && s.heldEvts.isEmpty then { s with events := s.events ++ [e] }
  else { s with heldEvts := s.heldEvts ++ [e] }

/-- An event of a management message (KIND 0x07): the spec gives it neither a queue nor a launch, so the rest is free
(log 4). -/
def State.mgmtEvent (s : State) : State :=
  (s.postEvent (BitVec.ofNat 64 (0x07 * 2 ^ 56 + (Config.freeValue s.freeCtr).toNat % 2 ^ 56))).tookFree

/-- Does a certificate lie in the operator roster (spec/21 R377; log 14)? -/
def Identity.operator (x : Identity) (cert : List Byte) : Bool :=
  if x.opSet then x.opRoster.contains cert else Config.factoryOperator cert

/-- Is a requester inside a secure session whose certificate lies in the operator roster (spec/21 R377)? -/
def State.accepts (s : State) (requester : Nat) : Bool := match mapGet? s.ident.secure requester with
  | some cert => s.ident.operator cert
  | none => false

/-- A management command: it has its effect when its requester is accepted once the package is ready (spec/21 R369 step
12, R377), and reaches the command cores as an event; another is answered as refused. -/
def State.command (s : State) (requester : Nat) (f : State → State) : State :=
  if s.boot.ready && s.accepts requester then (f s).mgmtEvent else s.send (.refusedCmd 0)

/-- An event about a launch: %grid in DATA[31:0]; the spec gives no kind's detail, so DATA[47:32] is free (log 4). -/
def State.launchEvent (s : State) (kind grid : Nat) : State :=
  let q := match s.launch? grid with
    | some l => l.queue
    | none => 0
  (s.postEvent (eventWord kind q
    (grid % 2 ^ 32 + (Config.freeValue s.freeCtr).toNat % 2 ^ 16 * 2 ^ 32))).tookFree

/-! ## Records (spec/07 R157, spec/08 R215) -/

/-- What a record says of an access. -/
structure FaultAt where
  va     : VAddr
  cause  : BitVec 8
  write  : Bool
  fetch  : Bool
  atomic : Bool
  path   : AccPath
  pa     : Nat
  pc     : DWord
  core   : Nat
  slot   : Nat
  lanes  : LaneMask
  deriving DecidableEq, Repr

/-- The 64 bytes of a fault-ring record. -/
def FaultAt.bytes (f : FaultAt) (timer : DWord) : List Byte :=
  leBytes 10 f.va.toNat ++ leBytes 1 f.cause.toNat
    ++ leBytes 1 ((if f.write then 1 else 0) + (if f.fetch then 2 else 0) + (if f.atomic then 4 else 0)
      + 16 * f.path.code)
    ++ leBytes 4 0 ++ leBytes 8 f.pa ++ leBytes 8 f.pc.toNat ++ leBytes 2 f.core ++ leBytes 1 f.slot
    ++ leBytes 1 0 ++ leBytes 4 f.lanes.toNat ++ leBytes 8 timer.toNat ++ leBytes 8 0 ++ leBytes 8 0

/-- The address of record `i` of a context's fault ring or acknowledgement ring (spec/08 R389). -/
def Context.recordAt (c : Context) (ack : Bool) (i : Nat) : VAddr :=
  vaddr c.fhSpace (if ack then c.aring + BitVec.ofNat 64 (64 * (i % 2 ^ c.arLog))
    else c.fring + BitVec.ofNat 64 (64 * (i % 2 ^ c.frLog)))

/-- Bytes stored at a physical address by the device itself, visible to every die: in host memory over the host link,
where an error drops them (spec/11 R254, spec/21 R378). -/
def State.devicePut (s : State) (pa : Nat) (bytes : List Byte) : State :=
  match placeOf s pa with
  | .regs => s.writeRegs (offsetOf pa) bytes
  | .hostMem => s.storeHostMem pa bytes
  | .absent => s
  | .near | .far | .cream | .hostWindow => s.storeGA 0 256 true 0 pa bytes

/-- Bytes stored at a virtual address by the device itself, visible to every die; none when the address faults. A walk
that a page's migration holds keeps the store until it ends (spec/15 R300, R303; log 75). -/
def State.deviceStore (s : State) (ctx : Nat) (va : VAddr) (bytes : List Byte) : Option State :=
  let hold : State := { s with heldStores := s.heldStores ++ [(ctx, va, bytes)] }
  match s.walk ctx va .write with
  | .ok pa k _ big => some (if s.pageFrozen pa then hold else (s.noteKey pa k big).devicePut pa bytes)
  | .hold => some hold
  | .fault _ _ => none

/-- Is an access of the device at an address kept back by a page's migration? -/
def State.deviceHeld (s : State) (ctx : Nat) (va : VAddr) (need : Need) : Bool := match s.walk ctx va need with
  | .ok pa _ _ _ => s.pageFrozen pa
  | .hold => true
  | .fault _ _ => false

/-- Does a store of the device at a virtual address meet poison (spec/08 R389)? -/
def State.devicePoison (s : State) (ctx : Nat) (va : VAddr) : Bool := match s.walk ctx va .write with
  | .ok pa _ _ _ => s.poisonAt pa
  | .hold | .fault _ _ => false

/-- A record put into a context's ring: the state and its index; none when the fault is resolved as END without a
handler (spec/08 R389). -/
def State.record (s : State) (ctx : Nat) (ack : Bool) (bytes : List Byte) : Option (State × Nat) :=
  match s.context ctx with
  | none => none
  | some c =>
    if c.fhDesc = 0#64 then none
    else
      let i := if ack then c.arIndex else c.frIndex
      match (if s.devicePoison ctx (c.recordAt ack i) then none else s.deviceStore ctx (c.recordAt ack i) bytes) with
      | none => none
      | some s =>
        let c := if ack then { c with arIndex := (i + 1) % 2 ^ 32, unresA := c.unresA ++ [i] }
          else { c with frIndex := (i + 1) % 2 ^ 32, unresF := c.unresF ++ [i] }
        some (({ s with contexts := mapSet s.contexts ctx c }).later (.faultResolution ctx), i)

/-! ## A group's fault -/

/-- A group's fault is resolved as END (spec/09 R225): its team ends; the program of another engine ends as at a
trap. -/
def State.endFault (s : State) (key : Nat) (cause : BitVec 8) : State :=
  let g := s.group key
  match g.engine with
  | .partition => s.haltTeam g.team (causeCode cause)
  | .churn | .circuit | .command => s.takeTrap key g.trap.pc 0xFFFFFFFF#32 cause 0#32

/-- The core number and slot a record names (spec/08 R215). -/
def recordCore (g : Group) (key : Nat) : Nat := if g.engine = .partition then coreOf key else 0xFFFF

/-- A group becomes replayable at instruction `n` of the path at `pc` (spec/08 R215, spec/09 R225). -/
def State.faultGroup (s : State) (key n : Nat) (f : FaultAt) : State :=
  let g := s.group key
  let grid := s.gridOf key
  let f := { f with core := recordCore g key, slot := key % 64 }
  let s := s.rollback key n
  match s.record g.ctx false (f.bytes s.timer) with
  | none => s.endFault key f.cause
  | some (s, i) =>
    let s := (s.modGroup key fun g => { g with fault := some ⟨f.cause, i, false, f.pc, f.lanes, n, .noRecord⟩ }).beginWait key .fault
    s.launchEvent 0x04 grid

/-- Poison reaches a register of a group (spec/21 R366): its team ends with 0x0130; the program of another engine ends
as at a trap. -/
def State.consumePoison (s : State) (key : Nat) : State :=
  let g := s.group key
  match g.engine with
  | .partition => s.haltTeam g.team 0x0130#16
  | .churn | .circuit | .command => s.takeTrap key g.trap.pc 0xFFFFFFFF#32 0x30#8 0#32

end Sys2Proof.Machine
end

