-- ==== Sys2Proof/Machine/Access.lean ====
section
/-! DEFINITION. Accesses of operations in flight (spec/07 R145-R157, spec/10 R234, R235, spec/11 R246-R262): fault
points, what holds an access back, the value a load binds, what a store does, and lane transactions. -/

namespace Sys2Proof.Machine

end Sys2Proof.Machine

namespace Sys2Proof

open Machine

/-- Scopes that reach beyond a compute die. -/
def Scope.beyondDie : Scope → Bool
  | .package | .fabric => true
  | _ => false

/-- The scope a release or a fence has on an engine (spec/07 R152): on the circuit processor and the command cores
every scope below package acts as package scope. -/
def Scope.onEngine (e : EngineKind) (s : Scope) : Scope :=
  match e with
  | .partition | .churn => s
  | .circuit | .command => if s = .fabric then .fabric else .package

end Sys2Proof

namespace Sys2Proof.Machine

/-- Accesses that act: not those a PREF or an aborted lane gave up. -/
def Op.acting (o : Op) : List Access := o.acc.filter fun a => !a.skip

/-- The acting accesses of an operation that have not performed. -/
def Op.toDo (o : Op) : List Access := o.acting.filter fun a => !a.bound

/-- Are two operations of one group by one party: lanes in common, or both of the uniform pipe (spec/11 R256)? -/
def Op.sameParty (o p : Op) : Bool := o.uni == p.uni && (o.uni || o.active &&& p.active != 0#32)

/-- The physical address an access has, or would have now. -/
def State.physNow (s : State) (o : Op) (a : Access) : Option Nat := match a.pa with
  | some p => some p.toNat
  | none => if o.kind.remote then none else s.whereIs (dieOf o.group) (s.group o.group).ctx a.va

/-- Do accesses of two operations of a group touch a byte in common, under one virtual address or as synonyms (spec/07
R146)? -/
def State.touches (s : State) (o : Op) (a : Access) (p : Op) (b : Access) : Bool :=
  a.peer == b.peer && (overlaps a.va.toNat a.size b.va.toNat b.size
    || match s.physNow o a, s.physNow p b with
      | some x, some y => overlaps x a.size y b.size
      | _, _ => false)

/-- Does an access of one lane of `o` touch a byte that some lane's access of `p` does? -/
def State.sameBytes (s : State) (o p : Op) : Bool := o.acc.any fun a => p.acc.any fun b => s.touches o a p b

/-- Does an access reach host memory (path H, spec/11 R254), as far as its translation says? -/
def State.toHost (s : State) (o : Op) (a : Access) : Bool := o.kind.path == .l && match s.physNow o a with
  | some pa => placeOf s pa == .hostMem
  | none => false

/-! ## What holds an access back -/

/-- The compute dies that hold a copy of a physical line, in an L1 or in their base die's slice (spec/11 R249). -/
def State.isSharer (s : State) (pline die : Nat) : Bool :=
  s.slices.any (fun l => l.pline == pline && l.base == baseOf die)
    || s.l1.any fun p => p.1 / 32 == die && p.2.any fun l => l.pline == pline

/-- Has an operation an access still to perform to a physical line? -/
def Op.onLine (o : Op) (pline : Nat) : Bool := o.acc.any fun a => !a.skip && !a.bound && match a.pa with
  | some q => lineOf q.toNat == pline
  | none => false

/-- Is a line held at its home, from a die, by a store that lacks acknowledgements (spec/11 R262)? -/
def State.lineHeld (s : State) (die pline : Nat) : Bool :=
  s.ops.any fun p => p.2.mask != 0#8 && !p.2.mask.getLsbD die && p.2.onLine pline

/-- Stores, atomics and reductions that are complete when every die sees them (spec/07 R154). -/
def OpKind.isGA : OpKind → Bool
  | .store .ga _ | .atom _ .ga _ _ | .red _ .ga _ _ => true
  | _ => false

/-- The number under which a request of a peer package waits at a held line: apart from those of operations and copies. -/
def askToken (peer tag : Nat) : Nat := 2 ^ 64 + 64 * tag + peer % 64

/-- Is a request still in flight: an operation's, a copy's, or a peer's? -/
def State.requestLives (s : State) (i : Nat) : Bool :=
  (mapGet? s.ops i).isSome || (mapGet? s.copies i).isSome || s.peerAsks.any fun p => askToken p.1 p.2.tag == i

/-- Requests that wait, or have waited, at the home of a line, in their order of arrival. -/
def State.lineQueue (s : State) (pline : Nat) : List Nat := (mapGet s.heldLines pline []).filter s.requestLives

/-- Does a die lack an acknowledgement of the store that holds a line? It goes on with its old copy (spec/11 R262). -/
def State.keepsOld (s : State) (die pline : Nat) : Bool := s.ops.any fun p => p.2.mask.getLsbD die && p.2.onLine pline

/-- Is a request turned to at the home of a line: the line is not held from its die, and no request that arrived earlier
waits there still? -/
def State.lineTurn (s : State) (die pline id : Nat) : Bool :=
  !s.lineHeld die pline && match s.lineQueue pline with
    | [] => true
    | i :: _ => i == id || s.keepsOld die pline

/-- The same for one who reads there with no number: it goes when nothing waits (log 98). -/
def State.lineFree (s : State) (die pline : Nat) : Bool :=
  !s.lineHeld die pline && ((s.lineQueue pline).isEmpty || s.keepsOld die pline)

/-- The same for an operation, which a store that holds the line is itself. -/
def State.lineServes (s : State) (o : Op) (pline : Nat) : Bool :=
  o.mask != 0#8 || (!s.lineHeld (dieOf o.group) pline && match s.lineQueue pline with
    | [] => true
    | i :: _ => s.keepsOld (dieOf o.group) pline || match mapGet? s.ops i with
      | some p => p.group == o.group && p.seq == o.seq
      | none => false)

/-- Is it frozen for an operation? Of the forwarded requests the first to have arrived goes. -/
def State.frozenFor (s : State) (o : Op) (pa : Nat) : Bool :=
  s.migs.any fun m => m.keeps pa && !(m.moved && match m.heldOps with
    | id :: _ => (match mapGet? s.ops id with
      | some p => p.group == o.group && p.seq == o.seq
      | none => false)
    | [] => true)

/-- The links that traffic from one base die to another crosses (spec/01 R10), and the other way round the ring. -/
def linkRoute : Nat → Nat → List Nat × List Nat
  | 0, 1 | 1, 0 => ([0], [3, 2, 1])
  | 1, 3 | 3, 1 => ([1], [0, 3, 2])
  | 3, 2 | 2, 3 => ([2], [1, 0, 3])
  | 2, 0 | 0, 2 => ([3], [2, 1, 0])
  | 0, 3 | 3, 0 => ([0, 1], [3, 2])
  | 1, 2 | 2, 1 => ([0, 3], [1, 2])
  | _, _ => ([], [])

/-- The state of a link. -/
def State.linkState (s : State) (k : Nat) : Nat := (vget s.links k Link.reset).state

/-- Does traffic pass between two base dies now? Only a down link changes the route (spec/01 R10, spec/18 R344). -/
def State.routeUp (s : State) (a b : Nat) : Bool :=
  let r := linkRoute a b
  let way := if r.1.any fun k => s.linkState k == 3 then r.2 else r.1
  a == b || way.all fun k => s.linkState k == 1

/-! ### Requests over the links (spec/18 R340, R343, R344) -/

/-- The base dies in the order of the ring of links: link k joins the k-th to the next (spec/18 R340). -/
def ringBase (k : Nat) : Nat := [0, 1, 3, 2].getD (k % 4) 0
/-- The place of a base die in the ring. -/
def ringPos (b : Nat) : Nat := if b = 2 then 3 else if b = 3 then 2 else b

/-- The links that traffic from one base die to another crosses one way round the ring, upwards in their numbers or
downwards. -/
def ringWay (a b : Nat) (up : Bool) : List Nat :=
  let n := if up then (4 + ringPos b - ringPos a) % 4 else (4 + ringPos a - ringPos b) % 4
  (List.range n).map fun i => if up then (ringPos a + i) % 4 else (ringPos a + 7 - i) % 4

/-- Is no link of a way down? -/
def State.wayOpen (s : State) (a b : Nat) (up : Bool) : Bool := (ringWay a b up).all fun k => s.linkState k != 3

/-- Which way round traffic from one base die to another goes upwards as R10 (spec/01) fixes it. -/
def fixedUp (a b : Nat) : Bool := (linkRoute a b).1.contains (ringPos a)

/-- The way that a message between two base dies takes now; none when they have no route. -/
def State.wayNow (s : State) (a b : Nat) : Option Bool :=
  let up := fixedUp a b
  if s.wayOpen a b up then some up else if s.wayOpen a b (!up) then some (!up) else none

/-- The number of an operation in flight. -/
def State.idOf (s : State) (o : Op) : Option Nat :=
  (s.ops.find? fun p => p.2.group == o.group && p.2.seq == o.seq && p.2.kind == o.kind).map (·.1)

/-- The request of a lane of an operation over the links. -/
def State.reqOf (s : State) (o : Op) (lane : Nat) : Option Req :=
  (s.idOf o).bind fun i => s.reqs.find? fun r => r.op == i && r.lane == lane

/-- Does an operation still wait for responses over the links (spec/18 R343)? -/
def State.owesAnswers (s : State) (id : Nat) : Bool := s.reqs.any fun r => r.op == id

/-- Operations each lane of which performs by itself (spec/11 R255); over the links each has a request of its own. -/
def OpKind.byLane : OpKind → Bool
  | .load _ _ _ | .store _ _ | .atom _ _ _ _ | .red _ _ _ _ => true
  | _ => false

/-- Does traffic pass between a compute die and the home of a physical address? -/
def State.homeReached (s : State) (die pa : Nat) : Bool := s.routeUp (baseOf die) (homeBase pa)

/-- The dies whose acknowledgement of a GA store, at its home, is missing for now: they hold a copy of the line, or
have been reported, and no link brings their answer (spec/07 R156). -/
def State.missingAcks (s : State) (o : Op) (a : Access) : BitVec 8 :=
  match a.pa with
  | some p =>
    if !o.kind.isGA || !o.left then 0#8
    else (List.range 8).foldl (fun (m : BitVec 8) d =>
      if d != dieOf o.group && (if o.mask != 0#8 then o.mask.getLsbD d else s.isSharer (lineOf p.toNat) d)
          && !s.routeUp (homeBase p.toNat) (baseOf d) then m ||| (1#8 <<< d) else m) 0#8
  | none => 0#8

/-- Serialised transactions: group, lane, record (spec/07 R172). -/
def State.serialised (s : State) : List (Nat × Nat × Tx) :=
  s.groups.flatMap fun p => (List.range 32).filterMap fun n =>
    match laneOf p.2.tx n with
    | some t => if t.serialised then some (p.1, n, t) else none
    | none => none

/-- Is a line granted to a serialised attempt of another lane? -/
def State.lineGranted (s : State) (key lane pline : Nat) : Bool :=
  s.serialised.any fun x => !(x.1 == key && x.2.1 == lane) && x.2.2.lines.any fun l => l.2 == pline

/-- Does an access of a lane wait at the slice for a serialised attempt: a plain store or atomic to its lines, or the
first access of another serialised attempt at its slice? -/
def State.waitsAtSlice (s : State) (o : Op) (a : Access) : Bool :=
  match a.pa with
  | none => false
  | some p =>
    let g := s.group o.group
    match (if o.uni then none else laneOf g.tx a.lane) with
    | none => o.kind.need != .read && s.lineGranted o.group a.lane (lineOf p.toNat)
    | some t => t.serialised && t.lines.isEmpty && s.serialised.any fun x =>
        !(x.1 == o.group && x.2.1 == a.lane) && x.2.2.lines.any fun l =>
          homeBase (l.2 * 128) == homeBase p.toNat
            && sliceOf (s.group x.1).ctx l.1 == sliceOf g.ctx (vlineOf a.va)

/-- A core's number for a group that has an L1. -/
def l1Core (key : Nat) : Option Nat := if homeKey key < 0x4000 then some (coreOf key) else none

/-- An access's line found in the L1 or the slice, with the rights of the translation that filled it. -/
def State.hitLine (s : State) (key ctx : Nat) (va : VAddr) : Option (Nat × Rights) :=
  match (match l1Core key with
    | some core => s.l1Hit core ctx va
    | none => none) with
  | some l => some (l.pline, l.rights)
  | none => match s.sliceHit (baseOf (dieOf key)) ctx va with
    | some l => some (l.pline, l.rights)
    | none => none

/-- Is a lane's access in an operation one of the lane's open transaction: between its XBEGIN and its XEND? -/
def State.inTx (s : State) (o : Op) (lane : Nat) : Bool :=
  !o.uni && match laneOf (s.group o.group).tx lane with
  | none => false
  | some t => t.seq < o.seq && !(s.ops.any fun p => p.2.group == o.group && p.2.kind == .xend && p.2.seq < o.seq
      && p.2.active.getLsbD lane)

/-- Is an operation still to perform in a lane? An atomic is until its old value is written. -/
def Op.pendingIn (p : Op) (lane : Nat) : Bool :=
  p.acc.isEmpty || p.acc.any fun b => (p.uni || b.lane == lane) && !b.skip && match p.kind with
    | .load _ _ _ | .store _ _ | .red _ _ _ _ => !b.bound
    | _ => true

/-- Is an operation an acquire in a lane? In a transaction LDA is an LD (spec/07 R168). -/
def State.acquiresIn (s : State) (p : Op) (lane : Nat) : Bool :=
  p.kind.acquires && match p.kind with
    | .load _ _ _ => !s.inTx p lane
    | _ => true

/-- Bytes at a home in the latest state of their coherence order. -/
def State.latestBytes (s : State) (pa n : Nat) : List Byte :=
  match placeOf s pa with
  | .regs => readWith (fun a => s.devByte (offsetOf a)) pa n
  | _ => readWith s.latestByte pa n

/-- Bytes of the element a reduction entry holds. -/
def redBytes (ty : Nat) : Nat := if ty = 6 then 2 else if ty = 7 then 1 else if atTy64 ty then 8 else 4

/-- Pending reductions of bytes (spec/07 R160). -/
def State.redsAt (s : State) (pa n : Nat) : List RedEntry :=
  s.reds.filter fun r => overlaps r.pa (redBytes r.ty) pa n

/-- Has a lower lane of an operation still to perform to a byte in common (spec/07 R145)? -/
def State.lowerFirst (s : State) (o : Op) (a : Access) : Bool := o.toDo.any fun b => b.lane < a.lane && s.touches o a o b

/-- Will a `.cas` fail when it is applied next (spec/07 R158)? Not known while a reduction or a lower lane may still
change its word. -/
def State.casFails (s : State) (o : Op) (a : Access) : Bool := match o.kind, a.pa with
  | .atom .cas _ _ _, some p => (s.redsAt p.toNat a.size).isEmpty && !s.lowerFirst o a
      && leNat (s.latestBytes p.toNat a.size) != a.data.toNat % 2 ^ (8 * a.size)
  | _, _ => false

/-- Is an operation a release in a lane? In a transaction STR is an ST, and a `.cas` that fails is an acquire alone
(spec/07 R159, R168). -/
def State.releasesIn (s : State) (o : Op) (a : Access) : Bool :=
  o.kind.releases.isSome && !s.casFails o a && match o.kind with
    | .store _ _ => !s.inTx o a.lane
    | _ => true

/-- The older operations of an access's party that are still to perform in its lane. -/
def State.aheadOf (s : State) (o : Op) (lane : Nat) : List Op :=
  (s.ops.filter fun p => p.2.group == o.group && p.2.seq < o.seq && o.uni == p.2.uni
    && (o.uni || p.2.active.getLsbD lane) && p.2.pendingIn lane).map (·.2)

/-- The bytes that a lane's plain load reads from its core's store queue: those of the lane's latest earlier access to
any of them, when that is a store of them all that has not performed (spec/11 R248, R255). -/
def State.forwarded (s : State) (o : Op) (a : Access) : Option (List Byte) :=
  match o.kind with
  | .load _ none _ =>
    match ((s.aheadOf o a.lane).filter fun p => p.acc.any fun b => b.lane == a.lane && !b.skip && s.touches o a p b).getLast? with
    | some p => match p.kind, p.acc.find? fun b => b.lane == a.lane with
      | .store _ _, some b =>
        let off := match s.physNow o a, s.physNow p b with
          | some x, some y => (y, x)
          | _, _ => (b.va.toNat, a.va.toNat)
        if p.walked && off.1 ≤ off.2 && off.2 + a.size ≤ off.1 + b.size then
          some (((leBytes b.size b.data.toNat).drop (off.2 - off.1)).take a.size)
        else none
      | _, _ => none
    | none => none
  | _ => none

/-- Does an older operation `p` of the same party keep an access of `o` from performing (spec/11 R256)? -/
def State.behind (s : State) (o : Op) (a : Access) (p : Op) : Bool :=
  let mine := p.acc.filter fun b => b.lane == a.lane && !b.skip
  (mine.any (fun b => s.touches o a p b) && (s.forwarded o a).isNone)
    || s.acquiresIn p a.lane
    || (match p.kind with
      | .fence sc => o.kind.path == .l || (o.kind.remote && sc == .fabric)
      | .xend => true
      | _ => false)
    || (s.releasesIn o a && (p.kind.isAccess || match p.kind with
      | .fence _ => true
      | _ => false))
    || (s.toHost o a && mine.any fun b => s.toHost p b)
    || ((match o.kind with
      | .ffence => true
      | _ => false) && match p.kind with
      | .rst | .ratom _ _ => true
      | _ => false)

/-- Does the acquire of a barrier that its group has passed keep an operation back: an access of path L waits for the
accesses that the arrived groups' release covers (spec/07 R175)? -/
def State.barHeld (s : State) (o : Op) : Bool :=
  (s.group o.group).awaits.any fun w => w.1 ≤ o.seq && w.2.any fun i => (mapGet? s.ops i).isSome && match o.kind with
    | .fence _ => true
    | k => k.isAccess && k.path == .l

/-- Does an operation reach an address of the host window's owner? An access not yet translated may. -/
def Op.maybeHost (o : Op) : Bool := o.acc.any fun a => match a.pa with
  | some p => ownerOf p.toNat == 9
  | none => true

/-- Does an operation reach an address that is not the host window's? -/
def Op.maybeLocal (o : Op) : Bool := o.acc.isEmpty || o.acc.any fun a => match a.pa with
  | some p => ownerOf p.toNat != 9
  | none => true

/-- Does an operation in flight count on a path? A TCOPY counts on P too, for the copy it is about to hand on. -/
def Op.onPath (o : Op) (p : AccPath) : Bool :=
  o.kind.isAccess && match p with
  | .l => o.kind.path == .l && o.maybeLocal
  | .h => o.kind.path == .l && o.maybeHost
  | .c => o.kind.path == .c
  | .x => o.kind.remote
  | .p => match o.kind with
    | .tcopy _ => true
    | _ => false
  | .g => false

/-- Does a FENCEX keep an operation of its second path back, or a DRAIN an operation of any: one issued after it in
its own cycle, by the other path or the uniform pipe (spec/07 R145, R165, R166)? -/
def State.fencedOff (s : State) (o : Op) : Bool := s.ops.any fun p => p.2.group == o.group && p.2.seq < o.seq
  && match p.2.kind with
    | .fencex _ second => o.onPath second
    | .drain _ _ => o.kind.isAccess
    | _ => false

/-- Are a place's lines such as a GA store may hold at their home? -/
def Place.hasLines : Place → Bool
  | .near | .far | .cream | .hostWindow => true
  | .hostMem | .regs | .absent => false

/-- Does an EF store wait at a held line? Its own die sees it all the same (spec/11 R262). -/
def State.parksAt (s : State) (o : Op) (pa : Nat) : Bool :=
  (match o.kind with
    | .store .ef _ | .tdrain => true
    | _ => false) && !s.lineServes o (lineOf pa) && o.mask == 0#8 && (placeOf s pa).hasLines

/-- Is an access a read that its core's L1 or its die's slice serves? -/
def State.readsCache (s : State) (o : Op) (a : Access) : Bool :=
  o.kind.need == .read && (s.hitLine o.group (s.group o.group).ctx a.va).isSome

/-- Does a request wait at its home behind one of its own die to the same line, which came earlier (spec/19 R356)? -/
def State.laterAtHome (s : State) (o : Op) (r : Req) (pline : Nat) : Bool :=
  (s.reqs.takeWhile fun x => !(x.op == r.op && x.lane == r.lane)).any fun x => x.stage == .home && match mapGet? s.ops x.op with
    | some p => dieOf p.group == dieOf o.group && p.toDo.any fun b => b.lane == x.lane && lineOf (b.pa.getD 0#52).toNat == pline
    | none => false

/-- Has an access come to its home: that is on its own base die, or its request has arrived over the links; a read
that a cache serves needs none. A store that has not left its core is not there yet to ask. What performs in one piece
crosses the links while traffic passes (log 34). -/
def State.cameHome (s : State) (o : Op) (a : Access) (pa : Nat) : Bool :=
  if baseOf (dieOf o.group) = homeBase pa || (o.kind.byLane && o.kind.need != .read && !o.left) then true
  else if !o.kind.byLane then s.homeReached (dieOf o.group) pa || s.readsCache o a
  else match s.reqOf o a.lane with
    | some r => r.stage == .home && !s.laterAtHome o r (lineOf pa)
    | none => s.readsCache o a

/-- Does its home serve an access? -/
def State.homeServes (s : State) (o : Op) (a : Access) : Bool := match a.pa with
  | none => true
  | some p =>
    (s.lineServes o (lineOf p.toNat) || s.parksAt o p.toNat) && !s.frozenFor o p.toNat && !s.waitsAtSlice o a
      && s.cameHome o a p.toNat

/-- May one access of an operation perform now? -/
def State.mayAccess (s : State) (o : Op) (a : Access) : Bool :=
  (s.aheadOf o a.lane).all (fun p => !s.behind o a p) && ((s.forwarded o a).isSome || s.homeServes o a)

/-- Has an operation with no access of its own an older one before it? -/
def State.waitsInOrder (s : State) (o : Op) : Bool :=
  s.ops.any fun p => p.2.group == o.group && p.2.seq < o.seq && o.sameParty p.2
    && s.behind o ⟨firstLane o.active, 0#80, 0, 0#128, none, false, false, 0#128, none⟩ p.2

/-- Is a release kept back by a store that its die sees and that waits at a held line? -/
def State.parkedSeen (s : State) (die : Nat) : Bool := s.log.any fun r => r.parked && r.seen.getLsbD die

/-- Has an ENQ, a release of its whole group, an older access of path L of any lane or pipe before it (spec/08 R202)? -/
def State.groupOwes (s : State) (o : Op) : Bool := match o.kind with
  | .enq _ => s.ops.any fun p => p.2.group == o.group && p.2.seq < o.seq && p.2.kind.isAccess && p.2.kind.path == .l
      && (List.range 32).any p.2.pendingIn
  | _ => false

/-- Does nothing keep the whole of an operation back that is past its fault point (spec/07 R147)? -/
def State.opFree (s : State) (o : Op) : Bool :=
  o.walked
    && (!o.kind.heldBack || !s.olderFault o.group o.seq)
    && !s.barHeld o
    && !s.fencedOff o
    && !s.groupOwes o
    && !(o.kind.releases.any Scope.beyondDie && s.parkedSeen (dieOf o.group))

/-- May an operation that is past its fault point perform now, in some lane when its lanes perform by themselves (spec/07
R147, spec/11 R256)? -/
def State.mayPerform (s : State) (o : Op) : Bool :=
  s.opFree o
    && (if o.acc.isEmpty then !s.waitsInOrder o
      else if o.kind.byLane then o.toDo.isEmpty || o.toDo.any fun a => s.mayAccess o a
      else o.acting.all fun a => s.mayAccess o a)

/-- Of accesses of an operation that may perform, those that do now: all of them in rising lane order, or one alone,
as the next free length says: no instruction is atomic across its lanes (spec/11 R255; log 58). A lane never goes
before a lower one that touches a byte in common (spec/07 R145). -/
def State.pickOf (s : State) (o : Op) (may : List Access) (alone : Bool) : List Access :=
  let ready := may.filter fun a => !s.lowerFirst o a
  if s.nextDelay = 1 && !alone then may.foldl (fun (go : List Access) a =>
    if o.toDo.any fun b => b.lane < a.lane && !go.contains b && s.touches o a o b then go else go ++ [a]) []
  else (ready.drop (s.nextDelay % ready.length)).take 1

/-- Do an operation's lanes perform one at a time whatever the lengths: device registers, whose reads and writes act
(spec/00 R6), and the accesses of a serialised attempt, which may make another wait (spec/07 R172)? -/
def State.oneByOne (s : State) (o : Op) : Bool := o.toDo.any fun a =>
  (a.pa.any fun p => placeOf s p.toNat == .regs) || (!o.uni && match laneOf (s.group o.group).tx a.lane with
    | some t => t.serialised
    | none => false)

/-- The accesses of an operation that perform now. -/
def State.lanesNow (s : State) (o : Op) : List Access :=
  s.pickOf o (o.toDo.filter fun a => s.mayAccess o a && s.missingAcks o a = 0#8) (s.oneByOne o)

/-- A GA store at its home whose acknowledgements from some dies are missing holds its lines; one that lacks none any
more holds none (spec/11 R262). -/
def State.holdLines (s : State) (id : Nat) : State :=
  match mapGet? s.ops id with
  | none => s
  | some o =>
    let m := (o.toDo.filter fun a => s.mayAccess o a).foldl (fun (m : BitVec 8) a => m ||| s.missingAcks o a) 0#8
    if m = o.mask then s else s.setOp id { o with mask := m }

/-- A request that nothing but a held line keeps back has reached the home, and waits there in its order of arrival
(spec/11 R262). -/
def State.joinLine (s : State) (pline id : Nat) : State :=
  let q := s.lineQueue pline
  if q.contains id then s else { s with heldLines := mapSet s.heldLines pline (q ++ [id]) }

/-- Does a line keep requests of a die waiting, or do some wait there already? -/
def State.lineBusy (s : State) (die pline : Nat) : Bool := s.lineHeld die pline || !(s.lineQueue pline).isEmpty

/-- An operation that may not perform joins the queues of the held lines of the accesses that would perform otherwise. -/
def State.arriveLines (s : State) (id : Nat) (o : Op) : State :=
  let lines := ((o.toDo.filterMap fun a => a.pa.map fun p => lineOf p.toNat).eraseDups).filter fun l => s.lineBusy (dieOf o.group) l
  let free := { s with heldLines := [], ops := s.ops.map fun (p : Nat × Op) => (p.1, { p.2 with mask := 0#8 }) }
  if lines.isEmpty || !State.mayPerform free o then s
  else lines.foldl (fun (s : State) l => s.joinLine l id) s

/-- Bytes of an access written at once by a TX or a plain store: its physical address. -/
def Access.paNat (a : Access) : Nat := match a.pa with
  | some p => p.toNat
  | none => 0

/-! ## Aborting a lane's transaction -/

/-- A lane's transaction aborts (spec/07 R170): the lane goes to its fallback; its accesses in flight do nothing. -/
def State.abortTx (s : State) (key lane code user : Nat) : State :=
  let g := s.group key
  match laneOf g.tx lane with
  | none => s
  | some t =>
    let m : LaneMask := BitVec.ofNat 32 (2 ^ lane)
    (s.skipTx key lane).setGroup key (((g.abortLane lane code user).abortSnaps t lane).pullLanes m |>.placeAll [(t.fallback, m)])

/-! ## Fault points (spec/07 R147) -/

/-- The need of an access: a transactional store is checked as a commit is. -/
def State.needOf (s : State) (o : Op) (a : Access) : Need :=
  if s.inTx o a.lane && o.kind.need == .write then .both else o.kind.need

/-- What a record says of an access of an operation, with the physical address of a physical-address fault. -/
def Op.faultAt (o : Op) (a : Access) (cause : BitVec 8) (pa : Nat) : FaultAt :=
  ⟨a.va, cause, o.kind.need != .read, false,
    (match o.kind with
      | .atom _ _ _ _ | .red _ _ _ _ => true
      | _ => false), o.kind.path, pa, o.pc, 0, 0, o.lanes⟩

/-- An access of an operation that the translation turns away: a PREF does nothing in that lane, a transaction aborts
with code 8, else the group becomes replayable; but while an older access may still fault nothing is decided (spec/07
R147). The flag says whether the operation goes on. -/
def State.turnAway (s : State) (id : Nat) (o : Op) (a : Access) (cause : BitVec 8) (pa : Nat) : State × Bool :=
  let skip (s : State) : State :=
    match mapGet? s.ops id with
    | some o => s.setOp id { o with acc := o.acc.map fun b => if b.lane = a.lane then { b with skip := true } else b }
    | none => s
  match o.kind with
  | .pref _ => (skip s, true)
  | _ =>
    if s.olderFault o.group o.seq then (s, false)
    else if s.inTx o a.lane then (s.abortTx o.group a.lane 8 0, true)
    else (s.faultGroup o.group o.seq (o.faultAt a cause pa), false)

/-- The physical address of an access of an operation recorded. -/
def State.setPa (s : State) (id : Nat) (a : Access) (pa : Nat) : State :=
  match mapGet? s.ops id with
  | some o => s.setOp id { o with acc := o.acc.map fun b =>
      if b.lane = a.lane && b.va = a.va then { b with pa := some (BitVec.ofNat 52 pa) } else b }
  | none => s

/-- A near or far line enters its slice; a synonym's line enters no cache (spec/11 R250). -/
def State.fillSlice (s : State) (key ctx : Nat) (va : VAddr) (pa mkey : Nat) (r : Rights) : State :=
  match placeOf s pa with
  | .near | .far =>
    if s.isSynonym ctx (lineOf pa) (vlineOf va) then s
    else (s.register ctx (lineOf pa) (vlineOf va)).slicePut (baseOf (dieOf key)) ctx va (lineOf pa) mkey r
  | _ => s

/-- Each access of an operation looked up in turn; the flag says whether all passed their fault points. `full` asks the
translation unit where no cache holds the line. -/
def walkAccesses (full : Bool) (id : Nat) : List Access → State → State × Bool
  | [], s => (s, true)
  | a :: t, s =>
    match mapGet? s.ops id with
    | none => (s, false)
    | some o =>
      if a.skip || a.pa.isSome then walkAccesses full id t s
      else
        let ctx := (s.group o.group).ctx
        match (if o.kind.path == .l then s.hitLine o.group ctx a.va else none) with
        | some (pl, r) =>
          if r.cover (s.needOf o a) then walkAccesses full id t (s.setPa id a (pl * 128 + a.va.toNat % 128))
          else
            let (s, go) := s.turnAway id o a 0x21#8 0
            if go then walkAccesses full id t s else (s, false)
        | none =>
          if !full then (s, false)
          else match s.translate (dieOf o.group) ctx a.va (s.needOf o a) with
            | .hold => (s, false)
            | .fault c pa =>
              let (s, go) := s.turnAway id o a c pa
              if go then walkAccesses full id t s else (s, false)
            | .ok pa k r big =>
              let s := (s.tluFill (dieOf o.group) ctx a.va pa k r big).setPa id a pa
              walkAccesses full id t (if o.kind.path == .l then s.fillSlice o.group ctx a.va pa k r else s)

/-- An operation's accesses taken as far as they go; past its fault point the operation is so marked, and its next
phase follows after a delay. -/
def State.walkOp (s : State) (full : Bool) (id : Nat) : State :=
  match mapGet? s.ops id with
  | none => s
  | some o =>
    let (s, done) := walkAccesses full id o.acc s
    match mapGet? s.ops id with
    | none => s
    | some o =>
      let s := (s.setOp id { o with walked := done, due := s.now + s.nextDelay }).tookDelay
      let s := if done && !(s.group o.group).barExec.isEmpty then s.checkBarriers o.group else s
      if done then s.checkRelease o.group else s

/-! ## The L1 on path L (spec/11 R248, spec/10 R234, R235) -/

/-- Does an address lie in host memory outside the coherent window: an access there is of path H and looks in no L1
(spec/11 R259)? -/
def State.isHostVa (s : State) (die ctx : Nat) (va : VAddr) : Bool := match s.whereIs die ctx va with
  | some pa => placeOf s pa = .hostMem
  | none => false

/-- The path-L accesses of a word sampled by its group's filter (spec/10 R234), which may make the core's sum exceed its
budget (R238). -/
def State.sampleAccesses (s : State) (key : Nat) (acc : List Access) : State :=
  let g := s.group key
  let near := acc.filter fun a => !s.isHostVa (dieOf key) g.ctx a.va
  if g.engine != .partition then s
  else (s.modGroup key fun g => { g with lease := g.lease.sample (near.map fun a => vlineOf a.va) }).checkOverrun (coreOf key)

/-- An access of path L reaches its core's L1: a hit updates the line's owner, a miss looks the victim store up. -/
def State.touchL1 (s : State) (key ctx : Nat) (va : VAddr) : State :=
  match l1Core key with
  | none => s
  | some core =>
    let owner := (key, (s.group key).occ)
    if (s.l1Hit core ctx va).isSome then
      { s with l1 := mapSet s.l1 core ((s.l1Of core).map fun l =>
          if l.ctx = ctx && l.vline = vlineOf va then { l with owner := owner, lastUse := s.now } else l) }
    else
      let vs := mapGet s.victims core []
      match vs.find? fun v => v.ctx = ctx && v.vline = vlineOf va with
      | none => s
      | some v =>
        let s := { s with victims := mapSet s.victims core (vs.filter fun w => !(w.ctx = ctx && w.vline = vlineOf va)) }
        s.lostLocality v.owner

/-- A load miss or a PREF of hint 0 puts the line into the core's L1. -/
def State.fillL1 (s : State) (key ctx : Nat) (va : VAddr) (pa hint : Nat) (r : Rights) : State :=
  match l1Core key with
  | none => s
  | some core =>
    let cached := match placeOf s pa with
      | .near | .far | .cream | .hostWindow => true
      | .hostMem | .regs | .absent => false
    if !cached || (s.l1Hit core ctx va).isSome || s.isSynonym ctx (lineOf pa) (vlineOf va) then s
    else (s.register ctx (lineOf pa) (vlineOf va)).l1Put core
      ⟨ctx, vlineOf va, lineOf pa, readWith (s.viewByte (dieOf key)) (lineOf pa * 128) 128, r, hint, s.now,
        (key, (s.group key).occ), s.poisonAt pa⟩

/-- Rights of the translation of an address, none of them when it has gone. -/
def State.rightsOf (s : State) (die ctx : Nat) (va : VAddr) : Rights :=
  match s.translate die ctx va .read with
  | .ok _ _ r _ => r
  | .hold | .fault _ _ => ⟨false, false, false⟩

/-- Does an address still map to a physical line? A load that was translated before a mapping changed leaves no copy
(spec/15 R301). -/
def State.mapsTo (s : State) (die ctx : Nat) (va : VAddr) (pa : Nat) : Bool := match s.translate die ctx va .read with
  | .ok p _ _ _ => lineOf p = lineOf pa
  | .hold | .fault _ _ => false

/-- A line dropped from a core's L1 under hint 2. -/
def State.dropL1 (s : State) (core ctx : Nat) (va : VAddr) : State :=
  State.sweepRemap { s with l1 := mapSet s.l1 core ((s.l1Of core).filter fun l => !(l.ctx = ctx && l.vline = vlineOf va)) }

/-! ## Values -/

/-- The bytes a plain load of a group reads: its L1's copy of the line, or what its die sees. -/
def State.loadBytes (s : State) (key ctx : Nat) (va : VAddr) (pa n : Nat) : List Byte :=
  match placeOf s pa with
  | .regs => readWith (fun a => s.devByte (offsetOf a)) pa n
  | _ =>
    match (match l1Core key with
      | some core => s.l1Hit core ctx va
      | none => none) with
    | some l => (l.data.drop (pa % 128)).take n
    | none => readWith (s.viewByte (dieOf key)) pa n

/-- Does a read of a physical address deliver poison? -/
def State.readsPoison (s : State) (pa : Nat) : Bool :=
  s.poisonAt pa || (s.hostErr && placeOf s pa == .hostMem)

/-- A transactional load: the lane's own stores over what the group would load. -/
def Tx.over (t : Tx) (pa : Nat) (bytes : List Byte) : List Byte :=
  bytes.mapIdx fun i b => (mapGet? t.writes (pa + i)).getD b

/-! ## Plain stores -/

/-- A store of a group's path-L access, in its mode (spec/07 R153, R154, spec/11 R253, R254). -/
def State.plainStore (s : State) (m : StoreMode) (key op pa : Nat) (bytes : List Byte) : State :=
  match placeOf s pa with
  | .regs => s.writeRegs (offsetOf pa) bytes
  | .hostMem => s.storeHostMem pa bytes
  | .absent => s
  | .near | .far | .cream | .hostWindow =>
    s.storeIn m (dieOf key) (coreOf key) true op pa bytes

/-! ## Transactions (spec/07 R168-R172) -/

/-- Is a lane's transaction the loser of a conflict in its group: the higher lane, unless one attempt is serialised? -/
def txLoser (i j : Nat) (ti tj : Tx) : Nat :=
  if ti.serialised then j else if tj.serialised then i else max i j

/-- Has a transaction a store to a physical line? -/
def Tx.storesTo (t : Tx) (pline : Nat) : Bool := t.writes.any fun w => lineOf w.1 == pline

/-- Virtual lines in the sets of the lanes of a core's groups; a line that several lanes' sets hold counts once for each
(log 80). -/
def State.coreLines (s : State) (core : Nat) : Nat :=
  (s.coreGroups core).foldl (fun n p => n + ((List.range 32).filterMap fun i =>
    (laneOf p.2.tx i).map fun t => t.lines.length).foldl (· + ·) 0) 0

/-- The code with which a lane's access to a line aborts its transaction, by the set's limits; of several that an
access breaks at once, the home's comes first, then the synonym's, the lane's and the core's (log 81). -/
def State.txLimit (s : State) (key lane : Nat) (va : VAddr) (pa : Nat) : Option Nat :=
  match laneOf (s.group key).tx lane with
  | none => none
  | some t =>
    let isNew := !t.lines.any fun l => l.1 == vlineOf va
    if homeBase pa != baseOf (dieOf key) then some 5
    else if t.lines.any (fun l => l.2 == lineOf pa && l.1 != vlineOf va) then some 10
    else if isNew && 16 ≤ t.lines.length then some 3
    else if isNew && 256 ≤ s.coreLines (coreOf key) then some 4
    else none

/-- A line added to a lane's set; a serialised attempt that touches a fifth line or a second slice loses its grant. -/
def Tx.touch (t : Tx) (ctx : Nat) (va : VAddr) (pa : Nat) : Tx :=
  let lines := if t.lines.any (fun l => l.1 == vlineOf va) then t.lines else t.lines ++ [(vlineOf va, lineOf pa)]
  { t with
    lines := lines
    serialised := t.serialised && lines.length ≤ 4 && lines.all fun l =>
      sliceOf ctx l.1 == sliceOf ctx (vlineOf va) && homeBase (l.2 * 128) == homeBase pa }

/-- A lane's access joins its set and meets the conflicts of R169 and R172. -/
def State.txTouch (s : State) (key lane : Nat) (va : VAddr) (pa : Nat) (isStore : Bool) : State :=
  match s.txLimit key lane va pa with
  | some code => s.abortTx key lane code 0
  | none =>
    let g := s.group key
    match laneOf g.tx lane with
    | none => s
    | some t =>
      let t := t.touch g.ctx va pa
      let s := s.setGroup key { g with tx := g.tx.setIfInBounds lane (some t) }
      let clash := (List.range 32).filter fun j => j != lane && match laneOf g.tx j with
        | some u => u.lines.any (fun l => l.1 == vlineOf va) && (isStore || u.storesTo (lineOf pa))
        | none => false
      let losers := clash.map fun j => match laneOf g.tx j with
        | some u => txLoser lane j t u
        | none => j
      let s := losers.eraseDups.foldl (fun (s : State) j => s.abortTx key j 1 0) s
      if s.lineGranted key lane (lineOf pa) then s.abortTx key lane 2 0
      else if t.serialised then
        (s.groups.map (·.1)).foldl (fun (s : State) k =>
          (List.range 32).foldl (fun (s : State) j =>
            if k == key then s
            else match laneOf (s.group k).tx j with
              | some u => if u.lines.any (fun l => l.2 == lineOf pa) then s.abortTx k j 2 0 else s
              | none => s) s) s
      else s

/-- Bytes put in a lane's store set. -/
def State.txWrite (s : State) (key lane : Nat) (pa : Nat) (bytes : List Byte) : State :=
  s.modGroup key fun g => match laneOf g.tx lane with
    | some t => { g with tx := g.tx.setIfInBounds lane (some { t with writes := dirtySetAll t.writes pa bytes }) }
    | none => g

/-- Bytes a lane's transaction has read from outside its own stores: each value read of a byte counts (spec/07 R169). -/
def State.txRead (s : State) (key lane : Nat) (pa : Nat) (bytes : List Byte) : State :=
  s.modGroup key fun g => match laneOf g.tx lane with
    | some t =>
      let reads := (bytes.mapIdx fun i b => (pa + i, b)).foldl (fun (m : List (Nat × Byte)) r =>
        if m.contains r || (mapGet? t.writes r.1).isSome then m else m ++ [r]) t.reads
      { g with tx := g.tx.setIfInBounds lane (some { t with reads := reads }) }
    | none => g

/-! ## Performing a lane's load and store -/

/-- One lane's load binds: the state with the caches and sets it touches, and the value. -/
def State.loadLane (s : State) (o : Op) (hint : Nat) (a : Access) : State × Val :=
  let key := o.group
  let ctx := (s.group key).ctx
  let pa := a.paNat
  let inTx := s.inTx o a.lane
  let s := s.touchL1 key ctx a.va
  let queued := s.forwarded o a
  let bytes := queued.getD (s.loadBytes key ctx a.va pa a.size)
  let s := if hint < 2 && queued.isNone && s.mapsTo (dieOf key) ctx a.va pa then
      s.fillL1 key ctx a.va pa hint (s.rightsOf (dieOf key) ctx a.va) else s
  let s := match hint, l1Core key with
    | 2, some core => if (laneOf (s.group key).tx a.lane).isSome then s else s.dropL1 core ctx a.va
    | _, _ => s
  let s := if placeOf s pa = .regs then s.readClears (offsetOf pa) a.size else s
  if inTx then
    let s := s.txTouch key a.lane a.va pa false
    match laneOf (s.group key).tx a.lane with
    | some t => (if queued.isSome then s else s.txRead key a.lane pa bytes, BitVec.ofNat 128 (leNat (t.over pa bytes)))
    | none => (s, BitVec.ofNat 128 (leNat bytes))
  else (s, BitVec.ofNat 128 (leNat bytes))

/-- One lane's store performs. -/
def State.storeLane (s : State) (o : Op) (id : Nat) (m : StoreMode) (a : Access) : State :=
  let key := o.group
  let ctx := (s.group key).ctx
  let s := s.touchL1 key ctx a.va
  let bytes := leBytes a.size a.data.toNat
  if s.inTx o a.lane then
    (s.txTouch key a.lane a.va a.paNat true).txWrite key a.lane a.paNat bytes
  else if s.parksAt o a.paNat then (s.storeParked (dieOf key) (coreOf key) true id a.paNat bytes).joinLine (lineOf a.paNat) id
  else s.plainStore m key id a.paNat bytes

/-- An operation's results with each lane's value put in, in the lanes that have one. -/
def fillRes (res : List RegResult) (vals : List (Nat × Val)) : List RegResult :=
  let m : LaneMask := BitVec.ofNat 32 (vals.foldl (fun n v => n + 2 ^ v.1) 0)
  res.map fun r => { r with
    lanes := r.lanes &&& m
    targets := r.targets.map fun ts => ts.map fun t => (t.1, t.2 &&& m)
    vals := vals.foldl (fun vs v => vs.setIfInBounds v.1 v.2) r.vals }

end Sys2Proof.Machine
end

