-- ==== Sys2Proof/Machine/Gate.lean ====
section
/-! DEFINITION. What must hold before a word issues (spec/02 R24-R44, spec/03 R64-R72, spec/09 R223, spec/10 R244), and
the traps that a word raises before its operation. -/

namespace Sys2Proof.Machine

/-! ## The registers a word names -/

/-- A register as the checking scoreboard and the undo buffer see it. -/
inductive Reg where
  | main (n : Nat)
  | oper (n : Nat)
  | uni (n : Nat)
  | pred (n : Nat)
  | upred (n : Nat)
  | lat
  | ulat
  deriving DecidableEq, Repr

/-- Registers from `n` on that a field of a level names. -/
def regsAt (uniform : Bool) (o : Operand) (words : Nat) : List Reg :=
  let n := o.index.toNat
  match o.level with
  | .main => (List.range words).map fun k => if uniform then .uni (n + k) else .main (n + k)
  | .oper => (List.range words).map fun k => .oper (n + k)
  | .latch => [if n == 0 then .lat else .ulat]
  | .special =>
    if 0x40 ≤ n && n ≤ 0x46 then [.pred (n - 0x40)]
    else if 0x48 ≤ n && n ≤ 0x4B then [.upred (n - 0x48)] else []

end Sys2Proof.Machine

namespace Sys2Proof

open Machine

/-- The registers a source field reads. The k or h registers that PTOX and UPTOX read without naming them in a field
are no sources for the checking scoreboard (log 78). -/
def Info.sources (i : Info) (pos : Nat) : List Reg :=
  let o := if pos == 0 then i.fields.a else if pos == 1 then i.fields.b else i.fields.c
  let cls := i.srcCls pos
  match cls with
  | .unused | .jreg | .space | .immOr => []
  | .uq _ => regsAt true o (max 1 (cls.bits / 32))
  | .laneSide => regsAt false o 1
  | _ => regsAt i.uniform o (max 1 (cls.bits / 32))

/-- Width in bits of a result. -/
def Info.dBits (i : Info) : Nat :=
  match i.dCls with
  | .dv => 32
  | .dw => 64
  | .dq => 128
  | .dk => 1
  | _ => 0

/-- The destination of a word's result. -/
def Info.dest (i : Info) : Dest :=
  let d := i.fields.d
  let n := d.index.toNat
  match i.dCls with
  | .dv | .dw | .dq =>
    match d.level with
    | .main => if i.uniform then .uni n else if d.mark then .latchOnly else .main n
    | .oper => .oper n
    | .latch | .special => .zero
  | .dk => if 0x40 ≤ n && n ≤ 0x47 then .pred (n - 0x40) else if 0x48 ≤ n && n ≤ 0x4B then .upred (n - 0x48) else .zero
  | _ => .none

/-- The main-file names a word writes. -/
def Info.mainNames (i : Info) : List Nat :=
  match i.dest with
  | .main n => (List.range (max 1 (i.dBits / 32))).map (n + ·)
  | _ => []

/-- Does a word's result go to a latch too (spec/03 R63)? CAWAIT writes its code there. -/
def Info.writesLatch (i : Info) : Bool :=
  match i.dCls with
  | .dv | .dw | .dq => true
  | .dk => i.uniform && i.op == 0x1A1
  | _ => false

/-- The registers outside the rename map that a word's destination names. -/
def Info.plainDests (i : Info) : List Reg :=
  match i.dest with
  | .oper n => (List.range (max 1 (i.dBits / 32))).map fun k => .oper (n + k)
  | .uni n => (List.range (max 1 (i.dBits / 32))).map fun k => .uni (n + k)
  | .pred n => [.pred n]
  | .upred n => [.upred n]
  | _ => []

/-- The registers of a word's selector (spec/02 R35). -/
def Info.selectorReads (i : Info) : List Reg :=
  match i.fields.nx with
  | .jt | .jf => if i.fields.modLo = 7 then [] else [.pred i.fields.modLo]
  | .jut | .juf => [.upred i.fields.mod10]
  | .loop => [.uni 62]
  | .jidx => [.uni i.fields.c.index.toNat]
  | .seq | .jmp | .call | .ret | .exit => []

/-- Does a word of the engine and system classes act as it issues, unlike those that spec/08 R180 holds in the core? -/
def Info.actsAtIssue (i : Info) : Bool :=
  i.klass == .system || (i.klass == .engine && !(if i.uniform then
    i.op == 0x100 || i.op == 0x106 || i.op == 0x1A6 || i.op == 0x1A7 else 0xF0 ≤ i.op && i.op ≤ 0xF2))

end Sys2Proof

namespace Sys2Proof.Machine

/-- The predicates XTOP sets: those some active lane's B names (spec/06 R124). -/
def xtopRegs (s : State) (c : Ctx) : List Nat :=
  (List.range (if c.info.uniform then 4 else 7)).filter fun n =>
    (lanesOf c.active).any fun l => (srcVal s c 1 l).getLsbD n

/-- The registers outside the rename map that a word writes, XTOP's and UXTOP's by their operand (spec/06 R124). -/
def destRegs (s : State) (c : Ctx) : List Reg :=
  if c.info.op == 0x36 then (xtopRegs s c).map fun n => if c.info.uniform then .upred n else .pred n else c.info.plainDests

/-- The rejoin masks that an exit of lanes completes (spec/02 R43, spec/07 R176). -/
def Group.exitJoins (g : Group) (lanes : LaneMask) : List Nat :=
  (List.range 16).filter fun n =>
    let j := vget g.j n ⟨0#32, 0#32⟩
    j.mask != 0#32 && j.mask &&& ~~~(j.arrived ||| g.exited ||| lanes) == 0#32

/-- Undo entries a word takes (spec/03 R70). -/
def undoNeed (s : State) (c : Ctx) : Nat :=
  let i := c.info
  (if c.active == 0#32 then 0
    else (destRegs s c).length
    + (if i.writesLatch then 1 else 0)
    + (if i.aCls == .jreg || i.dCls == .jreg then 1 else 0)
    + (if !i.uniform && (i.op == 0x7D || i.op == 0x7F) then 1 else 0))
    + (match i.fields.nx with
      | .loop | .call | .ret => 1
      | .exit => ((s.group c.key).exitJoins c.lanes).length
      | _ => 0)

/-! ## Readiness (spec/09 R223) -/

/-- Is a group's team in its place, neither being saved nor out (spec/09 R226)? -/
def State.teamPresent (s : State) (g : Group) : Bool := match s.team? g.team with
  | some t => g.engine != .partition || t.swap == .resident
  | none => true

/-- Does nothing hold a group's issue: no wait, no operation? What the first of two paths of one cycle has begun does not
keep back the second, which issues with it (spec/09 R223). -/
def State.unheld (s : State) (key : Nat) : Bool :=
  let g := s.group key
  (g.wait.isNone && g.holdOp.isNone)
    || (g.lastIssue == some (s.timeOf key) && g.wait.all fun w => w.kind != .fault && w.kind != .stop)

/-- May a group issue at all: not halted, in no wait, not replayable, not stopped, not held by an operation, active,
on a die that runs? -/
def State.mayRun (s : State) (key : Nat) : Bool :=
  let g := s.group key
  !isOut key && s.teamPresent g && !g.halted && s.unheld key && g.fault.isNone && g.stop.isNone
    && (g.engine != .partition || g.lease.act == .active) && !(g.engine == .circuit && s.cpHalt)
    && ((g.engine != .partition && g.engine != .churn) || !s.dieHalted (dieOf key))
    && s.resid.all (fun r => !(r.stopped && (g.engine == .partition || g.engine == .churn)
      && r.part.getLsbD (clusterOf key)))

/-- Is a path in its group's table, and may it issue while the group is in handler mode (spec/08 R210)? -/
def Group.hasPath (g : Group) (pc : DWord) (lanes : LaneMask) : Bool :=
  lanes != 0#32 && (g.table.any fun e => e.pc == pc && lanes &&& ~~~e.lanes == 0#32)
    && (!g.trap.hm || g.trap.mask &&& lanes != 0#32)

/-- Has the group's stall run out (spec/02 R32, spec/09 R223), or does it issue a second path in this cycle? -/
def State.stallOver (s : State) (key : Nat) : Bool :=
  let g := s.group key
  (g.stallEnd ≤ s.timeOf key && g.yieldEnd ≤ s.timeOf key) || g.lastIssue == some (s.timeOf key)

/-- Are a word's wait mask met and its set flag free (spec/02 R33)? The second of two paths of one cycle was ready as the
first was, before that one raised its flag (spec/09 R223): its wait mask is not tested again (log 100). -/
def Group.flagsReady (g : Group) (f : Fields) (second : Bool) : Bool :=
  (second || (List.range 12).all fun n => !f.wt.getLsbD n || vget g.f n 0#6 == 0#6)
    && (f.sf == 0#4 || vget g.f (f.sf.toNat - 1) 0#6 != 63#6)

/-- The barrier a BAR, BARA, BARC or BARD names. -/
def State.barOf (s : State) (c : Ctx) : BarAt :=
  match c.info.op with
  | 0xE2 => .cluster (clusterOf c.key) (s.gridOf c.key)
  | 0xE3 => .die (dieOf c.key) (s.gridOf c.key)
  | _ => .team (s.group c.key).team c.f.modHi

/-- Does a barrier the word executes keep it back: the group has reached it and its arrival is still to be recorded
(spec/07 R173; log 23)? -/
def State.barBlocks (s : State) (c : Ctx) : Bool := (s.group c.key).reachedBar (s.barOf c).slot

/-- Has the group an operation in flight that has not passed its fault point (spec/07 R147)? A replay must not repeat
what a younger word does at issue. -/
def olderFaults (s : State) (c : Ctx) : Bool := s.olderFault c.key c.seq

/-- Batches of a group that have not completed, its open one too. -/
def Group.outstanding (g : Group) : Nat :=
  (g.batches.filter fun b => b.left != 0).length + if g.openBatch.isSome then 1 else 0

/-- Bytes a die's Rennet holds (spec/14 R279). -/
def Die.storeBytes (d : Die) : Nat :=
  d.queues.foldl (fun n q => n + q.records.foldl (fun m r => m + r.length) 0) 0
    + d.toPlace.foldl (fun n t => n + t.records.foldl (fun m r => m + r.length) 0) 0

/-- Is ticket slot `n` assigned to a context? -/
def State.ownsSlot (s : State) (ctx n : Nat) : Bool := match s.context ctx with
  | some c => c.slots.getLsbD n
  | none => false

/-- The lowest ticket slot of a context that is free (spec/17 R362). -/
def State.freeSlot (s : State) (ctx : Nat) : Option Nat :=
  (List.range 64).find? fun n => s.ownsSlot ctx n && (s.ticket n).state == 0

/-- TCOPYs of a group in flight: their copies are still to enter its open batch. -/
def State.tcopiesOf (s : State) (key : Nat) : Nat :=
  (s.ops.filter fun p => p.2.group == key && match p.2.kind with
    | .tcopy _ => true
    | _ => false).length

/-- Would one more TCOPY of a group need a 17th outstanding batch (spec/08 R188)? -/
def State.batchesFull (s : State) (key : Nat) : Bool :=
  let g := s.group key
  let ahead := s.tcopiesOf key + match g.openBatch with
    | some b => b.copies
    | none => 0
  16 < (g.batches.filter fun b => b.left != 0).length + ahead / 64 + 1

/-- Is the engine that a word addresses unable to take it now (spec/08 R179, spec/09 R223), or is the word a barrier that
holds its group, a post or a system instruction that earlier accesses may still have repeated, or one that follows the
lane's XEND in flight? -/
def opHold (s : State) (c : Ctx) : Bool :=
  let g := s.group c.key
  if c.active == 0#32 then false
  else if c.info.actsAtIssue && olderFaults s c then true
  else if c.info.uniform then
    match c.info.op with
    | 0x100 => s.batchesFull c.key
    | 0x101 | 0x102 => s.tcopiesOf c.key != 0
    | 0x106 => 4096 ≤ s.children.length
    | 0x180 | 0x181 | 0x182 | 0x183 | 0x184 | 0x185 => 4 ≤ (s.cluster (churnIx c.key)).churn.macros.length
    | 0x1A0 => (s.freeSlot g.ctx).isNone
    | 0x1C1 => 4096 ≤ s.events.length || !s.heldEvts.isEmpty
    | 0xE8 => olderFaults s c
    | _ => false
  else
    let ch := (s.cluster (churnIx c.key)).churn
    match c.info.op with
    | 0xE0 | 0xE1 | 0xE2 | 0xE3 => s.barBlocks c
    | 0xE8 => olderFaults s c
    | 0xD4 | 0xD5 | 0xD6 => s.endingTx c.key &&& c.active != 0#32
    | 0xF0 => c.f.modHi != 3 && 8 ≤ ch.feed.length && !ch.feed.any fun x => x.op == 0 && x.group == c.key
    | 0xF2 => 524288 ≤ (s.die (dieOf c.key)).storeBytes || !(s.die (dieOf c.key)).heldRecs.isEmpty
    | _ => false

/-- Is there room in the undo buffer (spec/03 R70)? -/
def undoRoom (s : State) (c : Ctx) : Bool :=
  (s.oldestOp c.key).isNone || (s.group c.key).undo.length + undoNeed s c ≤ 8

/-- Register indices a word asks for (spec/03 R72, R74). -/
def regsNeeded (s : State) (c : Ctx) : Nat :=
  c.info.mainNames.foldl (fun n x => n + if s.mirrored (s.group c.key) x then 2 else 1) 0

/-- Does the word write a main-file destination? It asks for its registers even when no lane's guard holds (spec/03 R66;
log 40). -/
def Ctx.writesMain (c : Ctx) : Bool := !c.info.mainNames.isEmpty

/-! ## The checking scoreboard (spec/10 R244) -/

/-- Has a result of an operation in flight still to write a register in some lane? -/
def RegResult.pends (g : Group) (r : RegResult) (x : Reg) : Bool :=
  match x with
  | .main n => match mapGet? g.x n with
    | some e => r.targets.any fun ts => ts.any fun t => t.2 != 0#32 && e.phys.contains t.1
    | none => false
  | .lat => r.latch && !r.uniform && r.lanes != 0#32
  | .ulat => r.latch && r.uniform && r.lanes != 0#32
  | .oper n => (match r.dest with
    | .oper m => m ≤ n && n < m + regsFor r.width
    | _ => false) && r.lanes != 0#32
  | .uni n => (match r.dest with
    | .uni m => m ≤ n && n < m + regsFor r.width
    | _ => false) && r.lanes != 0#32
  | .pred n => r.dest == .pred n && r.lanes != 0#32
  | .upred n => r.dest == .upred n && r.lanes != 0#32

/-- Operations in flight of a group. -/
def State.opsOf (s : State) (key : Nat) : List (Nat × Op) := s.ops.filter fun p => p.2.group == key

/-- Is an operation a fixed-latency one? -/
def OpKind.fixed : OpKind → Bool
  | .result | .deepStore _ | .turn _ => true
  | _ => false

/-- Deep-window entries a word's lanes name: the entry of each active lane (spec/03 R77). -/
def deepEntry (s : State) (c : Ctx) (lane : Nat) : Nat :=
  ((srcVal s c 0 lane).setWidth 32 + c.f.imm).toNat

/-- Is a word an LDX or an STX, and of how many entries? -/
def Ctx.deepWords (c : Ctx) : Option Nat :=
  if c.info.uniform then none
  else match c.info.op with
    | 0x7C | 0x7D => some 1
    | 0x7E | 0x7F => some 2
    | _ => none

/-- Does an STX in flight still write an entry that the word reads or writes? -/
def deepPends (s : State) (c : Ctx) (k : OpKind) : Bool :=
  match c.deepWords, k with
  | some w, .deepStore es => (lanesOf c.active).any fun l => es.any fun e =>
      e.1 == l && deepEntry s c l ≤ e.2.1 && e.2.1 < deepEntry s c l + w
  | _, _ => false

/-! ## The return stack (spec/02 R39) -/

/-- The lowest lane of a path that CALL or RET cannot serve, with the trap's cause. -/
def callTrap (s : State) (c : Ctx) : Option (BitVec 8 × Word) :=
  let g := s.group c.key
  match c.f.nx with
  | .call => ((lanesOf c.lanes).find? fun l =>
      (laneOf g.ret l).entries.length == 8 && (laneOf g.ret l).spilled == 65535).map fun l => (0x07#8, BitVec.ofNat 32 l)
  | .ret => ((lanesOf c.lanes).find? fun l =>
      (laneOf g.ret l).entries.isEmpty && (laneOf g.ret l).spilled == 0).map fun l => (0x08#8, BitVec.ofNat 32 l)
  | _ => none

/-- Where a lane's spilled entry of a number lies. -/
def linkAddr (g : Group) (lane n : Nat) : VAddr :=
  vaddr g.linkSpace (g.linkBase + (vget g.q 63 0#32).setWidth 64 + BitVec.ofNat 64 (256 * n + 8 * lane))

/-- The spills of a CALL and fills of a RET: lanes and addresses. -/
def linkAccesses (s : State) (c : Ctx) : List Access :=
  let g := s.group c.key
  (lanesOf c.lanes).filterMap fun l =>
    let r := laneOf g.ret l
    match c.f.nx with
    | .call => if r.entries.length == 8 then
        some ⟨l, linkAddr g l r.spilled, 8, ((r.entries.headD 0#64).setWidth 128), none, false, false, 0#128, none⟩ else none
    | .ret => if r.entries.isEmpty then
        some ⟨l, linkAddr g l (r.spilled - 1), 8, 0#128, none, false, false, 0#128, none⟩ else none
    | _ => none

/-- The registers a word's selector reads, q63 too where a CALL or RET uses the link spill region (spec/02 R35, R39). -/
def selectorRegs (s : State) (c : Ctx) : List Reg :=
  c.info.selectorReads ++ if (linkAccesses s c).isEmpty then [] else [.uni 63]

/-- Would the checking scoreboard trap the word? A copy that lands in the deep window is not among the pending writes: its
TCOPY is no longer in flight once the Pail has accepted it (DEDUCED, log 111). -/
def stallTrap (s : State) (c : Ctx) : Bool :=
  let g := s.group c.key
  let older := s.opsOf c.key
  let readAt := max s.cur.next (s.timeOf c.key + c.f.st.toNat + 1)
  let reads := if c.active == 0#32 then [] else c.info.sources 0 ++ c.info.sources 1 ++ c.info.sources 2
  s.chkOn g.ctx && (
    (reads.any fun x => older.any fun p => p.2.res.any fun r => r.pends g x)
    || ((selectorRegs s c).any fun x => older.any fun p =>
        !(p.2.kind.fixed && p.2.due ≤ readAt) && p.2.res.any fun r => r.pends g x)
    || (older.any fun p => deepPends s c p.2.kind && (c.info.op == 0x7C || c.info.op == 0x7E))
    || (c.active != 0#32 && (destRegs s c).any fun x => older.any fun p =>
        !p.2.kind.fixed && p.2.res.any fun r => r.pends g x))

/-- The operation a spill or a fill stands for while it is made. -/
def linkOp (c : Ctx) (acc : List Access) : Op where
  group := c.key
  seq := c.seq
  pc := c.pc
  npc := c.pc + 16#64
  lanes := c.lanes
  active := c.lanes
  uni := false
  flag := 0
  issueNs := 0
  due := 0
  kind := if c.f.nx = .call then .store .ef none else .load false none 0
  acc := acc
  res := []
  walked := true
  left := true
  holds := false
  ackLost := none
  mask := 0#8

/-! ## The gate -/

/-- What stands before a word. -/
inductive Gate where
  /-- it issues now -/
  | pass
  /-- it waits -/
  | hold
  /-- a precise trap -/
  | trap (c : BitVec 8) (t : Word)
  /-- a precise trap, once no older access can fault -/
  | defer (c : BitVec 8) (t : Word)
  /-- it would read poison -/
  | poison
  /-- lanes whose transaction it may not be in -/
  | abort (m : LaneMask)
  deriving DecidableEq, Repr

end Sys2Proof.Machine

namespace Sys2Proof

/-- Instructions that abort a transaction (spec/07 R171). -/
def Info.txForbidden (i : Info) : Bool :=
  match i.klass with
  | .engine | .system | .atomic => true
  | .synchronisation => !(!i.uniform && (i.op == 0xD5 || i.op == 0xD6 || i.op == 0xE4 || i.op == 0xE6))
  | .memory => 0xC8 ≤ i.op && i.op ≤ 0xCC
  | .compute => false

end Sys2Proof

namespace Sys2Proof.Machine

/-- The path's lanes whose open transaction a word aborts with code 9. -/
def txBarred (s : State) (c : Ctx) : LaneMask :=
  if !c.info.txForbidden then 0#32 else if c.active == 0#32 then 0#32 else s.txLanes c.key (if c.info.uniform then c.lanes else c.active)

/-- What stands before a word but for the undo buffer and the register pool (spec/09 R223). -/
def readyGate (s : State) (c : Ctx) : Gate :=
  let g := s.group c.key
  if !(s.mayRun c.key && g.hasPath c.pc c.lanes && s.stallOver c.key && g.flagsReady c.f (g.lastIssue == some (s.timeOf c.key))) then .hold
  else if opHold s c then .hold
  else if stallTrap s c then .trap 0x03#8 0#32
  else match latchFaults s c with
  | some d => .trap 0x02#8 (BitVec.ofNat 32 d)
  | none => match callTrap s c with
  | some (x, t) => .trap x t
  | none =>
    if (List.range 3).any (poisonSource s c) then .poison
    else if txBarred s c != 0#32 then .abort (txBarred s c)
    else if !(linkAccesses s c).isEmpty && olderFaults s c then .hold
    else .pass

/-- Are there free indices for a list of names, a pair in banks that differ by 4 for a mirrored one (spec/03 R74)? -/
def picksAll (mirror : Nat → Bool) : List Nat → List Nat → Bool
  | [], _ => true
  | n :: t, used => match pickPhys used (mirror n) with
    | some ps => picksAll mirror t (ps ++ used)
    | none => false

/-- Are there free indices for a word's names? -/
def State.picks (s : State) (c : Ctx) : Bool :=
  picksAll (s.mirrored (s.group c.key)) c.info.mainNames (s.poolUsed (partOf c.key))

/-- Whether the undo buffer and the register pool let a ready word issue (spec/03 R70, R72, R74). -/
def roomGate (s : State) (c : Ctx) : Gate :=
  if !undoRoom s c then .hold
  else if !c.writesMain then .pass
  else match s.grant c.key (regsNeeded s c) c.seq with
    | .take => if s.picks c then .pass else .hold
    | .hold => .hold
    | .trap => .trap 0x04#8 0#32

/-- Whether and how a word issues, when nothing older can still fault. -/
def gateOf (s : State) (c : Ctx) : Gate :=
  match readyGate s c with
  | .pass => roomGate s c
  | a => a

/-- Whether and how a word issues. A trap is precise: while an older access can still fault it is noted, the group issues
nothing more, and it is taken when none can. -/
def gate (s : State) (c : Ctx) : Gate :=
  match (s.group c.key).trapPend with
  | some (pc, x, t) =>
    if pc != c.pc || olderFaults s c || !(s.mayRun c.key && (s.group c.key).hasPath c.pc c.lanes) then .hold else .trap x t
  | none => match gateOf s c with
    | .trap x t => if olderFaults s c then .defer x t else .trap x t
    | a => a

/-- The word at the path that executes. -/
def State.ctx (s : State) (i : Info) : Ctx :=
  let g := s.group s.cur.group
  ⟨s.cur.group, i, s.cur.pc, s.cur.lanes, activeLanes g i s.cur.lanes, g.seq⟩

end Sys2Proof.Machine
end

