-- ==== Sys2Proof/Machine/Issue.lean ====
section
/-! DEFINITION. Issuing a word (spec/02 R30-R44, spec/03 R66-R70, spec/09 R221): its marks and allocation, the operation
it puts in flight, the flag it counts, its selector, and where its lanes go. -/

namespace Sys2Proof.Machine

/-- What the operation of a word does when it issues: results whose targets are still to be allocated, the operation put
in flight (none when nothing is left to do), its accesses, whether it holds its group's issue, whether it completes for
its flag at issue, the registers outside the
rename map it changes at issue with their old values, the change it makes once its lanes have moved (given the operation's
number), and
where it sends its path when the selector's moves do not say it all. -/
structure Effect where
  res   : List RegResult := []
  kind  : Option OpKind := none
  acc   : List Access := []
  holds : Bool := false
  atIssue : Bool := false
  undo  : List UndoItem := []
  now   : State → Nat → State := fun s _ => s
  place : Option (State → List (DWord × LaneMask) → State) := none

/-- What a word's own meaning answers once the gate has let it pass. -/
inductive Act where
  /-- a precise trap of the operation -/
  | trap (c : BitVec 8) (t : Word)
  /-- poison would be read -/
  | poison
  /-- it issues -/
  | go (e : Effect)

/-! ## Marks and allocation (spec/03 R66, R67) -/

/-- Does the issued path hold every lane of the group that has neither exited nor been parked? -/
def Group.converged (g : Group) (lanes : LaneMask) : Bool := g.liveMask &&& ~~~g.parkedMask &&& ~~~lanes == 0#32

/-- Names a word's last-read marks unmap. -/
def markedNames (s : State) (c : Ctx) : List Nat :=
  let g := s.group c.key
  if c.active == 0#32 || !g.converged c.lanes || c.info.uniform then []
  else ((List.range 3).flatMap fun pos =>
    let o := c.operand pos
    if o.mark && o.level == .main then (c.info.sources pos).filterMap fun r => match r with
      | .main n => some n
      | _ => none
    else []).eraseDups

/-- A name unmapped: its entry is release-pending on the instruction. -/
def Group.unmap (g : Group) (n seq : Nat) : Group :=
  match mapGet? g.x n with
  | none => g
  | some e => { g with x := mapDel g.x n, pending := g.pending ++ [⟨n, e, seq⟩] }

/-- Writes in flight to an old register follow it into the register that replaces it, but for the lanes the new write
takes (merge-on-write of spec/03 R66). -/
def followWrites (key : Nat) (old fresh : List Nat) (m : LaneMask) (ops : List (Nat × Op)) : List (Nat × Op) :=
  let follow (ts : List (Nat × LaneMask)) : List (Nat × LaneMask) :=
    ts ++ (ts.filter fun t => old.head? == some t.1 && t.2 &&& ~~~m != 0#32).flatMap (fun t =>
      fresh.map fun q => (q, t.2 &&& ~~~m))
  ops.map fun p =>
    if p.2.group != key then p
    else (p.1, { p.2 with res := p.2.res.map fun r => { r with targets := r.targets.map follow } })

/-- A new register allocated for a name: what it holds in each lane is what the name held, and poison stays in it unless
every lane is written. -/
def State.allocName (s : State) (key n seq : Nat) (m : LaneMask) : State × List Nat :=
  let g := s.group key
  match pickPhys (s.poolUsed (partOf key)) (s.mirrored g n) with
  | none => (s, [])
  | some ps =>
    let old := mapGet? g.x n
    let e : MapEntry := ⟨ps, (match old with
      | some e => e.vals
      | none => Vector.replicate 32 0#32), (match old with
      | some e => e.poison && m != 0xFFFFFFFF#32
      | none => false), seq⟩
    let g := g.unmap n seq
    let s := (s.setGroup key { g with x := mapSet g.x n e }).syncPool (partOf key)
    match old with
    | none => (s, ps)
    | some o => ({ s with ops := followWrites key o.phys ps m s.ops }, ps)

/-- The registers of a result's main-file destination allocated. -/
def State.allocResult (s : State) (key seq : Nat) (r : RegResult) : State × RegResult :=
  match r.dest with
  | .main n =>
    let (s, ts) := (List.range (regsFor r.width)).foldl (fun (st : State × List (List (Nat × LaneMask))) k =>
      let (s, ps) := st.1.allocName key (n + k) seq r.lanes
      (s, st.2 ++ [ps.map fun p => (p, r.lanes)])) (s, [])
    (s, { r with targets := ts })
  | _ => (s, r)

/-- Every result's destination allocated. -/
def State.allocAll (s : State) (key seq : Nat) : List RegResult → State × List RegResult
  | [] => (s, [])
  | r :: t =>
    let (s, r) := s.allocResult key seq r
    let (s, t) := s.allocAll key seq t
    (s, r :: t)

/-! ## The undo buffer (spec/03 R70) -/

/-- What a result's landing replaces outside the rename map. -/
def resultUndo (g : Group) (r : RegResult) : List UndoItem :=
  (match r.dest with
    | .oper n => (List.range (regsFor r.width)).map fun k => .oper (n + k) (vget g.o (n + k) (Vector.replicate 32 0#32))
    | .uni n => (List.range (regsFor r.width)).map fun k => .uni (n + k) (vget g.q (n + k) 0#32)
    | .pred n => [.pred n (vget g.k n 0#32)]
    | .upred n => [.upred n (vget g.h n false)]
    | .none | .zero | .latchOnly | .main _ => [])
  ++ (if !r.latch then [] else if r.uniform then [.ulat g.ulat] else [.lat g.lat])

/-- What a word's selector replaces. -/
def selectorUndo (g : Group) (f : Fields) (lanes : LaneMask) : List UndoItem :=
  match f.nx with
  | .loop => [.uni 62 (vget g.q 62 0#32)]
  | .call | .ret => [.ret g.ret]
  | .exit => (g.exitJoins lanes).map fun n => .rejoin n (vget g.j n ⟨0#32, 0#32⟩)
  | _ => []

/-! ## Selectors (spec/02 R35-R43) -/

/-- The group as it will stand at a later cycle: fixed-latency results due by then have landed, in the order in which
they land. -/
def State.groupAt (s : State) (key t : Nat) : Group :=
  let due := (s.opsOf key).filter fun p => p.2.kind.fixed && p.2.due ≤ t
  (sortBy due fun a b => a.2.due < b.2.due || (a.2.due == b.2.due && a.2.seq ≤ b.2.seq)).foldl
    (fun g p => p.2.res.foldl (fun g r => g.land p.2.seq r) g) (s.group key)

/-- The target of a selector: next + 16 x (int32)IMM. -/
def Ctx.target (c : Ctx) : DWord := c.pc + 16#64 + 16#64 * c.f.imm.signExtend 64

/-- The address after the word. -/
def Ctx.next (c : Ctx) : DWord := c.pc + 16#64

/-- Moves of two groups of lanes, without the empty ones. -/
def split (a : DWord) (ma : LaneMask) (b : DWord) (mb : LaneMask) : List (DWord × LaneMask) :=
  ([(a, ma), (b, mb)]).filter fun x => x.2 != 0#32

/-- A word's selector as one that reads a register. -/
def Ctx.turn (c : Ctx) : Turn where
  nx := c.f.nx
  reg := match c.f.nx with
    | .jt | .jf => c.f.modLo
    | .jut | .juf => c.f.mod10
    | .jidx => c.f.c.index.toNat
    | _ => 62
  target := c.target
  next := c.next
  moves := []

/-- Where lanes go by a selector that reads a register, as the registers of `g` stand. -/
def Turn.movesIn (x : Turn) (g : Group) (lanes : LaneMask) : List (DWord × LaneMask) :=
  let t := x.target
  let n := x.next
  let k := (if x.reg == 7 then 0xFFFFFFFF#32 else vget g.k x.reg 0#32) &&& lanes
  match x.nx with
  | .jt => split t k n (lanes &&& ~~~k)
  | .jf => split n k t (lanes &&& ~~~k)
  | .jut => [(if vget g.h x.reg false then t else n, lanes)]
  | .juf => [(if vget g.h x.reg false then n else t, lanes)]
  | .loop => [(if vget g.q 62 0#32 - 1#32 = 0#32 then n else t, lanes)]
  | .jidx => [(t + 16#64 * (vget g.q x.reg 0#32).signExtend 64, lanes)]
  | .seq | .jmp | .call | .ret | .exit => []

/-- Where each lane of the path goes, none of them for EXIT. `g` is the group at the cycle of the selector's read. -/
def selectorMoves (c : Ctx) (g : Group) (here : Group) : List (DWord × LaneMask) :=
  match c.f.nx with
  | .seq => [(c.next, c.lanes)]
  | .jmp | .call => [(c.target, c.lanes)]
  | .ret => (lanesOf c.lanes).map fun l => (wordAddr ((laneOf here.ret l).entries.getLastD 0#64), BitVec.ofNat 32 (2 ^ l))
  | .exit => []
  | .jt | .jf | .jut | .juf | .loop | .jidx => c.turn.movesIn g c.lanes

/-- Moves to one address joined. -/
def joinMoves : List (DWord × LaneMask) → List (DWord × LaneMask)
  | [] => []
  | (p, m) :: t =>
    let rest := joinMoves t
    if rest.any fun x => x.1 == p then rest.map fun x => if x.1 == p then (p, x.2 ||| m) else x else (p, m) :: rest

/-- What LOOP leaves in q62 (spec/02 R37). -/
def loopResult (g : Group) : RegResult :=
  ⟨.uni 62, 32, Vector.replicate 32 ((vget g.q 62 0#32 - 1#32).setWidth 128), 1#32, [], true, false⟩

/-- Lanes that stand at `old`, in a path, parked or waiting, go to `new` instead. -/
def Group.readdress (g : Group) (old new : DWord) (m : LaneMask) : Group :=
  let here (a : DWord) (l : LaneMask) : LaneMask := if a = old then l &&& m else 0#32
  let gone := g.table.foldl (fun x e => x ||| here e.pc e.lanes) 0#32
  let parked := g.parked.foldl (fun x e => x ||| here e.pc e.lanes) 0#32
  let left : Group := { g with
    table := (g.table.map fun e => { e with lanes := e.lanes &&& ~~~(here e.pc e.lanes) }).filter fun e => e.lanes != 0#32
    parked := (g.parked.map fun e => { e with lanes := e.lanes &&& ~~~(here e.pc e.lanes) }).filter fun e => e.lanes != 0#32
    waiting := (g.waiting.flatMap fun w =>
      [{ w with lanes := w.lanes &&& ~~~(here w.pc w.lanes) }, { w with pc := new, lanes := here w.pc w.lanes }]).filter
        fun w => w.lanes != 0#32 }
  left.placeAll (if gone ||| parked = 0#32 then [] else [(new, gone ||| parked)])

/-- Lanes sent by `was` sent by `now` instead. -/
def Group.reaim (g : Group) (was now : List (DWord × LaneMask)) : Group :=
  let sent (g : Group) (m : LaneMask) : Group :=
    match was.find? (fun x => x.2 &&& m != 0#32), now.find? fun x => x.2 &&& m != 0#32 with
    | some a, some b => if a.1 = b.1 then g else g.readdress a.1 b.1 m
    | _, _ => g
  if was == now then g
  else (was.flatMap fun a => now.map fun b => a.2 &&& b.2).foldl (fun g m => if m = 0#32 then g else sent g m) g

/-- A group's lanes as they stand. -/
def Group.paths (g : Group) : PathState := ⟨g.table, g.parked, g.waiting, g.barExec, g.exited, g.epoch⟩

/-- The lanes sent anew in what a replay of a word from `n` on would go back to. -/
def PathState.reaim (p : PathState) (g : Group) (was now : List (DWord × LaneMask)) : PathState :=
  let h := { g with table := p.table, parked := p.parked, waiting := p.waiting }.reaim was now
  { p with table := h.table, parked := h.parked, waiting := h.waiting }

/-- The cycle of a selector's read has come (spec/02 R35, R37): q62 falls by one for LOOP, and the lanes go where the
register as it stands sends them. -/
def Group.turned (g : Group) (seq : Nat) (lanes : LaneMask) (x : Turn) : Group :=
  let now := joinMoves (x.movesIn g lanes)
  let g := if x.nx = .loop then g.land seq (loopResult g) else g
  { g.reaim x.moves now with snaps := g.snaps.map fun p => if seq < p.1 then (p.1, p.2.reaim g x.moves now) else p }

/-- A lane's return stack after CALL, given the value `fill` a RET has read. -/
def RetStack.step (r : RetStack) (nx : Nx) (next : DWord) : RetStack :=
  match nx with
  | .call => if r.entries.length = 8 then ⟨r.entries.tail ++ [next], r.spilled + 1⟩ else ⟨r.entries ++ [next], r.spilled⟩
  | .ret => if r.entries.isEmpty then ⟨[], r.spilled - 1⟩ else ⟨r.entries.dropLast, r.spilled⟩
  | _ => r

/-- A filled lane's stack holds the value the fill has read, for RET to pop. -/
def RetStack.withFill (r : RetStack) (v : DWord) : RetStack := ⟨[v], r.spilled - 1⟩

/-- What reading or writing the link spill region came to. -/
inductive LinkAct where
  | ok (s : State)
  | hold
  | fault (s : State)
  | poison

/-- The spills of a CALL or the fills of a RET translated in rising lane order: the state, and the accesses with their
physical addresses. The first lane that faults is the one taken, with every return stack as it was (spec/02 R39). -/
def linkWalk (c : Ctx) : List Access → State → List Access → LinkAct × List Access
  | [], s, done => (.ok s, done)
  | a :: t, s, done =>
    let g := s.group c.key
    let o := linkOp c [a]
    match s.translate (dieOf c.key) g.ctx a.va (s.needOf o a) with
    | .hold => (.hold, [])
    | .fault x pa =>
      if (laneOf g.tx a.lane).isSome then (.fault (s.abortTx c.key a.lane 8 0), [])
      else (.fault (s.faultGroup c.key c.seq (o.faultAt a x pa)), [])
    | .ok pa k r big =>
      if !(s.redsAt pa 8).isEmpty then (.hold, [])
      else if c.f.nx != .call && s.readsPoison pa then (.poison, [])
      else linkWalk c t ((s.tluFill (dieOf c.key) g.ctx a.va pa k r big).fillSlice c.key g.ctx a.va pa k r)
        (done ++ [{ a with pa := some (BitVec.ofNat 52 pa) }])

/-- One lane's spill stored, or its fill loaded. -/
def linkStep (c : Ctx) (s : State) (a : Access) : State :=
  let o := linkOp c [a]
  if c.f.nx = .call then s.storeLane o 0 .ef a
  else
    let (t, v) := s.loadLane o 0 a
    if (laneOf (s.group c.key).tx a.lane).isSome && (laneOf (t.group c.key).tx a.lane).isNone then t
    else t.modGroup c.key fun g => { g with
      ret := g.ret.setIfInBounds a.lane ((laneOf g.ret a.lane).withFill (v.setWidth 64)) }

/-- Does a lane's transaction end, by a limit, with an access of the link spill region? -/
def linkAborts (c : Ctx) (s : State) (a : Access) : Bool :=
  (laneOf (s.group c.key).tx a.lane).isSome && (laneOf ((linkStep c s a).group c.key).tx a.lane).isNone

/-- The spills of a CALL stored and the fills of a RET loaded, in rising lane order, as accesses of path L that the
group's filter samples (spec/02 R39, spec/10 R234). A lane whose transaction a limit ends leaves the path first. -/
def linkSteps (c : Ctx) (acc : List Access) (s : State) : LinkAct :=
  match linkWalk c acc s [] with
  | (.ok s, done) =>
    match done.filter (linkAborts c s) with
    | [] => .ok (done.foldl (linkStep c) (if done.isEmpty then s else s.sampleAccesses c.key done))
    | lost => .fault (lost.foldl (linkStep c) s)
  | (x, _) => x

/-! ## Issue -/

/-- Special registers a word reads in an active lane. -/
def specialsRead (c : Ctx) : List Nat :=
  if c.active == 0#32 then []
  else ((List.range 3).filter fun pos => c.info.srcCls pos != .unused && (c.operand pos).level == .special).map fun pos =>
    (c.operand pos).index.toNat

/-- The captures of %clockl and %timel, and a fresh free value taken where a word has read one (spec/03 R81). -/
def State.afterReads (s : State) (c : Ctx) : State :=
  let idx := specialsRead c
  let s := s.modGroup c.key fun g => { g with
    clockh := if idx.contains 0x1E then s.cycle.extractLsb' 32 32 else g.clockh
    timeh := if idx.contains 0x20 then s.timer.extractLsb' 32 32 else g.timeh }
  if idx.any fun n => 0x10 ≤ n && n ≤ 0x2D && !specialGiven (s.group c.key).engine c.info.uniform n then s.tookFree else s

/-- What issuing counts (spec/02 R32, R34, spec/10 R234): program order, the lease's instruction count, the stall. -/
def Group.counted (g : Group) (f : Fields) (now : Nat) : Group :=
  let stall := now + f.st.toNat + 1
  { g with
    seq := g.seq + 1
    lease := { g.lease with count := g.lease.count + 1 }
    stallEnd := if g.lastIssue = some now then max g.stallEnd stall else stall
    lastIssue := some now
    yieldPass := g.yieldPass || f.yd }

/-- A boost falls for every 4,096 instructions without a lost-locality event (spec/10 R234). -/
def State.boostDue (s : State) (key : Nat) : State :=
  let l := (s.group key).lease
  if l.boost != 0 && l.decayFrom < l.count && (l.count - l.decayFrom) % 4096 = 0 then s.later (.boostDecay key) else s

/-- The operation of a word. -/
def Ctx.op (c : Ctx) (e : Effect) (kind : OpKind) (res : List RegResult) (due ns : Nat) : Op where
  group := c.key
  seq := c.seq
  pc := c.pc
  npc := c.next
  lanes := c.lanes
  active := c.active
  uni := c.info.uniform
  flag := if e.atIssue then 0 else c.f.sf.toNat
  issueNs := ns
  due := due
  kind := kind
  acc := e.acc
  res := res
  walked := e.acc.isEmpty
  left := false
  holds := e.holds
  ackLost := none
  mask := 0#8

/-- The operation put in flight, its flag counted (spec/02 R33). -/
def State.launchOp (s : State) (c : Ctx) (e : Effect) (res : List RegResult) : State :=
  match e.kind with
  | none => s
  | some k =>
    let id := s.nextId
    let due := if c.info.latency = 0 then (if k.fixed then s.timeOf c.key else s.now) + s.nextDelay
      else s.timeOf c.key + c.info.latency
    let s := if c.info.latency = 0 then s.tookDelay else s
    let s := { s.setOp id (c.op e k res due s.ns) with nextId := id + 1 }
    s.modGroup c.key fun g => { g.flagUp (if e.atIssue then 0 else c.f.sf.toNat) with holdOp := if e.holds then some id else g.holdOp }

/-- The selector and the lanes (spec/02 R35, R43, spec/09 R221). The cycle of the selector's read is that of the
earliest issue of the group's next instruction, ST + 1 cycles on, also for a word that then holds its group's issue
for longer (log 76). Until then the lanes stand where the results in flight will send them; what lands meanwhile from
elsewhere is seen at that cycle (`Group.turned`). -/
def State.moveLanes (s : State) (c : Ctx) (place : Option (State → List (DWord × LaneMask) → State)) : State :=
  let t := max s.cur.next (s.timeOf c.key + c.f.st.toNat + 1)
  let g := s.groupAt c.key t
  let moves := joinMoves (selectorMoves c g (s.group c.key))
  let turn (res : List RegResult) : State :=
    { s.setOp s.nextId { (c.op {} (.turn { c.turn with moves := moves }) res t s.ns) with flag := 0 } with
      nextId := s.nextId + 1 }
  let s := match c.f.nx with
    | .loop => turn [loopResult g]
    | .jut | .juf | .jidx => turn []
    | .jt | .jf => if c.f.modLo = 7 then s else turn []
    | .call | .ret => s.modGroup c.key fun g => { g with
        ret := Vector.ofFn fun i : Fin 32 =>
          if c.lanes.getLsbD i then g.ret[i].step c.f.nx c.next else g.ret[i] }
    | _ => s
  let s := s.modGroup c.key fun g => { g with table := (g.table.map fun e =>
      if e.pc = c.pc then { e with lanes := e.lanes &&& ~~~c.lanes } else e).filter fun e => e.lanes != 0#32 }
  let s := match place with
    | none => s.modGroup c.key fun g => g.placeAll moves
    | some f => f s moves
  if c.f.nx = .exit then
    (s.modGroup c.key fun g => settlePark 32 g).exitLanes c.key c.lanes else s

/-- For how many cycles a word takes its partition's lane pipe (spec/05 R109). -/
def occupies (i : Info) : Nat :=
  if i.uniform then 1
  else match i.layout with
    | .sp => if 0x5A ≤ i.op then 8 else 2
    | .da => if i.op = 0x48 || i.op = 0x49 || i.op = 0x4A || i.op = 0x4D then 4 else 1
    | _ => 1

/-- The lane pipe taken for a word's cycles; periods of two words of one cycle run one after the other. -/
def State.occupy (s : State) (c : Ctx) : State :=
  let n := occupies c.info
  if n = 1 then s
  else
    let part := partOf c.key
    { s with laneBusy := mapSet s.laneBusy part (max (mapGet s.laneBusy part 0) (s.now + 1) + (n - 1)) }

/-- A word issues with an effect. -/
def State.issue (s : State) (c : Ctx) (e : Effect) : State :=
  let g := s.group c.key
  let older := (s.oldestOp c.key).isSome
  let id := s.nextId
  let undo := if older || !e.acc.isEmpty then (e.res.flatMap (resultUndo g) ++ e.undo ++ selectorUndo g c.f c.lanes).map fun u =>
      (⟨c.seq, u⟩ : UndoEntry) else []
  let s := s.setGroup c.key { g with
    snaps := g.snaps ++ [(c.seq, g.paths)]
    undo := g.undo ++ undo }
  let s := s.afterReads c
  let s := s.modGroup c.key fun g => (markedNames s c).foldl (fun g n => g.unmap n c.seq) g
  let (s, res) := s.allocAll c.key c.seq e.res
  let s := s.modGroup c.key fun g => g.counted c.f (s.timeOf c.key)
  let s := s.launchOp c e res
  let s := s.moveLanes c e.place
  let s := e.now (s.occupy c) id
  (s.boostDue c.key).settle c.key

/-- A trap of a word before its operation. -/
def State.trapAt (s : State) (c : Ctx) (x : BitVec 8) (t : Word) : State := s.takeTrap c.key c.pc c.lanes x t

/-- A trap of a word noted while an older access can still fault: the group issues nothing more until it is taken, or
until a fault takes the group back (spec/08 R210, spec/10 R244). -/
def State.deferTrap (s : State) (c : Ctx) (x : BitVec 8) (t : Word) : State :=
  s.modGroup c.key fun g => { g with trapPend := some (c.pc, x, t) }

/-- Lanes whose transaction the word may not be in abort with code 9 and leave the path (spec/07 R171). -/
def State.abortBarred (s : State) (c : Ctx) (m : LaneMask) : State :=
  (lanesOf m).foldl (fun s l => s.abortTx c.key l 9 0) s

/-- The result of a word that no active lane executes: it writes no lane, but its main-file destination is allocated as
spec/03 R66 says (log 40). -/
def idleResult (c : Ctx) : List RegResult :=
  if c.info.mainNames.isEmpty then []
  else [⟨c.info.dest, c.info.dBits, Vector.replicate 32 0#128, 0#32, [], c.info.uniform, false⟩]

/-- A word that no active lane executes: a fixed-latency one still takes its time, a variable one completes at once
(spec/02 R33). -/
def idle (c : Ctx) : Effect := { res := idleResult c, kind := if c.info.latency = 0 then none else some .result }

/-- The word of an instruction runs at the path that executes, its own meaning answering once the gate lets it. -/
def issueWord (i : Instr) (act : State → Ctx → Act) (s : State) : Host.Outcome State Fault Refusal :=
  match i.info, mapGet? s.groups s.cur.group with
  | some info, some _ =>
    let c := s.ctx info
    match gate s c with
    | .hold => .next s
    | .trap x t => .next (s.trapAt c x t)
    | .defer x t => .next (s.deferTrap c x t)
    | .poison => .next (s.consumePoison c.key)
    | .abort m => .next (s.abortBarred c m)
    | .pass =>
      match linkSteps c (linkAccesses s c) s with
      | .hold => .next s
      | .fault s => .next s
      | .poison => .next (s.consumePoison c.key)
      | .ok s' =>
        if c.active = 0#32 then .next (s'.issue c (idle c))
        else match act s c with
          | .trap x t => .next (if olderFaults s c then s.deferTrap c x t else s.trapAt c x t)
          | .poison => .next (s.consumePoison c.key)
          | .go e => .next (s'.issue c e)
  | _, _ => .fault .noProgram

end Sys2Proof.Machine
end

