-- ==== Sys2Proof/Machine/Fetch.lean ====
section
/-! DEFINITION. Fetching and decoding the word at a path (spec/02 R22, R24), and which agent acts next (log 1). -/

namespace Sys2Proof.Machine

/-- What the fetch of a word comes to. -/
inductive FetchAct where
  /-- the word -/
  | word (w : InstrWord)
  /-- the translation is not held: a walk is needed -/
  | walk
  /-- the translation held lacks the right -/
  | fault (c : BitVec 8) (pa : Nat)
  /-- the line is poisoned -/
  | poison
  /-- no route to the line's home stands -/
  | wait
  deriving DecidableEq, Repr

/-- The virtual address of a group's word. -/
def Group.fetchVa (g : Group) (pc : DWord) : VAddr := vaddr g.codeSpace pc

/-- The word at an address of a group's code space (spec/02 R22), through the translation unit. -/
def State.fetchWord (s : State) (key : Nat) (pc : DWord) : FetchAct :=
  let g := s.group key
  let va := g.fetchVa pc
  match s.tluHit (dieOf key) g.ctx va with
  | none => .walk
  | some _ =>
    match s.translate (dieOf key) g.ctx va .fetch with
    | .ok pa _ _ _ =>
      if !s.homeReached (dieOf key) pa || s.pageFrozen pa || !s.lineFree (dieOf key) (lineOf pa) then .wait
      else if s.readsPoison pa then .poison else .word (wordOfBytes (readWith (s.viewByte (dieOf key)) pa 16))
    | .hold => .walk
    | .fault c pa => .fault c pa

/-- A fetch's fault record. -/
def fetchFault (g : Group) (pc : DWord) (lanes : LaneMask) (c : BitVec 8) (pa : Nat) : FaultAt :=
  ⟨g.fetchVa pc, c, false, true, false, .l, pa, pc, 0, 0, lanes⟩

/-- A fetch that cannot be translated makes its path's group replayable at the fetched address (spec/02 R22). -/
def State.fetchFaults (s : State) (key : Nat) (pc : DWord) (lanes : LaneMask) (c : BitVec 8) (pa : Nat) : State :=
  let g := s.group key
  s.faultGroup key g.seq (fetchFault g pc lanes c pa)

/-- What the chosen path comes to. -/
inductive PathAct where
  /-- an instruction to execute -/
  | instr (i : Instr)
  /-- no instruction: the state is what came of it -/
  | done (s : State)

/-- The path that executes, fetched and decoded. A word that fails a check of spec/02 R24 raises the precise
illegal-instruction trap with the check's number. -/
def State.chosenPath (s : State) : PathAct :=
  let c := s.cur
  match mapGet? s.groups c.group with
  | none => .done s
  | some g =>
    if !(s.mayRun c.group && g.hasPath c.pc c.lanes && s.stallOver c.group) then .done s
    else match s.fetchWord c.group c.pc with
    | .walk => .done (s.soon (.pageWalk (.fetch c.group c.pc)))
    | .fault x pa => .done (if s.olderFault c.group g.seq then s else s.fetchFaults c.group c.pc c.lanes x pa)
    | .poison => .done (if s.olderFault c.group g.seq then s else s.consumePoison c.group)
    | .wait => .done s
    | .word w =>
      match decode g.engine w with
      | .ok i => .instr i
      | .error n => .done (if s.olderFault c.group g.seq then s
          else s.takeTrap c.group c.pc c.lanes 0x01#8 (BitVec.ofNat 32 n))

/-- The next event: the head of the agenda, else the head of the inputs once its cycle has come. -/
def State.nextEvent (s : State) : Option (Event × State) :=
  match s.agenda with
  | e :: t => some (e, { s with agenda := t })
  | [] =>
    match s.inputs with
    | (n, e) :: t => if n ≤ s.now then some (e, { s with inputs := t, asker := e.requester.getD s.asker }) else none
    | [] => none

/-! ## A word placed where the next step fetches -/

/-- A context record with every field at its least legal value; its page tables are at 0. -/
def Context.plain : Context where
  ttbase := 0#52
  icw := 0x0E00#32
  wthresh := 20
  keySlot := 1
  attached := none
  part := 1#64
  saveOff := 0
  saveSz := 0
  teamSave := 0
  fhDesc := 0#64
  fhSpace := 0#16
  frLog := 4
  arLog := 4
  fring := 0#64
  aring := 0#64
  hwTab := 0#52
  hwCnt := 0
  frIndex := 0
  arIndex := 0
  unresF := []
  unresA := []
  binds := []
  ports := 0#64
  slots := 0#64
  barriers := 0#64
  timers := Vector.replicate 8 none
  keyGen := 0
  dueSince := none
  leftAt := 0
  gainedAt := 0
  chkFrom := []
  budFrom := []

/-- The key of the program that runs a word in `withFetchWord`. -/
def fetchKey : EngineKind → Nat
  | .partition => 0
  | .churn => churnKey 0
  | .circuit => scriptKey 0
  | .command => commandKey 0

/-- Where `withFetchWord` puts a word: its program counter. -/
def fetchPc : DWord := 0x1000#64

/-- A group of an engine about to issue the word at `fetchPc` with every lane it has. -/
def fetchGroup (e : EngineKind) : Group :=
  let lanes : LaneMask := if e = .partition then 0xFFFFFFFF#32 else 1#32
  { Group.blank with
    engine := e
    ctx := 1
    budget := 512
    exited := ~~~lanes
    table := [⟨fetchPc, lanes, 0⟩]
    lease := { Group.blank.lease with act := .active } }

/-- A state with a word where the next step fetches: a program resident on the word's engine in context 1, its page in
the translation unit, the word in near memory, and its path chosen (log 21). -/
def State.placeWord (s : State) (w : InstrWord) : State :=
  let e := wordEngine w
  let key := fetchKey e
  let s := s.storeGA 0 256 true 0 0x1000 (bytesOfWord w)
  { s with
    groups := mapSet s.groups key (fetchGroup e)
    contexts := mapSet s.contexts 1 Context.plain
    tlb := ⟨tluOf 0 0#80, 1, 0#80, false, 0#52, 0, ⟨true, true, true⟩⟩ :: s.tlb.filter fun x =>
      !(x.tlu = tluOf 0 0#80 && x.ctx = 1)
    poisoned := s.poisoned.filter fun l => l != lineOf 0x1000
    dies := mapDel s.dies 0
    resid := []
    cur := ⟨key, fetchPc, (fetchGroup e).table.foldl (fun m x => m ||| x.lanes) 0#32, 0⟩
    chosen := [⟨key, fetchPc, (fetchGroup e).table.foldl (fun m x => m ||| x.lanes) 0#32, 0⟩] }

end Sys2Proof.Machine
end

