-- ==== Sys2Proof/Machine/Compute.lean ====
section
/-! DEFINITION. The computation instructions of both pipes (spec/06): each reads its sources in the cycle it issues and
its result lands after its latency (R113, R115). -/

namespace Sys2Proof.Machine

/-- A result for a word's destination with a value for each lane. -/
def resultOf (c : Ctx) (vals : Lanes Val) : RegResult where
  dest := c.info.dest
  width := c.info.dBits
  vals := vals
  lanes := c.active
  targets := []
  uniform := c.info.uniform
  latch := c.info.writesLatch

/-- The effect of a word whose result lands after its latency. -/
def resultEffect (c : Ctx) (vals : Lanes Val) : Effect := { res := [resultOf c vals], kind := some .result }

/-- What a computation gives in every lane. -/
def mapLanes (g : Fields → Val → Val → Val → Val) (s : State) (c : Ctx) : Lanes Val :=
  Vector.ofFn fun i : Fin 32 => g c.f (srcVal s c 0 i) (srcVal s c 1 i) (srcVal s c 2 i)

/-- A computation made in each active lane from that lane's sources. -/
def compute (g : Fields → Val → Val → Val → Val) (s : State) (c : Ctx) : Act :=
  .go (resultEffect c (mapLanes g s c))

/-- The same value written in each active lane. -/
def everyLane (c : Ctx) (v : Val) : Act := .go (resultEffect c (Vector.replicate 32 v))

/-- NOP does nothing and takes its latency. -/
def idleAct (_ : State) (c : Ctx) : Act := .go (idle c)

/-! ## Predicates (spec/06 R124) -/

/-- A list of bits as a number, the first lowest. -/
def bitsVal (bit : Nat → Bool) (n : Nat) : Val :=
  BitVec.ofNat 128 ((List.range n).foldl (fun acc i => acc + if bit i then 2 ^ i else 0) 0)

/-- PTOX: bit n is kn; on the uniform pipe hn. -/
def ptoxAct (s : State) (c : Ctx) : Act :=
  let g := s.group c.key
  .go (resultEffect c (Vector.ofFn fun i : Fin 32 =>
    if c.info.uniform then bitsVal g.hBit 4 else bitsVal (fun n => g.kBit n i) 8))

/-- XTOP's result for predicate n: A[n] in the active lanes whose B[n] is 1. -/
def xtopResult (s : State) (c : Ctx) (n : Nat) : RegResult where
  dest := if c.info.uniform then .upred n else .pred n
  width := 1
  vals := Vector.ofFn fun i : Fin 32 => boolVal ((srcVal s c 0 i).getLsbD n)
  lanes := BitVec.ofNat 32 ((lanesOf c.active).foldl
    (fun acc i => acc + if (srcVal s c 1 i).getLsbD n then 2 ^ i else 0) 0)
  targets := []
  uniform := c.info.uniform
  latch := false

/-- XTOP. -/
def xtopAct (s : State) (c : Ctx) : Act :=
  .go { res := (xtopRegs s c).map (xtopResult s c), kind := some .result }

/-! ## Across lanes (spec/06 R133, R135-R137) -/

/-- PERM and its kin. -/
def permAct (src : Nat → Nat → Nat) (s : State) (c : Ctx) : Act :=
  .go (resultEffect c (permute src (srcLanes s c 0) (srcLanes s c 1)))

/-- VOTE. -/
def voteAct (s : State) (c : Ctx) : Act := everyLane c (boolVal (voteOf c.f.modHi c.active (srcLanes s c 0)))

/-- BALLOT. -/
def ballotAct (s : State) (c : Ctx) : Act :=
  everyLane c (ballotOf c.active fun n => laneVal (srcLanes s c 0) n != 0#128)

/-- MATCH. -/
def matchAct (s : State) (c : Ctx) : Act := .go (resultEffect c (matchLanes c.active (srcLanes s c 0)))

/-- GREDI. -/
def grediAct (s : State) (c : Ctx) : Act := everyLane c (grediOf c.f.modHi c.active (srcLanes s c 0))

/-- GREDF. -/
def gredfAct (s : State) (c : Ctx) : Act := everyLane c (gredfOf c.f.modHi c.active (srcLanes s c 0))

/-- GSCAN. -/
def gscanAct (s : State) (c : Ctx) : Act :=
  .go (resultEffect c (Vector.ofFn fun i : Fin 32 => gscanOf c.f.modHi c.active (srcLanes s c 0) i))

/-- D8SCALE. -/
def d8scaleAct (s : State) (c : Ctx) : Act := everyLane c (d8scaleOf c.f.faFmt c.active (srcLanes s c 0))

/-! ## The deep window (spec/03 R77, spec/06 R138) -/

/-- The deep-window-bound trap: the lowest active lane one of whose entries is not below DEEP. -/
def deepTrap (s : State) (c : Ctx) (words : Nat) : Option Nat :=
  (lanesOf c.active).find? fun l => s.deepOf (s.group c.key) < deepEntry s c l + words

/-- LDX. -/
def ldxAct (w : Width2) (s : State) (c : Ctx) : Act :=
  let words := w.bytes / 4
  match deepTrap s c words with
  | some l => .trap 0x05#8 (BitVec.ofNat 32 l)
  | none =>
    let g := s.group c.key
    if (lanesOf c.active).any fun l => (List.range words).any fun k =>
        g.poison.contains (.deep (deepEntry s c l + k) l) then .poison
    else .go (resultEffect c (Vector.ofFn fun i : Fin 32 =>
      wordsVal (fun k => g.deepWord (deepEntry s c i + k) i) words))

/-- The lanes and entries an STX writes, each with what `v` gives for it. -/
def deepCells (s : State) (c : Ctx) (words : Nat) (v : Nat → Nat → Nat → Word) : List (Nat × Nat × Word) :=
  (lanesOf c.active).flatMap fun l => (List.range words).map fun k => (l, deepEntry s c l + k, v l k (deepEntry s c l + k))

/-- STX. -/
def stxAct (w : Width2) (s : State) (c : Ctx) : Act :=
  let words := w.bytes / 4
  match deepTrap s c words with
  | some l => .trap 0x05#8 (BitVec.ofNat 32 l)
  | none =>
    let g := s.group c.key
    .go {
      kind := some (.deepStore (deepCells s c words fun l k _ => (srcVal s c 1 l).extractLsb' (32 * k) 32))
      undo := [.deep (deepCells s c words fun l _ e => g.deepWord e l) []] }

/-! ## Reading a lane (spec/06 R140) -/

/-- Does UREADL read a register that holds poison in the lane? -/
def readlPoison (s : State) (c : Ctx) (lane : Nat) : Bool :=
  let g := s.group c.key
  let n := c.f.a.index.toNat
  match c.f.a.level with
  | .main => match mapGet? g.x n with
    | some e => e.poison
    | none => false
  | .oper => g.poison.contains (.oper n)
  | .latch => (laneOf g.lat lane).poison
  | .special => false

/-- UREADL. -/
def ureadlAct (s : State) (c : Ctx) : Act :=
  let lane := natArg 5 (srcVal s c 1 0)
  if readlPoison s c lane then .poison
  else everyLane c (srcVal s c 0 lane)

/-! ## The instructions -/

/-- NOP (spec/06 R103). -/
def execNop (f : Fields) (s : State) : Host.Outcome State Fault Refusal := issueWord (.nop f) idleAct s
/-- IADD (spec/06 R117). -/
def execIadd (f : Fields) (s : State) : Host.Outcome State Fault Refusal := issueWord (.iadd f) (compute addVal) s
/-- ISUB (spec/06 R117). -/
def execIsub (f : Fields) (s : State) : Host.Outcome State Fault Refusal := issueWord (.isub f) (compute subVal) s
/-- IMUL (spec/06 R117). -/
def execImul (f : Fields) (s : State) : Host.Outcome State Fault Refusal := issueWord (.imul f) (compute mulVal) s
/-- IMULHI (spec/06 R117). -/
def execImulhi (f : Fields) (s : State) : Host.Outcome State Fault Refusal := issueWord (.imulhi f) (compute mulhiVal) s
/-- IMAD (spec/06 R117). -/
def execImad (f : Fields) (s : State) : Host.Outcome State Fault Refusal := issueWord (.imad f) (compute madVal) s
/-- IMIN (spec/06 R117). -/
def execImin (f : Fields) (s : State) : Host.Outcome State Fault Refusal := issueWord (.imin f) (compute iminVal) s
/-- IMAX (spec/06 R117). -/
def execImax (f : Fields) (s : State) : Host.Outcome State Fault Refusal := issueWord (.imax f) (compute imaxVal) s
/-- IABS (spec/06 R117). -/
def execIabs (f : Fields) (s : State) : Host.Outcome State Fault Refusal := issueWord (.iabs f) (compute iabsVal) s
/-- IDIV (spec/06 R117). -/
def execIdiv (f : Fields) (s : State) : Host.Outcome State Fault Refusal := issueWord (.idiv f) (compute divVal) s
/-- IREM (spec/06 R117). -/
def execIrem (f : Fields) (s : State) : Host.Outcome State Fault Refusal := issueWord (.irem f) (compute remVal) s
/-- ISAD (spec/06 R117). -/
def execIsad (f : Fields) (s : State) : Host.Outcome State Fault Refusal := issueWord (.isad f) (compute sadVal) s
/-- IDP4 (spec/06 R117). -/
def execIdp4 (f : Fields) (s : State) : Host.Outcome State Fault Refusal := issueWord (.idp4 f) (compute dp4Val) s
/-- ISUM (spec/06 R117). -/
def execIsum (f : Fields) (s : State) : Host.Outcome State Fault Refusal := issueWord (.isum f) (compute sumVal) s
/-- IMADW (spec/06 R117). -/
def execImadw (f : Fields) (s : State) : Host.Outcome State Fault Refusal := issueWord (.imadw f) (compute madwVal) s
/-- LEA (spec/06 R119). -/
def execLea (f : Fields) (s : State) : Host.Outcome State Fault Refusal := issueWord (.lea f) (compute leaVal) s
/-- LEAS (spec/06 R119). -/
def execLeas (f : Fields) (s : State) : Host.Outcome State Fault Refusal := issueWord (.leas f) (compute leasVal) s
/-- AND (spec/06 R120). -/
def execAnd (f : Fields) (s : State) : Host.Outcome State Fault Refusal := issueWord (.and f) (compute andVal) s
/-- OR (spec/06 R120). -/
def execOr (f : Fields) (s : State) : Host.Outcome State Fault Refusal := issueWord (.or f) (compute orVal) s
/-- XOR (spec/06 R120). -/
def execXor (f : Fields) (s : State) : Host.Outcome State Fault Refusal := issueWord (.xor f) (compute xorVal) s
/-- LUT3 (spec/06 R120). -/
def execLut3 (f : Fields) (s : State) : Host.Outcome State Fault Refusal := issueWord (.lut3 f) (compute lut3Val) s
/-- SHL (spec/06 R120). -/
def execShl (f : Fields) (s : State) : Host.Outcome State Fault Refusal := issueWord (.shl f) (compute shlVal) s
/-- SHR (spec/06 R120). -/
def execShr (f : Fields) (s : State) : Host.Outcome State Fault Refusal := issueWord (.shr f) (compute shrVal) s
/-- SAR (spec/06 R120). -/
def execSar (f : Fields) (s : State) : Host.Outcome State Fault Refusal := issueWord (.sar f) (compute sarVal) s
/-- ROT (spec/06 R120). -/
def execRot (f : Fields) (s : State) : Host.Outcome State Fault Refusal := issueWord (.rot f) (compute rotVal) s
/-- CATSH (spec/06 R120). -/
def execCatsh (f : Fields) (s : State) : Host.Outcome State Fault Refusal := issueWord (.catsh f) (compute catshVal) s
/-- BXTR (spec/06 R120). -/
def execBxtr (f : Fields) (s : State) : Host.Outcome State Fault Refusal := issueWord (.bxtr f) (compute bxtrVal) s
/-- BINS (spec/06 R120). -/
def execBins (f : Fields) (s : State) : Host.Outcome State Fault Refusal := issueWord (.bins f) (compute binsVal) s
/-- ONES (spec/06 R120). -/
def execOnes (f : Fields) (s : State) : Host.Outcome State Fault Refusal := issueWord (.ones f) (compute onesVal) s
/-- CLZ (spec/06 R120). -/
def execClz (f : Fields) (s : State) : Host.Outcome State Fault Refusal := issueWord (.clz f) (compute clzVal) s
/-- BITREV (spec/06 R120). -/
def execBitrev (f : Fields) (s : State) : Host.Outcome State Fault Refusal := issueWord (.bitrev f) (compute bitrevVal) s
/-- BYSEL (spec/06 R120). -/
def execBysel (f : Fields) (s : State) : Host.Outcome State Fault Refusal := issueWord (.bysel f) (compute byselVal) s
/-- ICMP (spec/06 R123). -/
def execIcmp (f : Fields) (s : State) : Host.Outcome State Fault Refusal := issueWord (.icmp f) (compute icmpVal) s
/-- FCMP (spec/06 R123). -/
def execFcmp (f : Fields) (s : State) : Host.Outcome State Fault Refusal := issueWord (.fcmp f) (compute fcmpVal) s
/-- DCMP (spec/06 R123). -/
def execDcmp (f : Fields) (s : State) : Host.Outcome State Fault Refusal := issueWord (.dcmp f) (compute dcmpVal) s
/-- D8CMP (spec/06 R123). -/
def execD8cmp (f : Fields) (s : State) : Host.Outcome State Fault Refusal := issueWord (.d8cmp f) (compute d8cmpVal) s
/-- PLOG (spec/06 R124). -/
def execPlog (f : Fields) (s : State) : Host.Outcome State Fault Refusal := issueWord (.plog f) (compute plogVal) s
/-- PTOX (spec/06 R124). -/
def execPtox (f : Fields) (s : State) : Host.Outcome State Fault Refusal := issueWord (.ptox f) ptoxAct s
/-- XTOP (spec/06 R124). -/
def execXtop (f : Fields) (s : State) : Host.Outcome State Fault Refusal := issueWord (.xtop f) xtopAct s
/-- FCLASS (spec/06 R126). -/
def execFclass (f : Fields) (s : State) : Host.Outcome State Fault Refusal := issueWord (.fclass f) (compute fclassVal) s
/-- MOV (spec/06 R125). -/
def execMov (f : Fields) (s : State) : Host.Outcome State Fault Refusal := issueWord (.mov f) (compute movVal) s
/-- SEL (spec/06 R125). -/
def execSel (f : Fields) (s : State) : Host.Outcome State Fault Refusal := issueWord (.sel f) (compute selVal) s
/-- MOVQ (spec/06 R125). -/
def execMovq (f : Fields) (s : State) : Host.Outcome State Fault Refusal := issueWord (.movq f) (compute movVal) s
/-- FADD (spec/06 R126). -/
def execFadd (f : Fields) (s : State) : Host.Outcome State Fault Refusal := issueWord (.fadd f) (compute faddVal) s
/-- FMUL (spec/06 R126). -/
def execFmul (f : Fields) (s : State) : Host.Outcome State Fault Refusal := issueWord (.fmul f) (compute fmulVal) s
/-- FFMA (spec/06 R126). -/
def execFfma (f : Fields) (s : State) : Host.Outcome State Fault Refusal := issueWord (.ffma f) (compute ffmaVal) s
/-- FMIN (spec/06 R126). -/
def execFmin (f : Fields) (s : State) : Host.Outcome State Fault Refusal := issueWord (.fmin f) (compute fminVal) s
/-- FMAX (spec/06 R126). -/
def execFmax (f : Fields) (s : State) : Host.Outcome State Fault Refusal := issueWord (.fmax f) (compute fmaxVal) s
/-- FINT (spec/06 R126). -/
def execFint (f : Fields) (s : State) : Host.Outcome State Fault Refusal := issueWord (.fint f) (compute fintVal) s
/-- FABS (spec/06 R126). -/
def execFabs (f : Fields) (s : State) : Host.Outcome State Fault Refusal := issueWord (.fabs f) (compute fabsVal) s
/-- DADD (spec/06 R126). -/
def execDadd (f : Fields) (s : State) : Host.Outcome State Fault Refusal := issueWord (.dadd f) (compute daddVal) s
/-- DMUL (spec/06 R126). -/
def execDmul (f : Fields) (s : State) : Host.Outcome State Fault Refusal := issueWord (.dmul f) (compute dmulVal) s
/-- DFMA (spec/06 R126). -/
def execDfma (f : Fields) (s : State) : Host.Outcome State Fault Refusal := issueWord (.dfma f) (compute dfmaVal) s
/-- DMIN (spec/06 R126). -/
def execDmin (f : Fields) (s : State) : Host.Outcome State Fault Refusal := issueWord (.dmin f) (compute dminVal) s
/-- DMAX (spec/06 R126). -/
def execDmax (f : Fields) (s : State) : Host.Outcome State Fault Refusal := issueWord (.dmax f) (compute dmaxVal) s
/-- DINT (spec/06 R126). -/
def execDint (f : Fields) (s : State) : Host.Outcome State Fault Refusal := issueWord (.dint f) (compute dintVal) s
/-- DABS (spec/06 R126). -/
def execDabs (f : Fields) (s : State) : Host.Outcome State Fault Refusal := issueWord (.dabs f) (compute dabsVal) s
/-- FRCP (spec/06 R130). -/
def execFrcp (f : Fields) (s : State) : Host.Outcome State Fault Refusal := issueWord (.frcp f) (compute frcpVal) s
/-- FRSQ (spec/06 R130). -/
def execFrsq (f : Fields) (s : State) : Host.Outcome State Fault Refusal := issueWord (.frsq f) (compute frsqVal) s
/-- FSQRT (spec/06 R130). -/
def execFsqrt (f : Fields) (s : State) : Host.Outcome State Fault Refusal := issueWord (.fsqrt f) (compute fsqrtVal) s
/-- FEX2 (spec/06 R130). -/
def execFex2 (f : Fields) (s : State) : Host.Outcome State Fault Refusal := issueWord (.fex2 f) (compute fex2Val) s
/-- FLG2 (spec/06 R130). -/
def execFlg2 (f : Fields) (s : State) : Host.Outcome State Fault Refusal := issueWord (.flg2 f) (compute flg2Val) s
/-- FEX10 (spec/06 R130). -/
def execFex10 (f : Fields) (s : State) : Host.Outcome State Fault Refusal := issueWord (.fex10 f) (compute fex10Val) s
/-- FLG10 (spec/06 R130). -/
def execFlg10 (f : Fields) (s : State) : Host.Outcome State Fault Refusal := issueWord (.flg10 f) (compute flg10Val) s
/-- FSIN (spec/06 R130). -/
def execFsin (f : Fields) (s : State) : Host.Outcome State Fault Refusal := issueWord (.fsin f) (compute fsinVal) s
/-- FCOS (spec/06 R130). -/
def execFcos (f : Fields) (s : State) : Host.Outcome State Fault Refusal := issueWord (.fcos f) (compute fcosVal) s
/-- FDIV (spec/06 R130). -/
def execFdiv (f : Fields) (s : State) : Host.Outcome State Fault Refusal := issueWord (.fdiv f) (compute fdivVal) s
/-- DRCP (spec/06 R130). -/
def execDrcp (f : Fields) (s : State) : Host.Outcome State Fault Refusal := issueWord (.drcp f) (compute drcpVal) s
/-- DSQRT (spec/06 R130). -/
def execDsqrt (f : Fields) (s : State) : Host.Outcome State Fault Refusal := issueWord (.dsqrt f) (compute dsqrtVal) s
/-- DDIV (spec/06 R130). -/
def execDdiv (f : Fields) (s : State) : Host.Outcome State Fault Refusal := issueWord (.ddiv f) (compute ddivVal) s
/-- CVTI2F (spec/06 R131). -/
def execCvti2f (f : Fields) (s : State) : Host.Outcome State Fault Refusal := issueWord (.cvti2f f) (compute cvti2fVal) s
/-- CVTF2I (spec/06 R131). -/
def execCvtf2i (f : Fields) (s : State) : Host.Outcome State Fault Refusal := issueWord (.cvtf2i f) (compute cvtf2iVal) s
/-- CVTF2F (spec/06 R131). -/
def execCvtf2f (f : Fields) (s : State) : Host.Outcome State Fault Refusal := issueWord (.cvtf2f f) (compute cvtf2fVal) s
/-- CVTI2I (spec/06 R131). -/
def execCvti2i (f : Fields) (s : State) : Host.Outcome State Fault Refusal := issueWord (.cvti2i f) (compute cvti2iVal) s
/-- D8PACK (spec/06 R132). -/
def execD8pack (f : Fields) (s : State) : Host.Outcome State Fault Refusal := issueWord (.d8pack f) (compute d8packVal) s
/-- D8UNPK (spec/06 R132). -/
def execD8unpk (f : Fields) (s : State) : Host.Outcome State Fault Refusal := issueWord (.d8unpk f) (compute d8unpkVal) s
/-- D8SCALE (spec/06 R132). -/
def execD8scale (f : Fields) (s : State) : Host.Outcome State Fault Refusal := issueWord (.d8scale f) d8scaleAct s
/-- D8MIN (spec/06 R132). -/
def execD8min (f : Fields) (s : State) : Host.Outcome State Fault Refusal := issueWord (.d8min f) (compute d8minVal) s
/-- D8MAX (spec/06 R132). -/
def execD8max (f : Fields) (s : State) : Host.Outcome State Fault Refusal := issueWord (.d8max f) (compute d8maxVal) s
/-- PKADD (spec/06 R129). -/
def execPkadd (f : Fields) (s : State) : Host.Outcome State Fault Refusal := issueWord (.pkadd f) (compute pkaddVal) s
/-- PKMUL (spec/06 R129). -/
def execPkmul (f : Fields) (s : State) : Host.Outcome State Fault Refusal := issueWord (.pkmul f) (compute pkmulVal) s
/-- PKFMA (spec/06 R129). -/
def execPkfma (f : Fields) (s : State) : Host.Outcome State Fault Refusal := issueWord (.pkfma f) (compute pkfmaVal) s
/-- PKMIN (spec/06 R129). -/
def execPkmin (f : Fields) (s : State) : Host.Outcome State Fault Refusal := issueWord (.pkmin f) (compute pkminVal) s
/-- PKMAX (spec/06 R129). -/
def execPkmax (f : Fields) (s : State) : Host.Outcome State Fault Refusal := issueWord (.pkmax f) (compute pkmaxVal) s
/-- PERM (spec/06 R135). -/
def execPerm (f : Fields) (s : State) : Host.Outcome State Fault Refusal := issueWord (.perm f) (permAct permLane) s
/-- PERMUP (spec/06 R135). -/
def execPermup (f : Fields) (s : State) : Host.Outcome State Fault Refusal := issueWord (.permup f) (permAct permupLane) s
/-- PERMDN (spec/06 R135). -/
def execPermdn (f : Fields) (s : State) : Host.Outcome State Fault Refusal := issueWord (.permdn f) (permAct permdnLane) s
/-- PERMX (spec/06 R135). -/
def execPermx (f : Fields) (s : State) : Host.Outcome State Fault Refusal := issueWord (.permx f) (permAct permxLane) s
/-- VOTE (spec/06 R135). -/
def execVote (f : Fields) (s : State) : Host.Outcome State Fault Refusal := issueWord (.vote f) voteAct s
/-- BALLOT (spec/06 R135). -/
def execBallot (f : Fields) (s : State) : Host.Outcome State Fault Refusal := issueWord (.ballot f) ballotAct s
/-- MATCH (spec/06 R135). -/
def execMatchEq (f : Fields) (s : State) : Host.Outcome State Fault Refusal := issueWord (.matchEq f) matchAct s
/-- GREDI (spec/06 R135). -/
def execGredi (f : Fields) (s : State) : Host.Outcome State Fault Refusal := issueWord (.gredi f) grediAct s
/-- GREDF (spec/06 R135). -/
def execGredf (f : Fields) (s : State) : Host.Outcome State Fault Refusal := issueWord (.gredf f) gredfAct s
/-- GSCAN (spec/06 R135). -/
def execGscan (f : Fields) (s : State) : Host.Outcome State Fault Refusal := issueWord (.gscan f) gscanAct s
/-- UNOP (spec/06 R103). -/
def execUnop (f : Fields) (s : State) : Host.Outcome State Fault Refusal := issueWord (.unop f) idleAct s
/-- UIADD (spec/06 R117). -/
def execUiadd (f : Fields) (s : State) : Host.Outcome State Fault Refusal := issueWord (.uiadd f) (compute addVal) s
/-- UISUB (spec/06 R117). -/
def execUisub (f : Fields) (s : State) : Host.Outcome State Fault Refusal := issueWord (.uisub f) (compute subVal) s
/-- UIMUL (spec/06 R117). -/
def execUimul (f : Fields) (s : State) : Host.Outcome State Fault Refusal := issueWord (.uimul f) (compute mulVal) s
/-- UIMULHI (spec/06 R117). -/
def execUimulhi (f : Fields) (s : State) : Host.Outcome State Fault Refusal := issueWord (.uimulhi f) (compute mulhiVal) s
/-- UIMAD (spec/06 R117). -/
def execUimad (f : Fields) (s : State) : Host.Outcome State Fault Refusal := issueWord (.uimad f) (compute madVal) s
/-- UIMIN (spec/06 R117). -/
def execUimin (f : Fields) (s : State) : Host.Outcome State Fault Refusal := issueWord (.uimin f) (compute iminVal) s
/-- UIMAX (spec/06 R117). -/
def execUimax (f : Fields) (s : State) : Host.Outcome State Fault Refusal := issueWord (.uimax f) (compute imaxVal) s
/-- UIABS (spec/06 R117). -/
def execUiabs (f : Fields) (s : State) : Host.Outcome State Fault Refusal := issueWord (.uiabs f) (compute iabsVal) s
/-- UIDIV (spec/06 R117). -/
def execUidiv (f : Fields) (s : State) : Host.Outcome State Fault Refusal := issueWord (.uidiv f) (compute divVal) s
/-- UIREM (spec/06 R117). -/
def execUirem (f : Fields) (s : State) : Host.Outcome State Fault Refusal := issueWord (.uirem f) (compute remVal) s
/-- UISAD (spec/06 R117). -/
def execUisad (f : Fields) (s : State) : Host.Outcome State Fault Refusal := issueWord (.uisad f) (compute sadVal) s
/-- UIDP4 (spec/06 R117). -/
def execUidp4 (f : Fields) (s : State) : Host.Outcome State Fault Refusal := issueWord (.uidp4 f) (compute dp4Val) s
/-- UISUM (spec/06 R117). -/
def execUisum (f : Fields) (s : State) : Host.Outcome State Fault Refusal := issueWord (.uisum f) (compute sumVal) s
/-- UIMADW (spec/06 R117). -/
def execUimadw (f : Fields) (s : State) : Host.Outcome State Fault Refusal := issueWord (.uimadw f) (compute madwVal) s
/-- ULEA (spec/06 R119). -/
def execUlea (f : Fields) (s : State) : Host.Outcome State Fault Refusal := issueWord (.ulea f) (compute leaVal) s
/-- ULEAS (spec/06 R119). -/
def execUleas (f : Fields) (s : State) : Host.Outcome State Fault Refusal := issueWord (.uleas f) (compute leasVal) s
/-- UAND (spec/06 R120). -/
def execUand (f : Fields) (s : State) : Host.Outcome State Fault Refusal := issueWord (.uand f) (compute andVal) s
/-- UOR (spec/06 R120). -/
def execUor (f : Fields) (s : State) : Host.Outcome State Fault Refusal := issueWord (.uor f) (compute orVal) s
/-- UXOR (spec/06 R120). -/
def execUxor (f : Fields) (s : State) : Host.Outcome State Fault Refusal := issueWord (.uxor f) (compute xorVal) s
/-- ULUT3 (spec/06 R120). -/
def execUlut3 (f : Fields) (s : State) : Host.Outcome State Fault Refusal := issueWord (.ulut3 f) (compute lut3Val) s
/-- USHL (spec/06 R120). -/
def execUshl (f : Fields) (s : State) : Host.Outcome State Fault Refusal := issueWord (.ushl f) (compute shlVal) s
/-- USHR (spec/06 R120). -/
def execUshr (f : Fields) (s : State) : Host.Outcome State Fault Refusal := issueWord (.ushr f) (compute shrVal) s
/-- USAR (spec/06 R120). -/
def execUsar (f : Fields) (s : State) : Host.Outcome State Fault Refusal := issueWord (.usar f) (compute sarVal) s
/-- UROT (spec/06 R120). -/
def execUrot (f : Fields) (s : State) : Host.Outcome State Fault Refusal := issueWord (.urot f) (compute rotVal) s
/-- UCATSH (spec/06 R120). -/
def execUcatsh (f : Fields) (s : State) : Host.Outcome State Fault Refusal := issueWord (.ucatsh f) (compute catshVal) s
/-- UBXTR (spec/06 R120). -/
def execUbxtr (f : Fields) (s : State) : Host.Outcome State Fault Refusal := issueWord (.ubxtr f) (compute bxtrVal) s
/-- UBINS (spec/06 R120). -/
def execUbins (f : Fields) (s : State) : Host.Outcome State Fault Refusal := issueWord (.ubins f) (compute binsVal) s
/-- UONES (spec/06 R120). -/
def execUones (f : Fields) (s : State) : Host.Outcome State Fault Refusal := issueWord (.uones f) (compute onesVal) s
/-- UCLZ (spec/06 R120). -/
def execUclz (f : Fields) (s : State) : Host.Outcome State Fault Refusal := issueWord (.uclz f) (compute clzVal) s
/-- UBITREV (spec/06 R120). -/
def execUbitrev (f : Fields) (s : State) : Host.Outcome State Fault Refusal := issueWord (.ubitrev f) (compute bitrevVal) s
/-- UBYSEL (spec/06 R120). -/
def execUbysel (f : Fields) (s : State) : Host.Outcome State Fault Refusal := issueWord (.ubysel f) (compute byselVal) s
/-- UICMP (spec/06 R123). -/
def execUicmp (f : Fields) (s : State) : Host.Outcome State Fault Refusal := issueWord (.uicmp f) (compute icmpVal) s
/-- UFCMP (spec/06 R123). -/
def execUfcmp (f : Fields) (s : State) : Host.Outcome State Fault Refusal := issueWord (.ufcmp f) (compute fcmpVal) s
/-- UPLOG (spec/06 R124). -/
def execUplog (f : Fields) (s : State) : Host.Outcome State Fault Refusal := issueWord (.uplog f) (compute plogVal) s
/-- UPTOX (spec/06 R124). -/
def execUptox (f : Fields) (s : State) : Host.Outcome State Fault Refusal := issueWord (.uptox f) ptoxAct s
/-- UXTOP (spec/06 R124). -/
def execUxtop (f : Fields) (s : State) : Host.Outcome State Fault Refusal := issueWord (.uxtop f) xtopAct s
/-- UMOV (spec/06 R125). -/
def execUmov (f : Fields) (s : State) : Host.Outcome State Fault Refusal := issueWord (.umov f) (compute movVal) s
/-- USEL (spec/06 R125). -/
def execUsel (f : Fields) (s : State) : Host.Outcome State Fault Refusal := issueWord (.usel f) (compute selVal) s
/-- UFADD (spec/06 R126). -/
def execUfadd (f : Fields) (s : State) : Host.Outcome State Fault Refusal := issueWord (.ufadd f) (compute faddVal) s
/-- UFMUL (spec/06 R126). -/
def execUfmul (f : Fields) (s : State) : Host.Outcome State Fault Refusal := issueWord (.ufmul f) (compute fmulVal) s
/-- UFFMA (spec/06 R126). -/
def execUffma (f : Fields) (s : State) : Host.Outcome State Fault Refusal := issueWord (.uffma f) (compute ffmaVal) s
/-- UFMIN (spec/06 R126). -/
def execUfmin (f : Fields) (s : State) : Host.Outcome State Fault Refusal := issueWord (.ufmin f) (compute fminVal) s
/-- UFMAX (spec/06 R126). -/
def execUfmax (f : Fields) (s : State) : Host.Outcome State Fault Refusal := issueWord (.ufmax f) (compute fmaxVal) s
/-- UCVTI2F (spec/06 R131). -/
def execUcvti2f (f : Fields) (s : State) : Host.Outcome State Fault Refusal := issueWord (.ucvti2f f) (compute cvti2fVal) s
/-- UCVTF2I (spec/06 R131). -/
def execUcvtf2i (f : Fields) (s : State) : Host.Outcome State Fault Refusal := issueWord (.ucvtf2i f) (compute cvtf2iVal) s
/-- LDX (spec/06 R138). -/
def execLdx (w : Width2) (f : Fields) (s : State) : Host.Outcome State Fault Refusal := issueWord (.ldx w f) (ldxAct w) s
/-- STX (spec/06 R138). -/
def execStx (w : Width2) (f : Fields) (s : State) : Host.Outcome State Fault Refusal := issueWord (.stx w f) (stxAct w) s
/-- UREADL (spec/06 R140). -/
def execUreadl (f : Fields) (s : State) : Host.Outcome State Fault Refusal := issueWord (.ureadl f) ureadlAct s

end Sys2Proof.Machine
end

