-- ==== Sys2Proof/Machine/Memory.lean ====
section
/-! DEFINITION. Loads, prefetch, stores, atomics, reductions and remote operations (spec/07 R141-R163): what each does as
it issues, and what its later phases do. -/

namespace Sys2Proof.Machine

/-! ## Addresses (spec/07 R141, R142) -/

/-- The virtual address of a lane's access. -/
def accessVa (s : State) (c : Ctx) (lane : Nat) : VAddr :=
  vaddr (vget (s.group c.key).s (c.f.b.index.toNat - 0x60) 0#16)
    ((srcVal s c 0 lane).setWidth 64 + c.f.imm.signExtend 64)

/-- The accesses of a word's active lanes, with the data of field C. -/
def accessesOf (s : State) (c : Ctx) (size : Nat) : List Access :=
  (lanesOf c.active).map fun l => ⟨l, accessVa s c l, size, srcVal s c 2 l, none, false, false, 0#128, none⟩

/-- The lowest lane whose address is not a multiple of the width. -/
def misaligned (acc : List Access) : Option Nat := (acc.find? fun a => a.va.toNat % a.size != 0).map (·.lane)

/-- A memory access of path L: misaligned lanes trap; else its operation goes in flight and passes its fault point at
once where a cache holds every line (spec/07 R142, R147). -/
def accessAct (kind : OpKind) (size : Nat) (hint : Nat) (res : List RegResult) (s : State) (c : Ctx) : Act :=
  let acc := accessesOf s c size
  match misaligned acc with
  | some l => .trap 0x06#8 (BitVec.ofNat 32 l)
  | none => .go {
      res := res
      kind := some kind
      acc := acc
      now := fun s id => (if hint = 0 then s.sampleAccesses c.key acc else s).walkOp false id }

/-- The result an access will write. -/
def pendingResult (c : Ctx) : List RegResult := [resultOf c (Vector.replicate 32 0#128)]

/-- LD and ULD. -/
def loadAct (size : Nat) (signed : Bool) (s : State) (c : Ctx) : Act :=
  accessAct (.load signed none c.f.modHi) size c.f.modHi (pendingResult c) s c

/-- The scope of a word, on the engine that issues it. -/
def scopeOf (s : State) (c : Ctx) : Scope :=
  Scope.onEngine (s.group c.key).engine ((Scope.ofCode c.f.modHi).getD .group)

/-- LDA and ULDA. -/
def acquireAct (w : Width2) (s : State) (c : Ctx) : Act :=
  accessAct (.load false (some (scopeOf s c)) 0) w.bytes 0 (pendingResult c) s c

/-- PREF: exempt from the alignment test; it completes at issue (spec/07 R142, R148, R151). -/
def prefAct (s : State) (c : Ctx) : Act :=
  let acc := accessesOf s c 1
  .go {
    kind := some (.pref c.f.modHi)
    acc := acc
    atIssue := true
    now := fun s id => (if c.f.modHi = 0 then s.sampleAccesses c.key acc else s).walkOp false id }

/-- ST and UST. -/
def storeAct (size : Nat) (m : StoreMode) (s : State) (c : Ctx) : Act :=
  accessAct (.store m none) size c.f.modHi [] s c

/-- STR and USTR. -/
def releaseAct (w : Width2) (m : StoreMode) (s : State) (c : Ctx) : Act :=
  accessAct (.store m (some (scopeOf s c))) w.bytes 0 [] s c

/-- Bytes of an AT type. -/
def atBytes (ty : Nat) : Nat := if atTy64 ty then 8 else 4

/-- ATOM and UATOM. -/
def atomAct (op : AtomOp) (m : StoreMode) (s : State) (c : Ctx) : Act :=
  accessAct (.atom op m (scopeOf s c) c.f.modLo) (atBytes c.f.modLo) 0 (pendingResult c) s c

/-- RED and URED. -/
def redAct (op : RedOp) (m : StoreMode) (s : State) (c : Ctx) : Act :=
  accessAct (.red op.toAtom m (scopeOf s c) c.f.modLo) (atBytes c.f.modLo) 0 [] s c

/-! ## Remote operations (spec/07 R161-R163) -/

/-- The peer context a context is bound to at a package (spec/17 R325). -/
def State.bindingOf (s : State) (ctx peer : Nat) : Option Nat :=
  match s.context ctx with
  | some c => mapGet? c.binds peer
  | none => none

/-- The peer a lane names. -/
def peerOf (s : State) (c : Ctx) (lane : Nat) : Nat := ((srcVal s c 1 lane).extractLsb' 16 6).toNat

/-- Is a lane's peer register one that the remote-access fault turns away (spec/07 R162)? -/
def remoteBad (s : State) (c : Ctx) (lane : Nat) : Bool :=
  (srcVal s c 1 lane).extractLsb' 22 10 != 0#10 || peerOf s c lane == s.package
    || !s.pod.getLsbD (peerOf s c lane) || (s.bindingOf (s.group c.key).ctx (peerOf s c lane)).isNone

/-- The accesses of a remote operation. -/
def remoteAccesses (s : State) (c : Ctx) (size : Nat) : List Access :=
  (lanesOf c.active).map fun l =>
    ⟨l, vaddr ((srcVal s c 1 l).setWidth 16) ((srcVal s c 0 l).setWidth 64 + c.f.imm.signExtend 64), size,
      srcVal s c 2 l, none, false, false, 0#128, some (peerOf s c l)⟩

/-- An operation that has no fault point of its own marked as past it. -/
def State.markWalked (s : State) (id : Nat) : State :=
  match mapGet? s.ops id with
  | some o => s.setOp id { o with walked := true }
  | none => s

/-- A remote operation. -/
def remoteAct (kind : OpKind) (size : Nat) (res : List RegResult) (s : State) (c : Ctx) : Act :=
  let acc := remoteAccesses s c size
  match misaligned acc with
  | some l => .trap 0x06#8 (BitVec.ofNat 32 l)
  | none => match (lanesOf c.active).find? (remoteBad s c) with
    | some l => .trap 0x0D#8 (BitVec.ofNat 32 l)
    | none => .go { res := res, kind := some kind, acc := acc, now := fun s id => s.markWalked id }

/-- RLD and URLD. -/
def rldAct (w : Width2) (s : State) (c : Ctx) : Act := remoteAct .rld w.bytes (pendingResult c) s c
/-- RST and URST. -/
def rstAct (w : Width2) (s : State) (c : Ctx) : Act := remoteAct .rst w.bytes [] s c
/-- RATOM. -/
def ratomAct (op : AtomOp) (s : State) (c : Ctx) : Act :=
  remoteAct (.ratom op c.f.modLo) (atBytes c.f.modLo) (pendingResult c) s c
/-- FFENCE and UFFENCE. -/
def ffenceAct (s : State) (c : Ctx) : Act := remoteAct .ffence 4 [] s c

/-! ## What an atomic computes (spec/07 R158) -/

/-- The float format of an AT type. -/
def atFloat (ty : Nat) : Option FloatFmt := if ty = 4 then some .f32 else if ty = 5 then some .f64 else none

/-- Bits of an AT type. -/
def atBits (ty : Nat) : Nat := if atTy64 ty then 64 else 32

/-- Is an AT type signed? -/
def atSigned (ty : Nat) : Bool := ty = 1 || ty = 3

/-- The value an atomic stores over `old`, none when a `.cas` fails. -/
def atomNew (op : AtomOp) (ty : Nat) (old c : Val) : Option Val :=
  let w := atBits ty
  match op with
  | .add => some (match atFloat ty with
    | some t => faddIn t .rn old c
    | none => wrapInt w (natArg w old + natArg w c : Int))
  | .min => some (match atFloat ty with
    | some t => fminIn t old c
    | none => if intArg (atSigned ty) w c < intArg (atSigned ty) w old then lowBits w c else old)
  | .max => some (match atFloat ty with
    | some t => fmaxIn t old c
    | none => if intArg (atSigned ty) w old < intArg (atSigned ty) w c then lowBits w c else old)
  | .and => some (old &&& lowBits w c)
  | .or => some (old ||| lowBits w c)
  | .xor => some (old ^^^ lowBits w c)
  | .exch => some (lowBits w c)
  | .cas => if old = lowBits w c then some (lowBits w (c >>> w)) else none

/-! ## The home's write queue (spec/07 R159, R160) -/

/-- A store by the home on behalf of a core of a die: other copies of the line are invalidated, the core's own updated
(spec/11 R248). -/
def State.homeStore (s : State) (m : StoreMode) (die core op pa : Nat) (bytes : List Byte) : State :=
  match placeOf s pa with
  | .regs => s.writeRegs (offsetOf pa) bytes
  | .hostMem => s.storeHostMem pa bytes
  | .absent => s
  | .near | .far | .cream | .hostWindow =>
    s.storeIn m die core true op pa bytes

/-- The value of a D8 operand of a copy's reduction. -/
def d8Operand (x : BitVec 64) : FloatNum := decodeD8Scaled (x.extractLsb' 8 8).toInt (x.extractLsb' 0 8)

/-- The smaller or larger of two exact values, NaN when either is (spec/04 R89, spec/08 R184). -/
def pickNum (larger : Bool) (a b : FloatNum) : FloatNum :=
  if a.isNaN || b.isNaN then .nan else if (if larger then a.lt b else b.lt a) then b else a

/-- What a reduction makes of a D8 element: exact, encoded once with the destination block's scale. That scale is the
one read as the first of the merged operands was delivered; the spec does not say when it is read, nor which of two
scales counts if the scale byte changes between operands that merge (DESIGN CHOICE, log 102). -/
def redD8 (op : AtomOp) (operands : List (BitVec 64)) (old : Val) : Val :=
  let kd : Int := match operands with
    | x :: _ => (x.extractLsb' 16 8).toInt
    | [] => 0
  let v := (operands.map d8Operand).foldl (match op with
    | .min => pickNum false
    | .max => pickNum true
    | _ => FloatNum.add .rn) (decodeD8Scaled kd (old.setWidth 8))
  (encodeD8Scaled kd v).setWidth 128

/-- The float format of a reduction entry's type. -/
def redFloat (ty : Nat) : Option FloatFmt := if ty = 6 then some .bf16 else atFloat ty

/-- The word a drained entry leaves: float sums are exact and rounded once with the word. -/
def redResult (r : RedEntry) (old : Val) : Val :=
  if r.ty = 7 then redD8 r.op r.operands old
  else match r.op, redFloat r.ty with
  | .add, some t =>
    floatOut t .rn ((r.operands.map fun x => numArg t (x.setWidth 128)).foldl (FloatNum.add .rn) (numArg t old))
  | .min, some t => r.operands.foldl (fun v x => fminIn t v (x.setWidth 128)) old
  | .max, some t => r.operands.foldl (fun v x => fmaxIn t v (x.setWidth 128)) old
  | _, _ => r.operands.foldl (fun v x => (atomNew r.op r.ty v (x.setWidth 128)).getD v) old

/-- The entry of a word applied to the array (spec/07 R160); a poisoned word discards it and counts (spec/21 R366). -/
def State.drainRed (s : State) (r : RedEntry) : State :=
  let s := { s with reds := s.reds.filter fun x => x != r }
  if s.poisonAt r.pa then s.countUE (homeBase r.pa)
  else
    let n := redBytes r.ty
    s.homeStore r.mode r.die r.core 0 r.pa (leBytes n (redResult r (BitVec.ofNat 128 (leNat (s.latestBytes r.pa n)))).toNat)

/-- Every store a die sees becomes visible to every die, and with them its reductions, which leave the home's write queue:
what a release, a fence or a barrier beyond the die does for the stores its lane has made or read (spec/07 R153, R160,
R164; log 98). -/
def State.releaseDie (s : State) (die : Nat) : State :=
  ((s.reds.filter fun r => r.die = die).foldl State.drainRed s).showAll fun r => r.seen.getLsbD die

/-- Entries pending on bytes drain before any other access to them. -/
def State.drainRedsAt (s : State) (pa n : Nat) : State := (s.redsAt pa n).foldl State.drainRed s

/-- An operand merges into its word's entry, or starts one once an entry of another operation has drained. -/
def State.mergeRed (s : State) (op : AtomOp) (ty : Nat) (m : StoreMode) (die core pa : Nat) (x : BitVec 64) : State :=
  match s.reds.find? fun r => r.pa = pa && r.op = op && r.ty = ty && r.mode = m && r.die = die with
  | some r => { s with reds := s.reds.map fun y =>
      if y == r then { y with operands := y.operands ++ [x], core := if y.core = core then core else 256 } else y }
  | none =>
    let s := s.drainRedsAt pa (redBytes ty)
    State.tookDelay { s with reds := s.reds ++ [⟨pa, op, ty, [x], m, die, core, s.now + s.nextDelay⟩] }

/-! ## Later phases of local accesses -/

/-- The state of an operation's access of a lane as it stands, with the operation. -/
def State.accessNow (s : State) (id lane : Nat) : Option Access :=
  match mapGet? s.ops id with
  | some o => o.acc.find? fun a => a.lane = lane && !a.skip
  | none => none

/-- An operation's next phase comes after a delay. -/
def State.redue (s : State) (id : Nat) : State :=
  match mapGet? s.ops id with
  | some o => (s.setOp id { o with due := s.now + s.nextDelay }).tookDelay
  | none => s

/-- A store, atomic or remote operation leaves its core (spec/07 R156). -/
def State.leaveCore (s : State) (id : Nat) : State :=
  match mapGet? s.ops id with
  | some o => (s.setOp id { o with left := true, issueNs := s.ns }).redue id
  | none => s

/-- An operation ends with a value in each lane that has one: its results land and it completes (spec/02 R33). -/
def State.finishOp (s : State) (id : Nat) (vals : List (Nat × Val)) : State :=
  match mapGet? s.ops id with
  | none => s
  | some o =>
    let s := (s.landOp { o with res := fillRes o.res vals }).completeOp id
    if o.kind.isAccess then s.checkBarriers o.group else s

/-- A value loaded, extended to its register (spec/07 R150). -/
def extended (signed : Bool) (size : Nat) (v : Val) : Val :=
  if signed then (wrapInt 32 (intArg true (8 * size) v)) else v

/-- Lanes load in rising order; a lane that aborts on the way has no value. -/
def loadLanes (id : Nat) (o : Op) (signed : Bool) (hint : Nat) : List Access → State → State × List (Nat × Val)
  | [], s => (s, [])
  | a :: t, s =>
    match s.accessNow id a.lane with
    | none => loadLanes id o signed hint t s
    | some a =>
      let (s, v) := (s.drainRedsAt a.paNat a.size).loadLane o hint a
      let (s', vs) := loadLanes id o signed hint t s
      match s.accessNow id a.lane with
      | some _ => (s', (a.lane, extended signed a.size v) :: vs)
      | none => (s', vs)

/-- Does any access of an operation read poison, in memory or in an L1 copy? -/
def State.opReadsPoison (s : State) (o : Op) : Bool :=
  o.acting.any fun a => s.readsPoison a.paNat || match l1Core o.group with
    | some core => match s.l1Hit core (s.group o.group).ctx a.va with
      | some l => l.poison
      | none => false
    | none => false

/-- Lanes of an operation that have performed, with the values they bound. -/
def State.bindLanes (s : State) (id : Nat) (vals : List (Nat × Val)) : State :=
  match mapGet? s.ops id with
  | none => s
  | some o => s.setOp id { o with acc := o.acc.map fun a => match vals.find? fun v => v.1 == a.lane with
      | some v => { a with bound := true, val := v.2 }
      | none => a }

/-- An operation that performs lane by lane completes with its last lane (spec/07 R148), once the responses that come over
the links are there (spec/18 R343). -/
def State.finishLanes (s : State) (id : Nat) (withValues : Bool) : State :=
  match mapGet? s.ops id with
  | none => s
  | some o =>
    if o.toDo.isEmpty && !s.owesAnswers id then s.finishOp id (if withValues then o.acting.map fun a => (a.lane, a.val) else []) else s.redue id

/-- A core's stale copies dropped by an acquire (spec/11 R260). -/
def State.acquireFor (s : State) (key : Nat) : State := match l1Core key with
  | some core => s.refreshL1 core
  | none => s

/-- Lanes of a load bind, and it completes with the last of them; an acquire's core then drops stale copies (spec/07 R152,
spec/11 R255, R260). -/
def State.performLoad (s : State) (id : Nat) (o : Op) (signed : Bool) (acquire : Option Scope) (hint : Nat) : State :=
  let now := s.lanesNow o
  if s.opReadsPoison { o with acc := now.filter fun a => (s.forwarded o a).isNone } then s.consumePoison o.group
  else
    let (s, vals) := loadLanes id o signed hint now s
    let s := if acquire.isSome && now.any fun a => s.acquiresIn o a.lane then s.acquireFor o.group else s
    (s.bindLanes id vals).finishLanes id true

/-- A PREF does its work in each lane (spec/07 R151). -/
def State.performPref (s : State) (id : Nat) (o : Op) (hint : Nat) : State :=
  let ctx := (s.group o.group).ctx
  let s := o.acting.foldl (fun (s : State) a =>
    if hint = 0 then
      (s.touchL1 o.group ctx a.va).fillL1 o.group ctx a.va a.paNat 0 (s.rightsOf (dieOf o.group) ctx a.va)
    else if hint = 2 then match l1Core o.group with
      | some core => s.dropL1 core ctx a.va
      | none => s
    else s) s
  s.finishOp id []

/-- Stores of lanes in rising order. -/
def State.storeLanes (s : State) (id : Nat) (o : Op) (m : StoreMode) (acc : List Access) : State :=
  let s := acc.foldl (fun (s : State) a => match s.accessNow id a.lane with
    | some a => (s.drainRedsAt a.paNat a.size).storeLane o id m a
    | none => s) s
  s.bindLanes id (acc.map fun a => (a.lane, 0#128))

/-- A release beyond the die makes what the lane's die has seen visible to every die (spec/07 R153). -/
def State.releaseFor (s : State) (o : Op) (sc : Option Scope) : State :=
  match sc with
  | some x => if x.beyondDie then s.releaseDie (dieOf o.group) else s
  | none => s

/-- Does a store of an operation wait at a held line (spec/11 R262)? -/
def State.storeWaits (s : State) (id : Nat) : Bool := s.log.any fun r => r.op == id && r.parked

/-- Lanes of a store perform, and it completes with the last of them, once what waits at a held line is served. -/
def State.performStore (s : State) (id : Nat) (o : Op) (m : StoreMode) : State :=
  let now := s.lanesNow o
  let s := s.holdLines id
  let s := if now.any fun a => s.releasesIn o a then s.releaseFor o o.kind.releases else s
  let s := s.storeLanes id o m now
  if !s.storeWaits id then s.finishLanes id false
  else if o.acting.all fun a => s.lineServes o (lineOf a.paNat) then (s.unpark id).finishLanes id false
  else s.redue id

/-- Lanes' reductions merge in the home's write queue, and the RED completes with the last. -/
def State.performRed (s : State) (id : Nat) (o : Op) (op : AtomOp) (m : StoreMode) (ty : Nat) : State :=
  let now := s.lanesNow o
  let s := s.holdLines id
  let s := if now.isEmpty then s else s.releaseFor o o.kind.releases
  let s := now.foldl (fun (s : State) a =>
    if s.poisonAt a.paNat then s.countUE (homeBase a.paNat)
    else (s.touchL1 o.group (s.group o.group).ctx a.va).mergeRed op ty m (dieOf o.group) (coreOf o.group) a.paNat
      (a.data.setWidth 64)) s
  (s.bindLanes id (now.map fun a => (a.lane, 0#128))).finishLanes id false

/-- One lane's atomic applied at the home (spec/07 R158): its die has then seen every earlier store to the word, and a
`.cas` that fails releases nothing (R155, R159). -/
def State.applyAtom (s : State) (id : Nat) (o : Op) (op : AtomOp) (m : StoreMode) (ty : Nat) (a : Access) : State :=
  let s := (s.touchL1 o.group (s.group o.group).ctx a.va).drainRedsAt a.paNat a.size
  let old := BitVec.ofNat 128 (leNat (s.latestBytes a.paNat a.size))
  let s := s.showTo (dieOf o.group) a.paNat a.size
  let s := if placeOf s a.paNat = .regs then s.readClears (offsetOf a.paNat) a.size else s
  let s := match atomNew op ty old a.data with
    | some v => (s.releaseFor o o.kind.releases).homeStore m (dieOf o.group) (coreOf o.group) id a.paNat (leBytes a.size v.toNat)
    | none => s
  s.bindLanes id [(a.lane, old)]

/-- An atomic's lanes applied, in rising order when together (spec/07 R145, spec/11 R255). -/
def State.applyAtoms (s : State) (id : Nat) (o : Op) (op : AtomOp) (m : StoreMode) (ty : Nat) (acc : List Access) : State :=
  (acc.foldl (fun (s : State) a => s.applyAtom id o op m ty a) (s.holdLines id)).redue id

/-- An atomic's old values are written: an acquire. -/
def State.completeAtom (s : State) (id : Nat) (o : Op) : State :=
  if s.owesAnswers id then s.redue id else (s.acquireFor o.group).finishOp id (o.acting.map fun a => (a.lane, a.val))

/-! ## Remote operations at the peer -/

/-- The place of a byte of a peer's memory in State.peers: package, the bound context there, address. -/
def peerPlace (peer ctx : Nat) (va : VAddr) (i : Nat) : Nat := (peer * 256 + ctx) * 2 ^ 80 + (va.toNat + i) % 2 ^ 80

/-- A byte of a peer's memory: what this package's remote operations left there, else what the peer holds (log 24). -/
def State.peerByte (s : State) (n : Nat) : Byte := (mapGet? s.peers n).getD (Config.peerByte n)

/-- Bytes of a peer's memory. -/
def State.peerBytes (s : State) (peer ctx : Nat) (va : VAddr) (n : Nat) : List Byte :=
  (List.range n).map fun i => s.peerByte (peerPlace peer ctx va i)

/-- Bytes stored in a peer's memory. -/
def State.peerStore (s : State) (peer ctx : Nat) (va : VAddr) (bytes : List Byte) : State :=
  { s with peers := (bytes.zipIdx).foldl (fun m b => mapSet m (peerPlace peer ctx va b.2) b.1) s.peers }

/-- Does a place of a peer's memory lie in a line that this package has poisoned (spec/21 R366)? -/
def State.peerPoisonAt (s : State) (peer ctx : Nat) (va : VAddr) : Bool := s.peerPoison.contains (peerPlace peer ctx va 0 / 128)

/-- Does a lane of a remote operation read poison at its peer? -/
def State.remoteReadsPoison (s : State) (o : Op) (acc : List Access) : Bool :=
  (match o.kind with
    | .rld | .ratom _ _ => true
    | _ => false) && acc.any fun a =>
      s.peerPoisonAt (a.peer.getD 0) ((s.bindingOf (s.group o.group).ctx (a.peer.getD 0)).getD 0) a.va

/-- One lane's remote operation applied at its peer. -/
def State.applyRemote (s : State) (o : Op) (a : Access) : State × Val :=
  let peer := a.peer.getD 0
  let ctx := (s.bindingOf (s.group o.group).ctx peer).getD 0
  let old := BitVec.ofNat 128 (leNat (s.peerBytes peer ctx a.va a.size))
  match o.kind with
  | .rst | .ffence => (s.peerStore peer ctx a.va (leBytes a.size a.data.toNat), old)
  | .ratom op ty => (match atomNew op ty old a.data with
    | some v => s.peerStore peer ctx a.va (leBytes a.size v.toNat)
    | none => s, old)
  | _ => (s, old)

/-- Lanes of a remote operation applied at their peers and acknowledged, each an access by itself (spec/11 R255); it
completes with the last. Poison in a response is consumed as a load's (spec/21 R366). -/
def State.completeRemote (s : State) (id : Nat) (o : Op) : State :=
  let now := s.pickOf o o.toDo false
  if s.remoteReadsPoison o now then s.consumePoison o.group else
  let (s, vals) := now.foldl (fun (x : State × List (Nat × Val)) a =>
    let (s, v) := x.1.applyRemote o a
    (s, x.2 ++ [(a.lane, v)])) (s, [])
  (s.bindLanes id vals).finishLanes id true

/-- A remote operation leaves the core: its requests go to the peers. -/
def State.sendRemote (s : State) (id : Nat) (o : Op) : State :=
  o.acting.foldl (fun (s : State) a => s.send (.remote id (a.peer.getD 0))) (s.leaveCore id)

/-- A remote-access error ends the team (spec/07 R162); the program of another engine ends as at a trap. -/
def State.remoteError (s : State) (key : Nat) : State :=
  let g := s.group key
  match g.engine with
  | .partition => s.haltTeam g.team 0x0131#16
  | .churn | .circuit | .command => s.takeTrap key g.trap.pc 0xFFFFFFFF#32 0x31#8 0#32

/-! ## The instructions -/

/-- LD (spec/07 R150). -/
def execLd (w : LdWidth) (f : Fields) (s : State) : Host.Outcome State Fault Refusal :=
  issueWord (.ld w f) (loadAct w.bytes (w == .s8 || w == .s16)) s
/-- LDA (spec/07 R152). -/
def execLda (w : Width2) (f : Fields) (s : State) : Host.Outcome State Fault Refusal :=
  issueWord (.lda w f) (acquireAct w) s
/-- PREF (spec/07 R151). -/
def execPref (f : Fields) (s : State) : Host.Outcome State Fault Refusal := issueWord (.pref f) prefAct s
/-- ST (spec/07 R153). -/
def execSt (w : StWidth) (m : StoreMode) (f : Fields) (s : State) : Host.Outcome State Fault Refusal :=
  issueWord (.st w m f) (storeAct w.bytes m) s
/-- STR (spec/07 R153). -/
def execStr (w : Width2) (m : StoreMode) (f : Fields) (s : State) : Host.Outcome State Fault Refusal :=
  issueWord (.str w m f) (releaseAct w m) s
/-- ATOM (spec/07 R158). -/
def execAtom (op : AtomOp) (m : StoreMode) (f : Fields) (s : State) : Host.Outcome State Fault Refusal :=
  issueWord (.atom op m f) (atomAct op m) s
/-- RED (spec/07 R160). -/
def execRed (op : RedOp) (m : StoreMode) (f : Fields) (s : State) : Host.Outcome State Fault Refusal :=
  issueWord (.red op m f) (redAct op m) s
/-- RATOM (spec/07 R161). -/
def execRatom (op : AtomOp) (f : Fields) (s : State) : Host.Outcome State Fault Refusal :=
  issueWord (.ratom op f) (ratomAct op) s
/-- RLD (spec/07 R161). -/
def execRld (w : Width2) (f : Fields) (s : State) : Host.Outcome State Fault Refusal := issueWord (.rld w f) (rldAct w) s
/-- RST (spec/07 R161). -/
def execRst (w : Width2) (f : Fields) (s : State) : Host.Outcome State Fault Refusal := issueWord (.rst w f) (rstAct w) s
/-- FFENCE (spec/07 R163). -/
def execFfence (f : Fields) (s : State) : Host.Outcome State Fault Refusal := issueWord (.ffence f) ffenceAct s
/-- ULD (spec/07 R150). -/
def execUld (w : UWidth) (f : Fields) (s : State) : Host.Outcome State Fault Refusal :=
  issueWord (.uld w f) (loadAct w.bytes false) s
/-- ULDA (spec/07 R152). -/
def execUlda (w : Width2) (f : Fields) (s : State) : Host.Outcome State Fault Refusal :=
  issueWord (.ulda w f) (acquireAct w) s
/-- UST (spec/07 R153). -/
def execUst (w : UWidth) (m : StoreMode) (f : Fields) (s : State) : Host.Outcome State Fault Refusal :=
  issueWord (.ust w m f) (storeAct w.bytes m) s
/-- USTR (spec/07 R153). -/
def execUstr (w : Width2) (m : StoreMode) (f : Fields) (s : State) : Host.Outcome State Fault Refusal :=
  issueWord (.ustr w m f) (releaseAct w m) s
/-- UATOM (spec/07 R158). -/
def execUatom (op : AtomOp) (m : StoreMode) (f : Fields) (s : State) : Host.Outcome State Fault Refusal :=
  issueWord (.uatom op m f) (atomAct op m) s
/-- URED (spec/07 R160). -/
def execUred (op : RedOp) (m : StoreMode) (f : Fields) (s : State) : Host.Outcome State Fault Refusal :=
  issueWord (.ured op m f) (redAct op m) s
/-- URLD (spec/07 R161). -/
def execUrld (w : Width2) (f : Fields) (s : State) : Host.Outcome State Fault Refusal :=
  issueWord (.urld w f) (rldAct w) s
/-- URST (spec/07 R161). -/
def execUrst (w : Width2) (f : Fields) (s : State) : Host.Outcome State Fault Refusal :=
  issueWord (.urst w f) (rstAct w) s
/-- UFFENCE (spec/07 R163). -/
def execUffence (f : Fields) (s : State) : Host.Outcome State Fault Refusal := issueWord (.uffence f) ffenceAct s

end Sys2Proof.Machine
end

