-- ==== Sys2Proof/Machine/Sync.lean ====
section
/-! DEFINITION. Fences, drains, lane transactions, barriers, rejoin masks, word waits and byte-counting barriers
(spec/07 R164-R178). -/

namespace Sys2Proof.Machine

/-! ## FENCE (spec/07 R164) -/

/-- Has a lane an earlier access of path L still to perform, or at fabric scope a remote one? -/
def State.laneOwes (s : State) (o : Op) (sc : Scope) (lane : Nat) : Bool :=
  (s.aheadOf o lane).any fun p => p.kind.isAccess && (p.kind.path == .l || (p.kind.remote && sc == .fabric))

/-- The lanes of a FENCE whose earlier accesses have performed are ordered and leave it; it completes when none is
left. One beyond the die waits for stores that its die sees and that wait at a held line (spec/11 R262). -/
def State.fenceStep (s : State) (id : Nat) (o : Op) (sc : Scope) : State :=
  let met : LaneMask := BitVec.ofNat 32 (((lanesOf o.active).filter fun l => !s.laneOwes o sc l).foldl
    (fun n l => n + 2 ^ l) 0)
  if met = 0#32 || s.barHeld o || (sc.beyondDie && s.parkedSeen (dieOf o.group)) then s.redue id
  else
    let s := if sc.beyondDie then s.releaseDie (dieOf o.group) else s
    let o := { o with active := o.active &&& ~~~met }
    if o.active = 0#32 then s.finishOp id [] else (s.setOp id o).redue id

/-- FENCE and UFENCE. -/
def fenceAct (s : State) (c : Ctx) : Act := .go { kind := some (.fence (scopeOf s c)) }

/-! ## FENCEX and DRAIN (spec/07 R165, R166) -/

/-- Does a macro-operation read or write on a path (spec/11 R259)? -/
def MacroOp.onPath (m : MacroOp) (p : AccPath) : Bool :=
  match p, m.kind with
  | .c, .mma => m.bs
  | .c, .mld | .c, .mst | .g, .mmag => true
  | _, _ => false

/-- Has a group accesses on a path, made or requested before operation `id`, that have not performed? -/
def State.pathOwes (s : State) (key id n : Nat) (p : AccPath) : Bool :=
  (s.ops.any fun q => q.2.group == key && q.2.seq < n && q.2.onPath p)
    || (p == .p && s.copies.any fun q => q.2.group == groupParty (s.group key) && q.1 < id)
    || (key ≥ 0x4000 && (s.cluster (churnIx key)).churn.macros.any fun m => m.op < id && m.onPath p)

/-- An operation that has waited long enough ends, its core dropping stale copies (spec/11 R260). -/
def State.finishWait (s : State) (id : Nat) (o : Op) : State :=
  let s := match l1Core o.group with
    | some core => s.refreshL1 core
    | none => s
  s.finishOp id []

/-- The landings that a group has waited for in its own deep windows become visible to its LDX (spec/03 R77, spec/07 R165,
R166; log 88). -/
def State.showOwnLanded (s : State) (key : Nat) (test : DeepLanding → Bool) : State := s.modGroup key fun g => g.showLanded test

/-- A FENCEX tested: it ends when nothing on its first path is left, and every store that its die sees is then visible to
every die, which is more than the group's own of that path (log 98). One whose first path is P has waited for the group's
copies. -/
def State.fencexStep (s : State) (id : Nat) (o : Op) (first : AccPath) : State :=
  if s.pathOwes o.group id o.seq first || s.parkedSeen (dieOf o.group) then s.redue id
  else
    let s := if first = .p then s.showOwnLanded o.group fun x => x.party == groupParty (s.group o.group) else s
    (s.releaseDie (dieOf o.group)).finishWait id o

/-- The memory a physical address lies in, as DRAIN names them. -/
def State.memKindOf (s : State) (pa : Nat) : Option MemKind :=
  match placeOf s pa with
  | .near => some .near
  | .far => some .far
  | .cream => some .cream
  | .hostWindow | .hostMem => some .host
  | .regs | .absent => none

/-- May an operation in flight be one into a memory? -/
def State.opInto (s : State) (o : Op) (m : MemKind) : Bool :=
  let copies := match o.kind with
    | .tcopy _ => true
    | _ => false
  if o.kind.remote then m == .fabric
  else copies || o.acc.isEmpty || o.acc.any fun a => match s.physNow o a with
    | some p => s.memKindOf p == some m
    | none => true

/-- May an address be one in a memory? One that has no translation now may be in any. -/
def State.vaInto (s : State) (ctx : Nat) (va : VAddr) (m : MemKind) : Bool :=
  match s.walk ctx va .write with
  | .ok pa _ _ _ => s.memKindOf pa == some m
  | .hold | .fault _ _ => true

/-- May a copy be one into a memory: has any page that it writes, or the scale of a block, a place there? -/
def State.copyInto (s : State) (c : Copy) (m : MemKind) : Bool :=
  let x := c.shape
  if x.remote then m == .fabric
  else if x.dkind then m == .deep
  else
    let pages (first : DWord) (n : Nat) : Bool :=
      ((List.range (n / 2 ^ 18 + 1)).map (· * 2 ^ 18) ++ [n - 1]).any fun i =>
        s.vaInto c.ctx (vaddr x.dstSpace (first + BitVec.ofNat 64 i)) m
    pages x.dst c.total || (x.comp && x.red = 0 && pages (x.dst + BitVec.ofInt 64 x.dscale) (c.total / 32))

/-- Can accesses of a path be ones into a memory at all (spec/07 R165, R166)? -/
def pathReaches (p : AccPath) (m : MemKind) : Bool :=
  match p, m with
  | .l, .near | .l, .far | .l, .cream | .l, .host | .h, .host | .x, .fabric | .g, .deep => true
  | .c, .near | .c, .far | .c, .cream | .c, .host => true
  | .p, _ => true
  | _, _ => false

/-- Has the issuing core accesses on a path into a memory, made before operation `id`, that have not completed? -/
def State.coreOwes (s : State) (key id : Nat) (p : AccPath) (m : MemKind) : Bool :=
  pathReaches p m && ((s.ops.any fun q => q.1 < id && sameCore key q.2.group && q.2.onPath p && s.opInto q.2 m)
    || (p == .p && s.copies.any fun q => q.1 < id && q.2.core == coreOf key && s.copyInto q.2 m)
    || (key ≥ 0x4000 && (s.cluster (churnIx key)).churn.macros.any fun x => x.op < id && x.onPath p
      && (m == .deep) == (x.kind == .mmag)))

/-- A DRAIN tested. One of path P into the deep windows has waited for every copy of its core that lands there. -/
def State.drainStep (s : State) (id : Nat) (o : Op) (p : AccPath) (m : MemKind) : State :=
  if s.coreOwes o.group id p m then s.redue id
  else
    let s := if p = .p && m = .deep then s.showOwnLanded o.group fun x => x.core == coreOf o.group else s
    s.finishWait id o

/-- FENCEX and UFENCEX. -/
def fencexAct (_ : State) (c : Ctx) : Act :=
  .go {
    kind := some (.fencex ((AccPath.ofCode c.f.modHi).getD .l) ((AccPath.ofCode c.f.modLo).getD .l))
    holds := true }

/-- DRAIN and UDRAIN. -/
def drainAct (_ : State) (c : Ctx) : Act :=
  .go {
    kind := some (.drain ((AccPath.ofCode c.f.modHi).getD .l) ((MemKind.ofCode c.f.modLo).getD .near))
    holds := true }

/-! ## Lane transactions (spec/07 R167-R172) -/

/-- A transaction opened in a lane: serialised after the 8th conflict abort of its series. -/
def Group.openTx (g : Group) (fallback : DWord) (n lane : Nat) : Group :=
  let old := laneOf g.series lane
  let k := if old.fallback = fallback then old.conflicts else 0
  { g with
    tx := g.tx.setIfInBounds lane (some ⟨fallback, n, [], [], [], 8 ≤ k, false⟩)
    series := g.series.setIfInBounds lane ⟨fallback, k⟩ }

/-- XBEGIN. -/
def xbeginAct (_ : State) (c : Ctx) : Act :=
  .go { now := fun s _ => s.modGroup c.key fun g =>
    (lanesOf c.active).foldl (fun (g : Group) l => g.openTx c.target c.seq l) g }

/-- XEND. A lane without a transaction takes no part. -/
def xendAct (_ : State) (_ : Ctx) : Act := .go { kind := some .xend, now := fun s id => s.markWalked id }

/-- XABORT: lanes in a transaction abort with the user code of A. -/
def xabortAct (s : State) (c : Ctx) : Act :=
  let codes := (lanesOf (s.txLanes c.key c.active)).map fun l => (l, natArg 8 (srcVal s c 0 l))
  .go { now := fun s _ => codes.foldl (fun (s : State) x => s.abortTx c.key x.1 7 x.2) s }

/-- Does every value a transaction read still stand (spec/07 R169)? A set with a line of a page that has been frozen fails
(spec/11 R261). -/
def State.txValid (s : State) (t : Tx) : Bool := !t.frozen && t.reads.all (fun r => s.latestByte r.1 == r.2)

/-- Runs of consecutive bytes of a store set. -/
def byteRuns : List (Nat × Byte) → List (Nat × List Byte)
  | [] => []
  | (a, b) :: t =>
    match byteRuns t with
    | (a', bs) :: rest => if a' = a + 1 then (a, b :: bs) :: rest else (a, [b]) :: (a', bs) :: rest
    | [] => [(a, [b])]

/-- A lane's transaction commits: its stores become visible to every die at one point; %xcode is 0 and the series
ends. -/
def State.commitTx (s : State) (key lane : Nat) (t : Tx) : State :=
  let s := (byteRuns t.writes).foldl (fun (s : State) w =>
    (s.drainRedsAt w.1 w.2.length).plainStore .ga key 0 w.1 w.2) s
  s.modGroup key fun g => { g with
    tx := g.tx.setIfInBounds lane none
    xcode := g.xcode.setIfInBounds lane 0#32
    series := g.series.setIfInBounds lane ⟨t.fallback, 0⟩ }

/-- The physical lines of the transactions that an XEND ends. -/
def State.xendLines (s : State) (o : Op) : List Nat :=
  ((lanesOf o.active).flatMap fun l => match laneOf (s.group o.group).tx l with
    | some t => if o.seq < t.seq then [] else t.lines.map (·.2)
    | none => []).eraseDups

/-- Does an XEND's validation wait at a held line (spec/11 R262)? -/
def State.xendWaits (s : State) (id : Nat) (o : Op) : Bool :=
  (s.xendLines o).any fun l => !s.lineTurn (dieOf o.group) l id

/-- The dies whose acknowledgement of a commit is missing for now: they hold a copy of a line that a valid transaction of
it writes, and no link brings their answer (spec/07 R156, spec/11 R261). -/
def State.xendMissing (s : State) (o : Op) : BitVec 8 :=
  let lines := ((lanesOf o.active).flatMap fun l => match laneOf (s.group o.group).tx l with
    | some t => if o.seq < t.seq || !s.txValid t then [] else t.writes.map fun w => lineOf w.1
    | none => []).eraseDups
  (List.range 8).foldl (fun (m : BitVec 8) d =>
    if d != dieOf o.group && lines.any (fun l => s.isSharer l d && !s.routeUp (homeBase (128 * l)) (baseOf d)) then
      m ||| (1#8 <<< d) else m) 0#8

/-- An XEND that has been validated and lacks acknowledgements: its time runs from the first of them (spec/11 R261). Until
they come it is validated anew at each try. -/
def State.awaitCommit (s : State) (id : Nat) (o : Op) (missing : BitVec 8) : State :=
  (s.setOp id { o with mask := missing, issueNs := if o.mask = 0#8 then s.ns else o.issueNs }).redue id

/-- An XEND decided in every lane, in rising order (spec/07 R168-R170). -/
def State.performXend (s : State) (id : Nat) (o : Op) : State :=
  if s.xendWaits id o then
    ((s.xendLines o).foldl (fun (s : State) l => if s.lineBusy (dieOf o.group) l then s.joinLine l id else s) s).redue id
  else if s.xendMissing o != 0#8 then s.awaitCommit id o (s.xendMissing o)
  else
  let s := (lanesOf o.active).foldl (fun (s : State) l =>
    match laneOf (s.group o.group).tx l with
    | none => s
    | some t =>
      if o.seq < t.seq then s
      else
        let s := t.reads.foldl (fun (s : State) r => s.drainRedsAt r.1 1) s
        if s.txValid t then s.commitTx o.group l t else s.abortTx o.group l 2 0) s
  let s := match l1Core o.group with
    | some core => s.refreshL1 core
    | none => s
  s.finishOp id []

/-! ## Barriers (spec/07 R173-R175) -/

/-- The count a barrier word gives: A of the lowest-numbered active lane. -/
def barCount (s : State) (c : Ctx) : Nat := natArg 32 (srcVal s c 0 (firstLane c.active))

/-- Would the word's group arrive at once and be a mismatch? -/
def barTraps (s : State) (c : Ctx) : Bool :=
  let at_ := s.barOf c
  let s' := s.modGroup c.key fun g => g.executeBar at_.slot c.active (barCount s c)
  !s.olderFault c.key c.seq && s'.barReady at_ c.key && s'.barMismatch at_ (barCount s c)

/-- Active lanes of a barrier word wait at it, at the addresses their selector gives; the rest go on. -/
def waitPlace (c : Ctx) (w : WaitAt) (m : LaneMask) (s : State) (moves : List (DWord × LaneMask)) : State :=
  s.modGroup c.key fun g =>
    (g.placeAll ((moves.map fun x => (x.1, x.2 &&& ~~~m)).filter fun x => x.2 != 0#32)).putWaiting w moves m

/-- BAR, BARC and BARD. -/
def barAct (kind : Nat → OpKind) (s : State) (c : Ctx) : Act :=
  let at_ := s.barOf c
  let a := barCount s c
  if barTraps s c then .trap 0x0A#8 (BitVec.ofNat 32 (at_.slot % 8))
  else .go {
    kind := some (kind c.f.modHi)
    place := some fun s moves =>
      ((waitPlace c at_.place c.active s moves).modGroup c.key fun g => g.executeBar at_.slot c.active a).tryArrive at_ c.key }

/-- BARA. -/
def baraAct (s : State) (c : Ctx) : Act :=
  let at_ := s.barOf c
  let a := barCount s c
  if barTraps s c then .trap 0x0A#8 (BitVec.ofNat 32 (at_.slot % 8))
  else .go {
    kind := some (.barArrive c.f.modHi)
    place := some fun s moves =>
      (s.modGroup c.key fun g => (g.placeAll moves).executeBar at_.slot c.active a).tryArrive at_ c.key }

/-! ## Rejoin masks (spec/07 R176) -/

/-- The rejoin mask a word names. -/
def jOf (c : Ctx) : Nat := c.f.d.index.toNat % 16

/-- JSET. -/
def jsetAct (s : State) (c : Ctx) : Act :=
  let j := jOf c
  let old := (s.group c.key).rejoin j
  if old.arrived != 0#32 then .trap 0x09#8 (BitVec.ofNat 32 j)
  else .go { undo := [.rejoin j old], now := fun s _ => s.modGroup c.key fun g => g.setRejoin j ⟨c.active, 0#32⟩ }

/-- JOIN. One at which no lane waits, of an empty mask or of lanes outside it, holds nothing, and the group's epoch stays
(DESIGN CHOICE, log 99). -/
def joinAct (s : State) (c : Ctx) : Act :=
  let j := jOf c
  let old := (s.group c.key).rejoin j
  let m := c.active &&& old.mask
  .go {
    kind := if m = 0#32 then none else some (.joinWait j)
    undo := [.rejoin j old]
    place := some fun s moves =>
      (waitPlace c (.join j) m s moves).modGroup c.key fun g => g.setRejoin j ⟨old.mask, old.arrived ||| m⟩
    now := fun s _ => s.checkJoin c.key j }

/-- JDROP. -/
def jdropAct (s : State) (c : Ctx) : Act :=
  let j := jOf c
  let old := (s.group c.key).rejoin j
  .go {
    undo := [.rejoin j old]
    now := fun s _ => (s.modGroup c.key fun g => g.setRejoin j ⟨old.mask &&& ~~~c.active, old.arrived⟩).checkJoin c.key j }

/-! ## Word waits (spec/07 R177) -/

/-- What a lane of a word wait holds until its first read. -/
def notRead : BitVec 128 := 1#128 <<< 127

/-- WWAIT and UWWAIT. -/
def wwaitAct (s : State) (c : Ctx) : Act :=
  let acc := accessesOf s c 4
  match misaligned acc with
  | some l => .trap 0x06#8 (BitVec.ofNat 32 l)
  | none => .go {
      res := pendingResult c
      kind := some (.wwait c.f.modHi (Vector.ofFn fun i : Fin 32 => (srcVal s c 2 i).setWidth 32))
      acc := acc.map fun a => { a with val := notRead }
      holds := true
      now := fun s id => (s.beginWait c.key .wwait).walkOp false id }

/-- The word a lane of a word wait reads on a die. -/
def State.waitWord (s : State) (die : Nat) (a : Access) : Word :=
  BitVec.ofNat 32 (leNat (match placeOf s a.paNat with
    | .regs => readWith (fun x => s.devByte (offsetOf x)) a.paNat 4
    | _ => readWith (s.viewByte die) a.paNat 4))

/-- A lane of a word wait that has read a word: satisfied if the condition holds, else watching for another one. -/
def Access.sawWord (a : Access) (cond : Nat) (operands : Lanes Word) (w : Word) : Access :=
  { a with bound := wwaitHolds cond w (laneOf operands a.lane), val := w.setWidth 128 }

/-- One lane of a word wait read again. -/
def State.wwaitLane (s : State) (id : Nat) (o : Op) (cond : Nat) (operands : Lanes Word) (a : Access) : State :=
  let s := s.drainRedsAt a.paNat 4
  let word := s.waitWord (dieOf o.group) a
  let s := if placeOf s a.paNat = .regs then s.readClears (offsetOf a.paNat) 4 else s
  match mapGet? s.ops id with
  | some o => s.setOp id { o with acc := o.acc.map fun b => if b.lane = a.lane then b.sawWord cond operands word else b }
  | none => s

/-- Has a store to a watched word become visible since a lane of a word wait read it (spec/07 R177)? -/
def State.wwaitStirred (s : State) (o : Op) : Bool :=
  o.acting.any fun a => !a.bound && a.val != notRead && (s.waitWord (dieOf o.group) a).setWidth 128 != a.val

/-- The wait for the next read of a word, at most 1 µs (spec/07 R177). -/
def State.redueWait (s : State) (id : Nat) : State :=
  match mapGet? s.ops id with
  | some o => (s.setOp id { o with due := s.now + min s.nextDelay (25 * s.power.clk.toNat) }).tookDelay
  | none => s

/-- The unsatisfied lanes of a word wait that read their words now: all, or one alone (spec/11 R255; log 58). -/
def State.wwaitNow (s : State) (o : Op) : List Access :=
  if s.nextDelay = 1 then o.toDo else (o.toDo.drop (s.nextDelay % o.toDo.length)).take 1

/-- A word wait read again in unsatisfied lanes; the group goes on once every lane has been satisfied. The group has
then waited, so that the word which the WWAIT itself writes to its lanes' latches is of the epoch after the wait
(DESIGN CHOICE, log 99). -/
def State.wwaitRead (s : State) (id : Nat) (o : Op) (cond : Nat) (operands : Lanes Word) : State :=
  let now := s.wwaitNow o
  if now.any (fun a => s.readsPoison a.paNat) then s.consumePoison o.group
  else
    let s := now.foldl (fun (s : State) a => s.wwaitLane id o cond operands a) s
    match mapGet? s.ops id with
    | none => s
    | some o =>
      if o.acting.all (·.bound) then
        let s := match l1Core o.group with
          | some core => s.refreshL1 core
          | none => s
        let s := s.modGroup o.group Group.nextEpoch
        (s.finishOp id (o.acting.map fun a => (a.lane, a.val))).endWait o.group
      else s.redueWait id

/-! ## Byte-counting barriers (spec/07 R178) -/

/-- CBPOST and UCBPOST: they complete at issue (spec/07 R148). -/
def cbpostAct (s : State) (c : Ctx) : Act :=
  let n := ((lanesOf c.active).map fun l => natArg 32 (srcVal s c 0 l)).foldl (· + ·) 0
  let b := c.f.modHi
  .go { now := fun s _ =>
    let t := (s.group c.key).team
    (s.setByteBar t b ((s.byteBar t b).post n)).cbCheck t b }

/-- CBWAIT and UCBWAIT. -/
def cbwaitAct (_ : State) (c : Ctx) : Act :=
  .go {
    kind := some (.cbwait c.f.modHi)
    holds := true
    now := fun s _ => (s.beginWait c.key .cbwait).cbCheck (s.group c.key).team c.f.modHi }

/-! ## The instructions -/

/-- FENCE (spec/07 R164). -/
def execFence (f : Fields) (s : State) : Host.Outcome State Fault Refusal := issueWord (.fence f) fenceAct s
/-- FENCEX (spec/07 R165). -/
def execFencex (f : Fields) (s : State) : Host.Outcome State Fault Refusal := issueWord (.fencex f) fencexAct s
/-- DRAIN (spec/07 R166). -/
def execDrain (f : Fields) (s : State) : Host.Outcome State Fault Refusal := issueWord (.drain f) drainAct s
/-- UFENCE (spec/07 R164). -/
def execUfence (f : Fields) (s : State) : Host.Outcome State Fault Refusal := issueWord (.ufence f) fenceAct s
/-- UFENCEX (spec/07 R165). -/
def execUfencex (f : Fields) (s : State) : Host.Outcome State Fault Refusal := issueWord (.ufencex f) fencexAct s
/-- UDRAIN (spec/07 R166). -/
def execUdrain (f : Fields) (s : State) : Host.Outcome State Fault Refusal := issueWord (.udrain f) drainAct s
/-- XBEGIN (spec/07 R167, R168). -/
def execXbegin (f : Fields) (s : State) : Host.Outcome State Fault Refusal := issueWord (.xbegin f) xbeginAct s
/-- XEND (spec/07 R168). -/
def execXend (f : Fields) (s : State) : Host.Outcome State Fault Refusal := issueWord (.xend f) xendAct s
/-- XABORT (spec/07 R170). -/
def execXabort (f : Fields) (s : State) : Host.Outcome State Fault Refusal := issueWord (.xabort f) xabortAct s
/-- BAR (spec/07 R173). -/
def execBar (f : Fields) (s : State) : Host.Outcome State Fault Refusal := issueWord (.bar f) (barAct .barWait) s
/-- BARA (spec/07 R173). -/
def execBara (f : Fields) (s : State) : Host.Outcome State Fault Refusal := issueWord (.bara f) baraAct s
/-- BARC (spec/07 R174). -/
def execBarc (f : Fields) (s : State) : Host.Outcome State Fault Refusal :=
  issueWord (.barc f) (barAct fun _ => .barcWait) s
/-- BARD (spec/07 R174). -/
def execBard (f : Fields) (s : State) : Host.Outcome State Fault Refusal :=
  issueWord (.bard f) (barAct fun _ => .bardWait) s
/-- JSET (spec/07 R176). -/
def execJset (f : Fields) (s : State) : Host.Outcome State Fault Refusal := issueWord (.jset f) jsetAct s
/-- JOIN (spec/07 R176). -/
def execJoin (f : Fields) (s : State) : Host.Outcome State Fault Refusal := issueWord (.join f) joinAct s
/-- JDROP (spec/07 R176). -/
def execJdrop (f : Fields) (s : State) : Host.Outcome State Fault Refusal := issueWord (.jdrop f) jdropAct s
/-- WWAIT (spec/07 R177). -/
def execWwait (f : Fields) (s : State) : Host.Outcome State Fault Refusal := issueWord (.wwait f) wwaitAct s
/-- UWWAIT (spec/07 R177). -/
def execUwwait (f : Fields) (s : State) : Host.Outcome State Fault Refusal := issueWord (.uwwait f) wwaitAct s
/-- CBPOST (spec/07 R178). -/
def execCbpost (f : Fields) (s : State) : Host.Outcome State Fault Refusal := issueWord (.cbpost f) cbpostAct s
/-- UCBPOST (spec/07 R178). -/
def execUcbpost (f : Fields) (s : State) : Host.Outcome State Fault Refusal := issueWord (.ucbpost f) cbpostAct s
/-- CBWAIT (spec/07 R178). -/
def execCbwait (f : Fields) (s : State) : Host.Outcome State Fault Refusal := issueWord (.cbwait f) cbwaitAct s
/-- UCBWAIT (spec/07 R178). -/
def execUcbwait (f : Fields) (s : State) : Host.Outcome State Fault Refusal := issueWord (.ucbwait f) cbwaitAct s

end Sys2Proof.Machine
end

