-- ==== Sys2Proof/Machine/System.lean ====
section
/-! DEFINITION. Traps by instruction, yielding, the return from handler mode, control registers and halting
(spec/08 R210-R214). -/

namespace Sys2Proof.Machine

/-- A of a word that reads it once for its group: from the lowest active lane (spec/08 R211). -/
def aWord (s : State) (c : Ctx) : Nat := natArg 32 (srcVal s c 0 (firstLane c.active))

/-- The operand-range trap of a field: 1 for D, 2 for A, 3 for B, 4 for C, 5 for IMM (spec/08 R179). -/
def rangeTrap (field : Nat) : Act := .trap 0x0F#8 (BitVec.ofNat 32 field)

/-- The privilege trap. -/
def privTrap : Act := .trap 0x10#8 0#32

/-- The address a selector that does not split a path gives it (spec/08 R211). -/
def movedTo (c : Ctx) (moves : List (DWord × LaneMask)) : DWord := match moves with
  | [] => c.next
  | m :: _ => m.1

/-- TRAP and UTRAP: the user trap after the selector, whose address TPC takes. -/
def trapAct (s : State) (c : Ctx) : Act :=
  let a := aWord s c
  if 65536 ≤ a then rangeTrap 2
  else .go { place := some fun s moves =>
    (s.modGroup c.key fun g => g.placeAll moves).takeTrap c.key (movedTo c moves) c.lanes 0x11#8 (BitVec.ofNat 32 a) }

/-- Is a debugger attached to the context of a group (spec/21 R379)? -/
def State.attachedTo (s : State) (key : Nat) : Bool := match s.context (s.group key).ctx with
  | some x => x.attached.isSome
  | none => false

/-- A group stops for the debugger (spec/21 R380): the stop is a wait, and it is reported. -/
def State.stopGroup (s : State) (key : Nat) (addr : DWord) (lanes : LaneMask) : State :=
  let g := s.group key
  let s := (s.modGroup key fun g => { g with stop := some ⟨addr, lanes⟩ }).beginWait key .stop
  (s.send (.stopReport (recordCore g key) (key % 64) addr lanes)).mgmtEvent

/-- BKPT and UBKPT. -/
def bkptAct (s : State) (c : Ctx) : Act :=
  .go { place := some fun s' moves =>
    let s' := s'.modGroup c.key fun g => g.placeAll moves
    if s.attachedTo c.key then s'.stopGroup c.key (movedTo c moves) c.lanes
    else s'.takeTrap c.key (movedTo c moves) c.lanes 0x12#8 0#32 }

/-- YIELD and UYIELD. -/
def yieldAct (s : State) (c : Ctx) : Act :=
  let a := aWord s c
  if 1024 < a then rangeTrap 2
  else .go { now := fun s _ => s.modGroup c.key fun g =>
    if a = 0 then { g with yieldPass := true } else { g with yieldEnd := s.timeOf c.key + a + 1 } }

/-- ERET. -/
def eretAct (s : State) (c : Ctx) : Act :=
  if !(s.group c.key).trap.hm then privTrap
  else .go { place := some fun s _ => s.returnFromTrap c.key }

/-! ## Control registers (spec/08 R213, spec/17 R326) -/

/-- TCAUSE (spec/08 R213). -/
def TrapRegs.tcause (t : TrapRegs) : Word := (if t.hm then 0x80000000#32 else 0#32) ||| t.cause.setWidth 32

/-- A group register, none for a reserved number. -/
def TrapRegs.creg (t : TrapRegs) (n : Nat) : Option Word :=
  match n with
  | 0 => some t.tcause
  | 1 => some t.detail
  | 2 => some (t.pc.extractLsb' 0 32)
  | 3 => some (t.pc.extractLsb' 32 32)
  | 4 => some t.mask
  | 5 => some (t.vec.extractLsb' 0 32)
  | 6 => some (t.vec.extractLsb' 32 32)
  | _ => none

/-- The state of a circuit-live barrier from its circuits' tickets (spec/08 R205, R387): 0 unbound, 1 live, 2 broken,
3 holding circuits not all live. -/
def State.clbState (s : State) (b : Nat) : Nat :=
  let ts := (mapGet s.clbs b []).map fun n => (s.ticket n).state
  if ts.isEmpty then 0
  else if ts.any fun x => 5 ≤ x then 2
  else if ts.all fun x => x == 4 then 1 else 3

/-- TKSTAT of a slot (spec/17 R326). -/
def State.tkstat (s : State) (n : Nat) : Nat :=
  let t := s.ticket n
  t.state * 2 ^ 29 + t.cause.toNat * 2 ^ 16 + t.swus.toNat

/-- CLBSTAT of a barrier assigned to the reader (spec/17 R326). -/
def State.clbstat (s : State) (b : Nat) : Nat := s.clbState b * 2 ^ 30 + 128 + (mapGet s.clbs b []).length

/-- Is circuit-live barrier `b` assigned to a context? -/
def State.ownsClb (s : State) (ctx b : Nat) : Bool := match s.context ctx with
  | some c => c.barriers.getLsbD b
  | none => false

/-- An engine register of the circuit processor read for a context: none for a reserved number. -/
def State.circuitReg (s : State) (ctx n : Nat) : Option Nat :=
  if n < 0x140 then some (if s.ownsSlot ctx (n - 0x100) then s.tkstat (n - 0x100) else 0)
  else if n < 0x180 then some (if s.ownsClb ctx (n - 0x140) then s.clbstat (n - 0x140) else 0)
  else none

/-- A result of a word in every active lane, landing when the operation completes. -/
def laterResult (c : Ctx) (v : Nat) (kind : OpKind) : Effect where
  res := [resultOf c (Vector.replicate 32 (BitVec.ofNat 128 v))]
  kind := some kind

/-- CRD. What the registers of the command cores hold the spec does not give (log 25). -/
def crdAct (s : State) (c : Ctx) : Act :=
  let g := s.group c.key
  let n := c.f.imm.toNat
  if 4096 ≤ n then rangeTrap 5
  else if n < 0x100 then match g.trap.creg n with
    | some w => .go (laterResult c w.toNat .nop)
    | none => rangeTrap 5
  else if n < 0x200 && g.engine == .circuit then match s.circuitReg g.ctx n with
    | some w => .go (laterResult c w .nop)
    | none => rangeTrap 5
  else if 0x200 ≤ n && g.engine == .command then
    .go { laterResult c ((Config.freeValue s.freeCtr).toNat % 2 ^ 32) .nop with now := fun s _ => s.tookFree }
  else privTrap

/-- CWR. A register that is RO ignores it; so do the command cores' (log 25). -/
def cwrAct (s : State) (c : Ctx) : Act :=
  let g := s.group c.key
  let n := c.f.imm.toNat
  let a : Word := BitVec.ofNat 32 (aWord s c)
  if 4096 ≤ n then rangeTrap 5
  else if n < 7 then
    if n != 2 && n != 3 then .go {}
    else if !g.trap.hm then privTrap
    else .go { now := fun s _ => s.modGroup c.key fun g => { g with trap := { g.trap with
      pc := if n = 2 then g.trap.pc.extractLsb' 32 32 ++ a else a ++ g.trap.pc.extractLsb' 0 32 } } }
  else if n < 0x100 then rangeTrap 5
  else if n < 0x200 && g.engine == .circuit then (if n < 0x180 then .go {} else rangeTrap 5)
  else if 0x200 ≤ n && g.engine == .command then .go {}
  else privTrap

/-- HALT. On the circuit processor it stops every script. -/
def haltAct (s : State) (c : Ctx) : Act :=
  let g := s.group c.key
  match g.engine with
  | .circuit => .go { now := fun s _ => { s with cpHalt := true } }
  | .command => .go { now := fun s _ => s.modGroup c.key fun g => { g with halted := true } }
  | .partition | .churn =>
    if !g.trap.hm then privTrap
    else .go { now := fun s _ => s.haltTeam g.team (causeCode g.trap.cause) }

/-! ## The instructions -/

/-- TRAP (spec/08 R211). -/
def execTrap (f : Fields) (s : State) : Host.Outcome State Fault Refusal := issueWord (.trap f) trapAct s
/-- UTRAP (spec/08 R211). -/
def execUtrap (f : Fields) (s : State) : Host.Outcome State Fault Refusal := issueWord (.utrap f) trapAct s
/-- BKPT (spec/08 R211). -/
def execBkpt (f : Fields) (s : State) : Host.Outcome State Fault Refusal := issueWord (.bkpt f) bkptAct s
/-- UBKPT (spec/08 R211). -/
def execUbkpt (f : Fields) (s : State) : Host.Outcome State Fault Refusal := issueWord (.ubkpt f) bkptAct s
/-- YIELD (spec/08 R211). -/
def execYield (f : Fields) (s : State) : Host.Outcome State Fault Refusal := issueWord (.yield f) yieldAct s
/-- UYIELD (spec/08 R211). -/
def execUyield (f : Fields) (s : State) : Host.Outcome State Fault Refusal := issueWord (.uyield f) yieldAct s
/-- ERET (spec/08 R212). -/
def execEret (f : Fields) (s : State) : Host.Outcome State Fault Refusal := issueWord (.eret f) eretAct s
/-- CRD (spec/08 R213). -/
def execCrd (f : Fields) (s : State) : Host.Outcome State Fault Refusal := issueWord (.crd f) crdAct s
/-- CWR (spec/08 R213). -/
def execCwr (f : Fields) (s : State) : Host.Outcome State Fault Refusal := issueWord (.cwr f) cwrAct s
/-- HALT (spec/08 R214). -/
def execHalt (f : Fields) (s : State) : Host.Outcome State Fault Refusal := issueWord (.halt f) haltAct s

end Sys2Proof.Machine
end

