-- ==== Sys2Proof/Machine/Buffers.lean ====
section
/-! DEFINITION. Buffers that an operation reads or writes whole, as accesses of at most 16 bytes: the records, packets
and messages of spec/08 R187, R191, R194, R201, R202, R207. -/

namespace Sys2Proof.Machine

/-- The accesses of `n` bytes from an address on, none of them crossing an aligned 16-byte unit. -/
def piecesOf (lane : Nat) : Nat → VAddr → Nat → List Access
  | 0, _, _ => []
  | fuel + 1, va, n =>
    if n = 0 then []
    else
      let k := min n (16 - va.toNat % 16)
      ⟨lane, va, k, 0#128, none, false, false, 0#128, none⟩ :: piecesOf lane fuel (va + BitVec.ofNat 80 k) (n - k)

/-- A buffer's accesses. -/
def bufferAccesses (lane : Nat) (va : VAddr) (n : Nat) : List Access := piecesOf lane (n + 1) va n

/-- An operation over a buffer for each of some lanes; a misaligned address traps. -/
def bufferAct (kind : OpKind) (align n : Nat) (res : List RegResult) (lanes : List Nat) (s : State) (c : Ctx) : Act :=
  match lanes.find? fun l => (accessVa s c l).toNat % align != 0 with
  | some l => .trap 0x06#8 (BitVec.ofNat 32 l)
  | none => .go {
      res := res
      kind := some kind
      acc := lanes.flatMap fun l => bufferAccesses l (accessVa s c l) n
      now := fun s id => s.walkOp false id }

/-- The bytes an operation's accesses read, in the order of the accesses. -/
def State.readAccesses (s : State) (o : Op) (acc : List Access) : State × List Byte :=
  acc.foldl (fun (x : State × List Byte) a =>
    let (s, v) := (x.1.drainRedsAt a.paNat a.size).loadLane o 0 a
    (s, x.2 ++ leBytes a.size v.toNat)) (s, [])

/-- The accesses with their store data: consecutive bytes of a list. -/
def fillData : List Access → List Byte → List Access
  | [], _ => []
  | a :: t, bs => { a with data := BitVec.ofNat 128 (leNat (bs.take a.size)) } :: fillData t (bs.drop a.size)

/-- Bytes stored at a physical address by an engine other than a core: copies in L1 stay as they are (spec/11 R260). -/
def State.pathStore (s : State) (m : StoreMode) (die op pa : Nat) (bytes : List Byte) : State :=
  match placeOf s pa with
  | .regs => s.writeRegs (offsetOf pa) bytes
  | .hostMem => s.storeHostMem pa bytes
  | .absent => s
  | .near | .far | .cream | .hostWindow =>
    let s := s.drainRedsAt pa bytes.length
    s.storeIn m die 256 false op pa bytes

/-- An EF store of path P or C: where its line is held and an earlier request waits there, it waits too, seen by its
own die (spec/11 R262). -/
def State.pathPark (s : State) (die op pa : Nat) (bytes : List Byte) : State :=
  if (placeOf s pa).hasLines && !s.lineTurn die (lineOf pa) op then
    (s.storeParked die 256 false op pa bytes).joinLine (lineOf pa) op
  else s.pathStore .ef die op pa bytes

/-- Lines at which stores of a request wait. -/
def State.parkedLines (s : State) (op : Nat) : List Nat :=
  ((s.log.filter fun r => r.op == op && r.parked).map fun r => lineOf r.pa).eraseDups

/-- Is every line at which stores of a request wait turned to it? -/
def State.parkServed (s : State) (die op : Nat) : Bool := (s.parkedLines op).all fun l => s.lineTurn die l op

/-- Bytes read at a physical address past L1, as a die sees them. -/
def State.pathRead (s : State) (die pa n : Nat) : List Byte :=
  match placeOf s pa with
  | .regs => readWith (fun a => s.devByte (offsetOf a)) pa n
  | _ => readWith (s.viewByte die) pa n

end Sys2Proof.Machine
end

