-- ==== Sys2Proof/Machine/Circuit.lean ====
section
/-! DEFINITION. The circuit processor's and the command cores' instructions (spec/08 R203-R209, R387, R388, spec/17
R311-R333): what each does as it issues, and what its later phases do. -/

namespace Sys2Proof.Machine

/-- An operand of the uniform pipe as a 32-bit word. -/
def uWord (s : State) (c : Ctx) (pos : Nat) : Nat := natArg 32 (srcVal s c pos 0)

/-! ## Ports and planes (spec/17 R311) -/

/-- The plane of a port. -/
def planeOf (port : Nat) : Nat := port % 16
/-- The switch port a package's port is wired to. -/
def switchPort (pkg port : Nat) : Nat := 4 * pkg + port / 16
/-- The ports of a plane. -/
def planePorts (p : Nat) : List Nat := [p, p + 16, p + 32, p + 48]

/-- Is a Whey port in use: after a start that took step 9's alternative, port 0 alone (spec/21 R369)? -/
def State.wheyPort (s : State) (p : Nat) : Bool := p < 8 && (p = 0 || !s.boot.alt.getLsbD 9)

/-- The port that carries a session's next frame: the lowest of its PORTS that is in use (log 92). -/
def State.wheyVia (s : State) (n : Nat) : Option Nat :=
  (List.range 8).find? fun p => (s.session n).ports.getLsbD p && s.wheyPort p

/-- The 32-byte transport header of a frame (spec/17 R337): its TYPE, session, SEQ, ACK and LEN. -/
def wheyHeader (type n : Nat) (seq ack : Word) (len : Nat) : List Byte :=
  [1#8, BitVec.ofNat 8 type] ++ leBytes 2 n ++ leBytes 4 seq.toNat ++ leBytes 4 ack.toNat ++ leBytes 2 len ++ leBytes 18 0

/-- A message as AES-256-GCM seals it, with its 16-byte tag; the nonce is the IV base xor the count of the frames sent
under the key, in its low 64 bits (spec/17 R335). -/
def KeyHalf.seal (k : KeyHalf) (count : Nat) (header m : List Byte) : List Byte :=
  (List.range (m.length + 16)).map
    (Config.gcmByte k.key (k.iv ^^^ (BitVec.ofNat 64 count).setWidth 96) header m)

/-- Bytes, most significant first, as the standards of a packet's outer headers have them. -/
def netBytes (n x : Nat) : List Byte := (leBytes n x).reverse

/-- The sum of the 16-bit words of bytes, most significant byte first. -/
def wordSum : List Byte → Nat
  | a :: b :: t => 256 * a.toNat + b.toNat + wordSum t
  | [a] => 256 * a.toNat
  | [] => 0

/-- The Internet checksum of bytes (spec/17 R336): the complement of the ones-complement sum, all ones instead of 0. -/
def udpSum (bs : List Byte) : Nat :=
  let fold (n : Nat) : Nat := n % 65536 + n / 65536
  let x := 65535 - fold (fold (wordSum bs))
  if x = 0 then 65535 else x

/-- The UDP header of a session's packet, with its checksum over the pseudo-header, itself and what it carries. -/
def Session.udp (x : Session) (load : List Byte) : List Byte :=
  let len := 8 + load.length
  let ports := netBytes 2 x.lport.toNat ++ netBytes 2 x.rport.toNat ++ netBytes 2 len
  let pseudo := netBytes 16 Config.wheyIp.toNat ++ leBytes 16 x.peerIp.toNat ++ netBytes 4 len ++ netBytes 4 17
  ports ++ netBytes 2 (udpSum (pseudo ++ ports ++ [0#8, 0#8] ++ load))

/-- What a session's frame travels in (spec/17 R336): Ethernet II, with EtherType 0x88B5 for a local one; for a wide-area
one IPv6 with next header UDP, no extension headers and hop limit 64, and the session's UDP port pair. -/
def Session.outer (x : Session) (p : Nat) (load : List Byte) : List Byte :=
  let macs := leBytes 6 x.peerMac.toNat ++ netBytes 6 (Config.wheyMac p).toNat
  if x.kind = 2 then
    macs ++ [0x86#8, 0xDD#8] ++ [0x60#8, 0#8, 0#8, 0#8] ++ netBytes 2 (8 + load.length) ++ [17#8, 64#8]
      ++ netBytes 16 Config.wheyIp.toNat ++ leBytes 16 x.peerIp.toNat ++ x.udp load
  else macs ++ [0x88#8, 0xB5#8]

/-- A frame of a session put on a port, with the highest SEQ received in order as its ACK; without a port it is not
sent. Its message is sealed; a key agreement's before the session has keys travels as it is (log 16). -/
def State.wheyPut (s : State) (n type : Nat) (seq : Word) (m : List Byte) : State :=
  let x := s.session n
  match s.wheyVia n with
  | none => s
  | some p =>
    let h := wheyHeader type n seq (x.nextRecv - 1#32) m.length
    let body := if type = 3 && x.keys.send.key.isEmpty then m else x.keys.send.seal x.sent h m
    (s.setSession n { x with sent := x.sent + 1, keys := { x.keys with mark := false } }).send
      (.whey p (x.outer p (h ++ body)) h body x.keys.mark)

/-- A message handed to a session's transport, which sends it (spec/17 R339). -/
def State.wheySend (s : State) (n : Nat) (m : List Byte) : State :=
  let x := s.session n
  (s.setSession n { x with
    nextSend := x.nextSend + 1#32
    lastAck := if x.unacked.isEmpty then s.ns else x.lastAck
    unacked := x.unacked ++ [(x.nextSend, m, s.ns, 0)] }).wheyPut n 1 x.nextSend m

/-- A circuit-agent message as it travels: a 16-byte header and a 16-byte body (spec/17 R328). -/
def switchBytes (m : SwitchMsg) : List Byte :=
  [m.ver, m.kind] ++ leBytes 2 m.len.toNat ++ [m.slot] ++ leBytes 3 m.seq.toNat ++ [m.plane] ++ leBytes 7 m.rsv.toNat
    ++ [m.pkg, m.swPort, m.peerPkg, m.peerPort] ++ leBytes 4 m.value.toNat ++ leBytes 8 m.rsv2.toNat

/-- A circuit agent's message as its 32 bytes give it. -/
def switchMsgOf (r : List Byte) : SwitchMsg :=
  let at_ (o n w : Nat) : BitVec w := BitVec.ofNat w (leNat ((r.drop o).take n))
  { ver := at_ 0 1 8, kind := at_ 1 1 8, len := at_ 2 2 16, slot := at_ 4 1 8, seq := at_ 5 3 24, plane := at_ 8 1 8
    rsv := at_ 9 7 56, pkg := at_ 16 1 8, swPort := at_ 17 1 8, peerPkg := at_ 18 1 8, peerPort := at_ 19 1 8
    value := at_ 20 4 32, rsv2 := at_ 24 8 64 }

/-- A message that is not discarded for a reserved byte, its LEN or its TYPE (spec/17 R328), of a TYPE. -/
def msgIs (m : SwitchMsg) (kind : Nat) : Bool :=
  m.kind.toNat == kind && m.len == 32#16 && m.rsv == 0#56 && m.rsv2 == 0#64

/-- The event that a circuit agent's message is, by its TYPE (spec/17 R329): those of the switches' own. -/
def switchEvent (m : SwitchMsg) : Option Event :=
  if msgIs m 2 then some (.connected m) else if msgIs m 3 then some (.refused m) else if msgIs m 5 then some (.released m)
  else if msgIs m 6 then some (.broken m) else if msgIs m 7 then some (.hello m) else none

/-- The event that a message received on session 0 is; any other is firmware's or is discarded. -/
def agentEvent (r : List Byte) : Option Event := if r.length = 32 then switchEvent (switchMsgOf r) else none

/-- A message received on a session: the next in order is delivered once; any other is not. On session 0 it is for the
circuit processor to hear (spec/17 R328). -/
def State.wheyTakes (s : State) (n : Nat) (seq : Word) (m : List Byte) : State :=
  let x := s.session n
  if seq != x.nextRecv then s
  else
    let x := { x with nextRecv := x.nextRecv + 1#32 }
    if n != 0 then s.setSession n { x with inbox := x.inbox ++ [m] }
    else match agentEvent m with
      | some e => (s.setSession n { x with inbox := x.inbox ++ [m] }).soon e
      | none => s.setSession n x

/-- The circuit processor hears a switch's message, which session 0 has delivered. -/
def State.hears (s : State) (m : SwitchMsg) (f : State → State) : State :=
  let x := s.session 0
  if x.inbox.contains (switchBytes m) then f (s.setSession 0 { x with inbox := x.inbox.erase (switchBytes m) }) else s

/-- A message of this package about a ticket: HELLO, which names none, has XID 0 (spec/17 R328). -/
def State.agentMsg (s : State) (kind slot : Nat) : SwitchMsg :=
  let t := s.ticket slot
  { ver := 1#8, kind := BitVec.ofNat 8 kind, len := 32#16
    slot := BitVec.ofNat 8 slot, seq := t.seq
    plane := BitVec.ofNat 8 (planeOf t.port), rsv := 0#56
    pkg := BitVec.ofNat 8 s.package, swPort := BitVec.ofNat 8 (switchPort s.package t.port)
    peerPkg := BitVec.ofNat 8 t.peerPkg, peerPort := BitVec.ofNat 8 (switchPort t.peerPkg t.peerPort)
    value := 0#32, rsv2 := 0#64 }

/-- A message from the circuit processor to the switch of a ticket's plane, on Whey session 0 (spec/17 R328). -/
def State.tellSwitch (s : State) (kind slot : Nat) : State := s.wheySend 0 (switchBytes (s.agentMsg kind slot))

/-- The state and cause of the ticket in a slot set. -/
def State.ticketTo (s : State) (slot st : Nat) (cause : BitVec 8) : State :=
  s.setTicket slot { s.ticket slot with state := st, cause := cause }

/-- The stripe to a peer (spec/17 R322): live ports with a circuit to it on planes that are not drained. -/
def State.stripeTo (s : State) (peer : Nat) : List Nat :=
  (List.range 64).filter fun n =>
    let p := s.port n
    p.state == 3 && p.peerPkg.toNat == peer && !s.drained.getLsbD (planeOf n)

/-- Every peer's stripe recomputed; flits in flight on a port that has left it travel again (spec/17 R322, R323). -/
def State.restripe (s : State) : State :=
  { s with peerLinks := s.peerLinks.map fun (k, l) => (k, { l with stripe := s.stripeTo k, turn := 0, deficit := [] }) }

/-- A port's usable rate in units of 100 Gb/s (spec/17 R316). -/
def Port.rate (p : Port) : Nat := p.lanes.foldl (fun n l => if l.usable then n + l.rate else n) 0

/-- The port of a stripe that takes the next flit, by deficit round-robin weighted by usable rate (spec/17 R322; a flit
costs one unit of rate: log 36). -/
def nextPort (rate : Nat → Nat) : Nat → PeerLink → Option (Nat × PeerLink)
  | 0, _ => none
  | fuel + 1, l =>
    match l.stripe[l.turn]? with
    | none => none
    | some p =>
      let have_ := (mapGet? l.deficit p).getD (rate p)
      if 0 < have_ then some (p, { l with deficit := mapSet l.deficit p (have_ - 1) })
      else
        let n := (l.turn + 1) % l.stripe.length
        let q := l.stripe.getD n 0
        let more := match mapGet? l.deficit q with
          | some d => d + rate q
          | none => rate q
        nextPort rate fuel { l with turn := n, deficit := mapSet l.deficit q more }

/-- The fabric's state towards a peer. -/
def State.peerLink (s : State) (peer : Nat) : PeerLink := match mapGet? s.peerLinks peer with
  | some l => l
  | none => { PeerLink.idle with stripe := s.stripeTo peer }

/-- A frame sent on a port, counted under its keys, of which the first is the marked one (spec/17 R335). -/
def State.portSends (s : State) (n : Nat) : State :=
  let p := s.port n
  s.setPort n { p with sent := p.sent + 1, keys := { p.keys with mark := false } }

/-- A flit put on the stripe to a peer; without a live port it waits (spec/17 R323). -/
def State.sendFlit (s : State) (peer : Nat) : State :=
  let l := s.peerLink peer
  match nextPort (fun n => (s.port n).rate) (l.stripe.length + 1) l with
  | none => { s with peerLinks := mapSet s.peerLinks peer l }
  | some (p, l) => State.tookHit (State.portSends { s with peerLinks := mapSet s.peerLinks peer { l with
      nextSend := l.nextSend + 1#32
      unacked := l.unacked ++ [⟨l.nextSend, p, s.ns, s.nextHit⟩] } } p)

/-- What a port's going dark makes of its ticket's state (spec/17 R327): broken from live or gated for any cause but 0x01,
failed from locking or trained, and for another cause than 0x01 before that too (R321). -/
def darkTicket (was state : Nat) (cause : BitVec 8) : Nat :=
  if 3 ≤ was then (if cause = 0x01#8 then state else 7)
  else if was = 0 && cause = 0x01#8 then state else 6

/-- A port goes dark with a cause, which becomes its ticket's cause too (spec/17 R312, R313, R327), unless CREL has
released the ticket. -/
def State.portDark (s : State) (n : Nat) (cause : BitVec 8) : State :=
  let p := s.port n
  if p.state = 0 && !p.lights then s
  else
    let s := s.setPort n { p with
      state := 0, cause := cause, lights := false, sinceNs := s.ns, badAuth := 0, keys := .off
      lanes := p.lanes.map fun l => { l with locked := false } }
    let s := match p.ticket with
      | some slot =>
        if (s.ticket slot).firstRel != 0 then s
        else s.ticketTo slot (darkTicket p.state (s.ticket slot).state cause) cause
      | none => s
    s.restripe

/-! ## CREQ (spec/08 R203, spec/17 R362) -/

/-- CREQ. -/
def creqAct (s : State) (c : Ctx) : Act :=
  let a := uWord s c 0
  let b := uWord s c 1
  let ctx := (s.group c.key).ctx
  if 64 ≤ a then rangeTrap 2
  else if b % 65536 / 64 != 0 || 64 ≤ b / 65536 then rangeTrap 3
  else match s.freeSlot ctx with
    | none => .go {}
    | some n =>
      let t := s.ticket n
      .go { laterResult c (t.seq.toNat * 256 + n) (.creq n) with
        now := fun s _ => s.setTicket n { t with
          state := 1
          cause := 0#8
          swus := 0#16
          port := a
          peerPkg := b / 65536
          peerPort := b % 64
          ctx := ctx
          releasing := false } }

/-- Does a request pass the local check (spec/08 R203, spec/17 R327, spec/21 R369: none after a start that has skipped
the ports)? -/
def State.circuitGood (s : State) (t : Ticket) : Bool :=
  planeOf t.peerPort == planeOf t.port && t.peerPkg < 48 && !s.boot.alt.getLsbD 10
    && (match s.context t.ctx with
      | some c => c.ports.getLsbD t.port
      | none => false)
    && (s.port t.port).ticket.isNone

/-- The local check of a CREQ made: CONNECT is sent, or the ticket is refused; D is written. -/
def State.creqStep (s : State) (id : Nat) (o : Op) (n : Nat) : State :=
  let t := s.ticket n
  let s := if t.state != 1 || t.releasing then s
    else if !s.circuitGood t then s.ticketTo n 5 0x20#8
    else
      let s := s.setTicket n { t with state := 2, sentNs := s.ns }
      (s.setPort t.port { s.port t.port with ticket := some n }).tellSwitch 1 n
  (s.landOp o).completeOp id

/-! ## CAWAIT (spec/08 R204) -/

/-- The code that a ticket's state gives a CAWAIT at once. -/
def caCode (t : Ticket) (seq : BitVec 24) : Option Nat :=
  if t.seq != seq then some 5
  else match t.state with
    | 0 => some 5
    | 4 => some 0
    | 5 => some 2
    | 6 => some 3
    | 7 => some 4
    | _ => none

/-- Has a CAWAIT's limit passed? In one microsecond a live ticket goes first (spec/17 R332). -/
def State.caExpired (s : State) (untilNs : Nat) : Bool := untilNs == 0 || untilNs / 1000 < s.ns / 1000

/-- A CAWAIT tested: it ends with its code in the uniform latch and hD true when the circuit is live. -/
def State.cawaitStep (s : State) (id : Nat) (o : Op) (slot : Nat) (seq : BitVec 24) (untilNs : Nat) : State :=
  let code := match caCode (s.ticket slot) seq with
    | some n => some n
    | none => if s.caExpired untilNs then some 1 else none
  match code with
  | none => s.redue id
  | some n =>
    let s := s.modGroup o.group Group.nextEpoch
    let put (r : RegResult) : RegResult :=
      { r with vals := Vector.replicate 32 (if r.latch then BitVec.ofNat 128 n else boolVal (n == 0)) }
    (s.landOp { o with res := o.res.map put }).completeOp id

/-- CAWAIT. A slot that is not the context's holds no ticket of its (log 26). -/
def cawaitAct (s : State) (c : Ctx) : Act :=
  let a := uWord s c 0
  let b := uWord s c 1
  let slot := a % 256
  if 60000000 < b then rangeTrap 3
  else
    let seq := if s.ownsSlot (s.group c.key).ctx slot then BitVec.ofNat 24 (a / 256) else (s.ticket slot).seq + 1#24
    .go {
      res := [{ resultOf c (Vector.replicate 32 0#128) with latch := false },
        { resultOf c (Vector.replicate 32 0#128) with dest := .latchOnly, width := 32, latch := true }]
      kind := some (.cawait slot seq (if b = 0 then 0 else s.ns + b * 1000))
      holds := true }

/-! ## CUSE and CREL (spec/08 R205, R387) -/

/-- A circuit recorded in a barrier. -/
def State.useCircuit (s : State) (n b : Nat) : State :=
  let old := mapGet s.clbs b []
  if old.contains n then s else { s with clbs := mapSet s.clbs b (old ++ [n]) }

/-- CUSE. The barrier records the circuit as it issues, so in the order in which the circuit processor issues its scripts'
instructions (spec/17 R333), and no later CREL overtakes it. -/
def cuseAct (s : State) (c : Ctx) : Act :=
  let a := uWord s c 0
  let b := uWord s c 1
  let ctx := (s.group c.key).ctx
  let n := a % 256
  let t := s.ticket n
  if 64 ≤ b then rangeTrap 3
  else if !s.ownsSlot ctx n || !s.ownsClb ctx b then privTrap
  else if t.state == 0 || t.seq != BitVec.ofNat 24 (a / 256) || t.releasing then rangeTrap 2
  else .go { kind := some .cuse, now := fun s _ => s.useCircuit n b }

/-- Does some copy that has not ended name a barrier that holds a circuit? -/
def State.copiesUnder (s : State) (n : Nat) : Bool :=
  s.copies.any fun p => p.2.shape.clbEn && (mapGet s.clbs p.2.shape.clb []).contains n

/-- CREL. -/
def crelAct (s : State) (c : Ctx) : Act :=
  let a := uWord s c 0
  let n := a % 256
  let t := s.ticket n
  let seq := BitVec.ofNat 24 (a / 256)
  if !s.ownsSlot (s.group c.key).ctx n then privTrap
  else if t.state == 0 || t.seq != seq then .go {}
  else if t.releasing then .go { kind := some (.crel n seq), holds := true }
  else .go {
    kind := some (.crel n seq)
    holds := true
    now := fun s _ => s.setTicket n { t with releasing := true, firstRel := 0 } }

/-- A circuit's release begun: it leaves its barriers, its port goes dark with cause 0x01, and RELEASE is sent. -/
def State.startRelease (s : State) (n : Nat) : State :=
  let p := (s.ticket n).port
  let s := { s with clbs := (s.clbs.map fun (x : Nat × List Nat) => (x.1, x.2.filter (· != n))).filter fun x => !x.2.isEmpty }
  let s := if (s.port p).ticket == some n then s.portDark p 0x01#8 else s
  (s.setTicket n { s.ticket n with releasing := true, firstRel := max 1 s.ns, sentNs := s.ns }).tellSwitch 4 n

/-- A ticket slot freed, and with it its port (spec/17 R327, R361): its sequence number advances. -/
def State.freeTicket (s : State) (n : Nat) : State :=
  let t := s.ticket n
  let s := if (s.port t.port).ticket == some n then s.setPort t.port { s.port t.port with ticket := none } else s
  s.setTicket n { Ticket.free with seq := t.seq + 1#24 }

/-- A CREL tested: it begins the release once no copy is under the circuit (at once for a request not yet live), and
completes once the ticket is free. -/
def State.crelStep (s : State) (id n : Nat) (seq : BitVec 24) : State :=
  let t := s.ticket n
  if t.state = 0 || t.seq != seq then s.completeOp id
  else if t.firstRel != 0 || (4 ≤ t.state && s.copiesUnder n) then s.redue id
  else (s.startRelease n).redue id

/-! ## Planes (spec/08 R206, spec/17 R324, R362) -/

/-- Is a plane live: has it a live port? -/
def State.planeLive (s : State) (p : Nat) : Bool := (planePorts p).any fun n => (s.port n).state == 3

/-- PLDRAIN and PLJOIN. -/
def planeAct (kind : Nat → OpKind) (s : State) (c : Ctx) : Act :=
  let a := uWord s c 0
  if 16 ≤ a then rangeTrap 2 else .go { laterResult c 0 (kind a) with holds := true }

/-- An operation ends with a predicate. -/
def State.finishBool (s : State) (id : Nat) (o : Op) (b : Bool) : State :=
  (s.landOp { o with res := o.res.map fun r => { r with vals := Vector.replicate 32 (boolVal b) } }).completeOp id

/-- Has the package a flit in flight on a plane? -/
def State.flitsOn (s : State) (p : Nat) : Bool := s.peerLinks.any fun l => l.2.unacked.any fun u => planeOf u.port == p

/-- A PLDRAIN tested: refused when no other plane is live; else the plane leaves every stripe, and its live ports go gated
once no flit is in flight on it. -/
def State.pldrainStep (s : State) (id : Nat) (o : Op) (p : Nat) (begun : Bool) : State :=
  if !begun && !((List.range 16).any fun q => q != p && s.planeLive q) then s.finishBool id o false
  else
    let s := State.restripe { s with drained := s.drained ||| (1#16 <<< p) }
    let s := s.setOp id { o with kind := .pldrain p true }
    if s.flitsOn p then s.redue id
    else
      let s := (planePorts p).foldl (fun (s : State) n =>
        if (s.port n).state = 3 then s.setPort n { s.port n with state := 4, sinceNs := s.ns } else s) s
      s.finishBool id o true

/-- A PLJOIN tested: refused when the plane has no live or gated port; else its gated ports return to live. -/
def State.pljoinStep (s : State) (id : Nat) (o : Op) (p : Nat) : State :=
  if !(planePorts p).any fun n => 3 ≤ (s.port n).state then s.finishBool id o false
  else
    let s := { s with drained := s.drained &&& ~~~(1#16 <<< p) }
    let s := (planePorts p).foldl (fun (s : State) n =>
      if (s.port n).state = 4 then s.setPort n { s.port n with state := 3, sinceNs := s.ns, lastNs := s.ns } else s) s
    s.restripe.finishBool id o true

/-! ## The Whey plane (spec/08 R207, spec/17 R339) -/

/-- Is a Whey session open in the context of a group? -/
def State.wheyOpen (s : State) (key n : Nat) : Bool :=
  (s.session n).state == 2 && (s.session n).ctx == (s.group key).ctx && n < 1024

/-- WSEND. -/
def wsendAct (s : State) (c : Ctx) : Act :=
  let w := uWord s c 2
  let len := w / 65536
  if len < 4 || 1024 < len || len % 4 != 0 then rangeTrap 4
  else if !s.wheyOpen c.key (w % 65536) then privTrap
  else bufferAct (.wsend (w % 65536) len) 4 len [] [0] s c

/-- A WSEND's buffer read and its message accepted; a session that has closed takes nothing. -/
def State.wsendStep (s : State) (id : Nat) (o : Op) (n : Nat) : State :=
  if s.opReadsPoison o then s.consumePoison o.group
  else
    let (s, m) := s.readAccesses o o.acting
    let s := if (s.session n).state = 2 then s.wheySend n m else s
    s.finishOp id []

/-- WRECV. -/
def wrecvAct (s : State) (c : Ctx) : Act :=
  let w := uWord s c 2
  let va := accessVa s c 0
  if !s.wheyOpen c.key (w % 65536) then privTrap
  else if va.toNat % 4 != 0 then .trap 0x06#8 0#32
  else .go {
    res := pendingResult c
    kind := some (.wrecv (w % 65536) (w / 65536))
    acc := [⟨0, va, 0, 0#128, none, true, false, 0#128, none⟩]
    holds := true }

/-- A WRECV tested: with a message its buffer's accesses are made, and once they have passed their fault point the message
is written and D is its full length; a closed session gives 0. -/
def State.wrecvStep (s : State) (id : Nat) (o : Op) (n len : Nat) : State :=
  let x := s.session n
  let ahead := s.ops.any fun p => p.1 < id && match p.2.kind with
    | .wrecv m _ => m == n
    | _ => false
  if x.state != 2 then s.finishOp id [(0, 0#128)]
  else match x.inbox with
  | [] => s.redue id
  | m :: rest =>
    if ahead then s.redue id
    else
      let va := match o.acc with
        | a :: _ => a.va
        | [] => 0#80
      let k := min len m.length
      if k != 0 && o.acc.length = 1 then
        (s.setOp id { o with acc := o.acc ++ bufferAccesses 0 va k, walked := false }).walkOp false id
      else if !o.walked then s.redue id
      else
        let s := (fillData o.acting m).foldl (fun (s : State) a => (s.drainRedsAt a.paNat a.size).storeLane o id .ef a) s
        (s.setSession n { x with inbox := rest }).finishOp id [(0, BitVec.ofNat 128 m.length)]

/-- WPOLL. -/
def wpollAct (s : State) (c : Ctx) : Act :=
  let n := uWord s c 2 % 65536
  if !s.wheyOpen c.key n then privTrap
  else .go (laterResult c (match (s.session n).inbox with
    | m :: _ => m.length
    | [] => 0) .nop)

/-! ## Timers (spec/08 R208, R388) -/

/-- A timer of a context set or cleared. -/
def State.setTimer (s : State) (ctx n : Nat) (t : Option Nat) : State :=
  match s.context ctx with
  | some x => { s with contexts := mapSet s.contexts ctx { x with timers := x.timers.setIfInBounds n t } }
  | none => s

/-- Is a timer of a context armed? -/
def State.timerArmed (s : State) (ctx n : Nat) : Bool := match s.context ctx with
  | some x => (vget x.timers n none).isSome
  | none => false

/-- The waits on a timer end (spec/08 R388). -/
def State.endTimerWaits (s : State) (ctx n : Nat) : State :=
  (s.ops.filter fun p => p.2.kind == .tmrWait n && (s.group p.2.group).ctx = ctx).foldl
    (fun (s : State) p => s.completeOp p.1) s

/-- TMR `.read`. -/
def tmrReadAct (s : State) (c : Ctx) : Act := .go (laterResult c s.ns .nop)

/-- TMR `.set`. -/
def tmrSetAct (s : State) (c : Ctx) : Act :=
  let a := uWord s c 0
  let b := uWord s c 1
  if 8 ≤ a then rangeTrap 2
  else .go { now := fun s _ => s.setTimer (s.group c.key).ctx a (some (s.ns + b * 1000)) }

/-- TMR `.wait`. -/
def tmrWaitAct (s : State) (c : Ctx) : Act :=
  let a := uWord s c 0
  if 8 ≤ a then rangeTrap 2 else .go { kind := some (.tmrWait a), holds := true }

/-- TMR `.cancel`. -/
def tmrCancelAct (s : State) (c : Ctx) : Act :=
  let a := uWord s c 0
  if 8 ≤ a then rangeTrap 2
  else .go { now := fun s _ => (s.setTimer (s.group c.key).ctx a none).endTimerWaits (s.group c.key).ctx a }

/-- A TMR `.wait` tested. -/
def State.tmrWaitStep (s : State) (id : Nat) (o : Op) (n : Nat) : State :=
  if s.timerArmed (s.group o.group).ctx n then s.redue id else s.completeOp id

/-! ## Command cores (spec/08 R209, spec/14 R275, R276) -/

/-- The priority of the queue an event names. -/
def State.eventPrio (s : State) (e : DWord) : Nat := (s.queue (e.toNat / 2 ^ 48 % 256)).prio.toNat

/-- The index of the event EVTAKE returns: of the highest priority, the oldest. -/
def State.bestEvent (s : State) : Nat → List DWord → Option (Nat × DWord)
  | _, [] => none
  | i, e :: t =>
    match s.bestEvent (i + 1) t with
    | none => some (i, e)
    | some (j, f) => if s.eventPrio e < s.eventPrio f then some (j, f) else some (i, e)

/-- Held events enter the queue while it has room. -/
def State.takeHeld (s : State) : State :=
  let n := 4096 - s.events.length
  { s with events := s.events ++ s.heldEvts.take n, heldEvts := s.heldEvts.drop n }

/-- EVTAKE. -/
def evtakeAct (_ : State) (c : Ctx) : Act := .go { laterResult c 0 .evtake with holds := true }

/-- An EVTAKE tested; during a firmware update the events are held in the queue (spec/21 R372). -/
def State.evtakeStep (s : State) (id : Nat) (o : Op) : State :=
  match if s.fw.quiesced then none else s.bestEvent 0 s.events with
  | none => s.redue id
  | some (i, e) => (State.takeHeld { s with
      events := s.events.eraseIdx i
      cmcEvent := mapSet s.cmcEvent o.group e }).finishOp id [(0, e.setWidth 128)]

/-- EVPOST. -/
def evpostAct (s : State) (c : Ctx) : Act :=
  let e : DWord := BitVec.ofNat 64 (natArg 64 (srcVal s c 0 0))
  .go { now := fun s _ => s.postEvent e }

/-- QLOCK. -/
def qlockAct (s : State) (c : Ctx) : Act := .go { kind := some (.qlock (uWord s c 0 % 256)), holds := true }

/-- A QLOCK tested: it holds the lock when the lock is free. -/
def State.qlockStep (s : State) (id : Nat) (o : Op) (q : Nat) : State :=
  match mapGet? s.qlocks q with
  | some _ => s.redue id
  | none => State.completeOp { s with qlocks := mapSet s.qlocks q o.group } id

/-- QFREE. -/
def qfreeAct (s : State) (c : Ctx) : Act :=
  let q := uWord s c 0 % 256
  if mapGet? s.qlocks q != some c.key then rangeTrap 2
  else .go { now := fun s _ => { s with
    qlocks := mapDel s.qlocks q
    cmcEvent := s.cmcEvent.filter fun e => !(e.1 = c.key && e.2.toNat / 2 ^ 48 % 256 = q) } }

/-! ## The instructions -/

/-- CREQ (spec/08 R203). -/
def execCreq (f : Fields) (s : State) : Host.Outcome State Fault Refusal := issueWord (.creq f) creqAct s
/-- CAWAIT (spec/08 R204). -/
def execCawait (f : Fields) (s : State) : Host.Outcome State Fault Refusal := issueWord (.cawait f) cawaitAct s
/-- CUSE (spec/08 R205). -/
def execCuse (f : Fields) (s : State) : Host.Outcome State Fault Refusal := issueWord (.cuse f) cuseAct s
/-- CREL (spec/08 R205). -/
def execCrel (f : Fields) (s : State) : Host.Outcome State Fault Refusal := issueWord (.crel f) crelAct s
/-- PLDRAIN (spec/08 R206). -/
def execPldrain (f : Fields) (s : State) : Host.Outcome State Fault Refusal := issueWord (.pldrain f) (planeAct fun p => .pldrain p false) s
/-- PLJOIN (spec/08 R206). -/
def execPljoin (f : Fields) (s : State) : Host.Outcome State Fault Refusal := issueWord (.pljoin f) (planeAct .pljoin) s
/-- WSEND (spec/08 R207). -/
def execWsend (f : Fields) (s : State) : Host.Outcome State Fault Refusal := issueWord (.wsend f) wsendAct s
/-- WRECV (spec/08 R207). -/
def execWrecv (f : Fields) (s : State) : Host.Outcome State Fault Refusal := issueWord (.wrecv f) wrecvAct s
/-- WPOLL (spec/08 R207). -/
def execWpoll (f : Fields) (s : State) : Host.Outcome State Fault Refusal := issueWord (.wpoll f) wpollAct s
/-- TMR `.read` (spec/08 R208). -/
def execTmrRead (f : Fields) (s : State) : Host.Outcome State Fault Refusal := issueWord (.tmrRead f) tmrReadAct s
/-- TMR `.set` (spec/08 R208). -/
def execTmrSet (f : Fields) (s : State) : Host.Outcome State Fault Refusal := issueWord (.tmrSet f) tmrSetAct s
/-- TMR `.wait` (spec/08 R208). -/
def execTmrWait (f : Fields) (s : State) : Host.Outcome State Fault Refusal := issueWord (.tmrWait f) tmrWaitAct s
/-- TMR `.cancel` (spec/08 R388). -/
def execTmrCancel (f : Fields) (s : State) : Host.Outcome State Fault Refusal := issueWord (.tmrCancel f) tmrCancelAct s
/-- EVTAKE (spec/08 R209). -/
def execEvtake (f : Fields) (s : State) : Host.Outcome State Fault Refusal := issueWord (.evtake f) evtakeAct s
/-- EVPOST (spec/08 R209). -/
def execEvpost (f : Fields) (s : State) : Host.Outcome State Fault Refusal := issueWord (.evpost f) evpostAct s
/-- QLOCK (spec/08 R209). -/
def execQlock (f : Fields) (s : State) : Host.Outcome State Fault Refusal := issueWord (.qlock f) qlockAct s
/-- QFREE (spec/08 R209). -/
def execQfree (f : Fields) (s : State) : Host.Outcome State Fault Refusal := issueWord (.qfree f) qfreeAct s

end Sys2Proof.Machine
end

