-- ==== Sys2Proof/Machine/Launches.lean ====
section
/-! DEFINITION. Launches from dispatch to completion: spawn-tree counters, completion records and timelines
(spec/09 R232, spec/14 R270-R283). -/

namespace Sys2Proof.Machine

/-! ## Completion records and timelines (spec/14 R281, R283) -/

/-- The slot of packet `i` of a queue in its rings (spec/14 R268, R269). -/
def Queue.slot (q : Queue) (i : Nat) : Nat := i % (16 * 2 ^ q.logsz.toNat)

/-- The 32 bytes of a completion record. -/
def recordBytes (value start stop : DWord) (error : BitVec 16) (lost bitmap : Bool) (teams : Nat) : List Byte :=
  leBytes 8 value.toNat ++ leBytes 8 start.toNat ++ leBytes 8 stop.toNat ++ leBytes 2 error.toNat
    ++ leBytes 2 (1 + (if lost then 2 else 0) + (if bitmap then 4 else 0)) ++ leBytes 4 (min teams 0xFFFFFFFF)

/-- The timeline rises over the packets complete in ring order. -/
def riseFrom : Nat → Queue → Queue
  | 0, q => q
  | n + 1, q =>
    let i := (q.tlv - q.tlInit).toNat
    if q.complete.contains i then
      riseFrom n { q with tlv := q.tlv + 1#64, complete := q.complete.filter (· != i) }
    else q

/-- A packet of a queue complete, its record visible or discarded; one dispatched before EN was last set moves nothing. -/
def Queue.finished (q : Queue) (gen i : Nat) : Queue :=
  if q.gen != gen || !q.inFlight.contains i then q else riseFrom (q.complete.length + 1) { q with
    inFlight := q.inFlight.filter (· != i)
    complete := i :: q.complete.filter (· != i) }

/-- The byte of an inclusion area that the front end reads before it writes a launch's record: has the collective written
its bitmaps (spec/18 R351)? A fault or poison on that read says no (log 32). -/
def State.inclusionWritten (s : State) (area : Option (Nat × VAddr)) : Bool :=
  match area with
  | none => false
  | some (ctx, va) => match s.walk ctx va .read with
    | .ok pa _ _ _ =>
      if s.poisonAt pa then false
      else match s.pathRead 0 pa 1 with
        | b :: _ => b.getLsbD 7
        | [] => false
    | .hold | .fault _ _ => false

/-- Where a completion's record lies. -/
def State.recordVa (s : State) (c : Completion) : VAddr :=
  let q := s.queue c.queue
  vaddr q.qspace (q.qcbase + BitVec.ofNat 64 (32 * q.slot c.index))

/-- Does a completion wait: its record's page, or that of the byte it reads first, is being migrated (spec/15 R300)? -/
def State.completionHeld (s : State) (c : Completion) : Bool :=
  s.deviceHeld (s.queue c.queue).ctx.toNat (s.recordVa c) .write || c.area.any fun a => s.deviceHeld a.1 a.2 .read

/-- A packet completes: every access of its work is released at package scope, its record is written or discarded, and the
timeline rises. -/
def State.completeNow (s : State) (c : Completion) : State :=
  let s := s.showAll fun _ => true
  let bytes := recordBytes (c.init + BitVec.ofNat 64 (c.index + 1)) (BitVec.ofNat 64 c.startNs) s.timer c.error c.lost
    (s.inclusionWritten c.area) c.teams
  let s := (s.deviceStore (s.queue c.queue).ctx.toNat (s.recordVa c) bytes).getD s
  s.setQueue c.queue ((s.queue c.queue).finished c.gen c.index)

/-- A packet completes, now or once what holds its record's write has ended. -/
def State.completePacket (s : State) (c : Completion) : State :=
  if s.completionHeld c then { s with heldEnds := s.heldEnds ++ [c] } else s.completeNow c

/-- Completions that waited tried again, in their order. -/
def State.serveEnds (s : State) : State :=
  s.heldEnds.foldl (fun (s : State) c => s.completePacket c) { s with heldEnds := [] }

/-! ## Spawn-tree counters (spec/09 R232) -/

/-- A launch's counter changed; its return to zero is an event (spec/14 R275), and counts -1 in its parent's (R277). -/
def countFrom : Nat → Nat → Int → State → State
  | 0, _, _, s => s
  | n + 1, grid, d, s =>
    match s.launch? grid with
    | none => s
    | some l =>
      let s := s.setLaunch grid { l with counter := l.counter + d }
      if l.counter + d = 0 && d < 0 then
        let s := s.launchEvent 0x02 grid
        match l.parent with
        | some p => countFrom n p (-1) s
        | none => s
      else s

/-- A launch's counter changed. -/
def State.count (s : State) (grid : Nat) (d : Int) : State := countFrom (s.launches.length + 1) grid d s

/-- Has a launch a copy or a macro-operation that has not ended (spec/14 R270)? -/
def State.engineWork (s : State) (grid : Nat) : Bool :=
  s.copies.any (fun p => p.2.grid == grid)
    || s.clusters.any fun p => p.2.churn.grid == some grid && !p.2.churn.macros.isEmpty

/-- Is a launch complete (spec/14 R270)? A child that has not ended may still bring it an error (R277; log 72). During
a firmware update the event that completes it is held (spec/21 R372). -/
def State.launchOver (s : State) (grid : Nat) (l : Launch) : Bool :=
  !l.done && !s.fw.quiesced && l.counter == 0 && !(s.launches.any fun c => c.2.parent == some grid) && l.churnLeft.isEmpty && !s.engineWork grid && !s.orphans.any (fun o => o.grid == grid)
    && !s.groups.any fun p => isGhost p.1 && p.2.team == grid

/-- The byte of a launch's inclusion area that the front end reads, for a launch that names one (spec/18 R351). -/
def Launch.area (l : Launch) : Option (Nat × VAddr) :=
  let area : DWord := l.args.getD 15 0#32 ++ l.args.getD 14 0#32
  if l.packet.type = 3 || area = 0#64 then none else some (l.ctx, vaddr l.packet.space (area + 7#64))

/-- A launch completes. A child's first error and its teams count in its parent (spec/14 R277); a fault
handler's end brings the resolution of its records (spec/08 R389). -/
def State.endLaunch (s : State) (grid : Nat) (l : Launch) : State :=
  let s := { s with
    launches := if l.handler.isSome then mapSet s.launches grid { l with done := true } else mapDel s.launches grid
    ranges := s.ranges.filter fun r => r.grid != grid }
  match l.parent, l.handler with
  | some p, _ =>
    match s.launch? p with
    | none => s
    | some m =>
      let m := m.withError l.error
      let m := { m with errorLost := m.errorLost || l.errorLost, teams := m.teams + l.teams }
      s.setLaunch p m
  | none, some _ => s.later (.faultResolution l.ctx)
  | none, none =>
    let s := s.showAll fun _ => true
    s.completePacket ⟨l.queue, l.index, l.gen, l.tlInit, l.startNs, l.error, l.errorLost, l.area, l.teams⟩

/-- A launch that is over completes, and with it each ancestor whose last work it was. -/
def checkLaunchFrom : Nat → Nat → State → State
  | 0, _, s => s
  | n + 1, grid, s =>
    match s.launch? grid with
    | none => s
    | some l =>
      if s.launchOver grid l then
        let s := s.endLaunch grid l
        match l.parent with
        | some p => checkLaunchFrom n p s
        | none => s
      else s

/-- A launch that is over completes. -/
def State.checkLaunch (s : State) (grid : Nat) : State := checkLaunchFrom (s.launches.length + 1) grid s

end Sys2Proof.Machine
end

