-- ==== Sys2Proof/Machine/Pail.lean ====
section
/-! DEFINITION. The Pail (spec/08 R181-R190, spec/17 R331): shape records, batches, copies and their pieces; TCOPY, TCLOSE
and TWAIT. -/

namespace Sys2Proof.Machine

/-! ## The shape record (spec/08 R181, R182) -/

/-- A little-endian field of a record. -/
def fieldOf (r : List Byte) (off n : Nat) : Nat := leNat ((r.drop off).take n)

/-- A signed little-endian field of a record. -/
def signedField (r : List Byte) (off n : Nat) : Int := (BitVec.ofNat (8 * n) (fieldOf r off n)).toInt

/-- A bit of a record's byte. -/
def bitAt (r : List Byte) (off i : Nat) : Bool := (fieldOf r off 1).testBit i

/-- The fields of a shape record's 64 bytes. -/
def shapeOf (r : List Byte) : Shape :=
  let dkind := bitAt r 0x0E 3
  let dst := fieldOf r 0x10 8
  { src := BitVec.ofNat 64 (fieldOf r 0x00 8)
    srcSpace := BitVec.ofNat 16 (fieldOf r 0x08 2)
    dstSpace := BitVec.ofNat 16 (fieldOf r 0x0A 2)
    fmt := fieldOf r 0x0C 1 % 8
    dims := fieldOf r 0x0D 1 % 8
    stepDim := fieldOf r 0x0D 1 / 16 % 8
    red := fieldOf r 0x0E 1 % 4
    comp := bitAt r 0x0E 2
    dkind := dkind
    cb := fieldOf r 0x0E 1 / 16 % 8
    cbEn := bitAt r 0x0E 7
    clb := fieldOf r 0x0F 1 % 64
    clbEn := bitAt r 0x0F 7
    dst := BitVec.ofNat 64 dst
    dwFirst := dst % 1024
    lmap := dst / 4096 % 4
    sscale := signedField r 0x18 4
    dscale := signedField r 0x1C 4
    box := (List.range 5).map fun i => fieldOf r (0x20 + 2 * i) 2
    peer := fieldOf r 0x2A 1 % 64
    remote := bitAt r 0x2A 7
    repl := BitVec.ofNat 32 (fieldOf r 0x2C 4)
    stride := (List.range 4).map fun i => signedField r (0x30 + 4 * i) 4
    reserved := fieldOf r 0x0C 1 / 8 != 0 || bitAt r 0x0D 3 || bitAt r 0x0D 7 || bitAt r 0x0F 6 || bitAt r 0x2A 6
      || fieldOf r 0x2B 1 != 0 || (dkind && (dst / 1024 % 4 != 0 || dst / 16384 != 0)) }

/-- The extent of a dimension. -/
def Shape.boxAt (x : Shape) (i : Nat) : Nat := x.box.getD i 1
/-- The stride of a dimension in elements; 1 for dimension 0. -/
def Shape.strideAt (x : Shape) (i : Nat) : Int := if i = 0 then 1 else x.stride.getD (i - 1) 0
/-- Element size z. -/
def Shape.z (x : Shape) : Nat :=
  match x.fmt with
  | 0 => 1
  | 1 => 2
  | 2 => 4
  | 3 => 8
  | 4 => 4
  | 5 => 2
  | 6 => 4
  | _ => 1
/-- Size of a delivered element. -/
def Shape.zd (x : Shape) : Nat := if x.comp then 1 else x.z
/-- Elements of the box. -/
def Shape.count (x : Shape) : Nat := x.box.foldl (· * ·) 1
/-- Is it a reduce of D8 elements from memory? -/
def Shape.d8Red (x : Shape) : Bool := x.fmt = 7 && x.red != 0

/-- The rules of R182. -/
def Shape.legal (x : Shape) : Bool :=
  1 ≤ x.dims && x.dims ≤ 5 && x.stepDim < x.dims
    && (List.range 5).all (fun i => if i < x.dims then 1 ≤ x.boxAt i else x.boxAt i == 1)
    && (List.range 5).all (fun i => i < x.dims || i == 0 || x.strideAt i == 0)
    && !(x.red == 1 && x.fmt < 4) && !(2 ≤ x.red && x.fmt < 5)
    && (!x.comp || ((x.fmt == 5 || x.fmt == 6) && !x.dkind && x.boxAt 0 % 32 == 0))
    && (!x.d8Red || (!x.dkind && x.boxAt 0 % 32 == 0 && x.stride.all fun v => v % 32 == 0))
    && (x.sscale == 0 || x.d8Red) && (x.dscale == 0 || x.comp || x.d8Red)
    && !(x.remote && x.dkind)
    && (x.remote || x.dkind || (x.repl == 0#32 && x.peer == 0))
    && (!x.dkind || x.lmap ≤ 2)

/-! ## Where elements lie (spec/08 R183, R184) -/

/-- Coordinate `i` of the element at a linear place. -/
def Shape.coord (x : Shape) (lin i : Nat) : Nat :=
  lin / ((List.range i).foldl (fun n k => n * x.boxAt k) 1) % x.boxAt i

/-- The source offset in elements of a linear place. -/
def Shape.srcOffset (x : Shape) (lin : Nat) : Int :=
  (List.range 5).foldl (fun (n : Int) i => n + x.coord lin i * x.strideAt i) 0

/-- The base of a copy's source. -/
def Copy.base (c : Copy) : DWord :=
  c.shape.src + BitVec.ofInt 64 (c.shape.z * c.step * c.shape.strideAt c.shape.stepDim)

/-- The address of a source element. -/
def Copy.srcVa (c : Copy) (lin : Nat) : VAddr :=
  vaddr c.shape.srcSpace (c.base + BitVec.ofInt 64 (c.shape.z * c.shape.srcOffset lin))

/-- The address of the source block's scale. -/
def Copy.srcScaleVa (c : Copy) (lin : Nat) : VAddr :=
  let x := c.shape
  let rows := (List.range 4).foldl (fun (n : Int) i => n + x.coord lin (i + 1) * x.strideAt (i + 1)) 0
  vaddr x.srcSpace (c.base + BitVec.ofInt 64 (x.sscale + (x.coord lin 0 / 32 : Nat) + rows / 32))

/-- The address of a destination byte. -/
def Copy.dstVa (c : Copy) (byte : Nat) : VAddr := vaddr c.shape.dstSpace (c.shape.dst + BitVec.ofNat 64 byte)

/-- The address of the destination block's scale: blocks are dense, as the box is. -/
def Copy.dstScaleVa (c : Copy) (lin : Nat) : VAddr :=
  vaddr c.shape.dstSpace (c.shape.dst + BitVec.ofInt 64 (c.shape.dscale + (lin / 32 : Nat)))

/-- Where an element lands in a deep window of `g` groups: group, lane (none for every one), first entry, byte. -/
def Shape.landing (x : Shape) (g lin : Nat) : Option (Nat × Nat) × Nat × Nat :=
  match x.lmap with
  | 0 =>
    let row := lin / x.boxAt 0
    let w := (x.boxAt 0 * x.z + 3) / 4
    (some (row / 32 % g, row % 32), x.dwFirst + w * (row / (32 * g)), x.z * (lin % x.boxAt 0))
  | 1 => (none, x.dwFirst, x.z * lin)
  | _ =>
    let w := (x.z + 3) / 4
    (some (lin / 32 % g, lin % 32), x.dwFirst + w * (lin / (32 * g)), 0)

/-- One past the highest deep-window entry a copy reaches in a team of `g` groups. -/
def Shape.deepEnd (x : Shape) (g : Nat) : Nat :=
  match x.lmap with
  | 0 =>
    let w := (x.boxAt 0 * x.z + 3) / 4
    x.dwFirst + w * ((x.count / x.boxAt 0 - 1) / (32 * g)) + w
  | 1 => x.dwFirst + (x.z * x.count + 3) / 4
  | _ =>
    let w := (x.z + 3) / 4
    x.dwFirst + w * ((x.count - 1) / (32 * g)) + w

/-! ## Receivers (spec/08 R186) -/

/-- The team of a launch that counts as a core's, resident or swapped out. Where several teams of the launch are on
one core, the spec does not say which is its team; the model takes the oldest placed there that has not ended (log
82). -/
def State.teamOnCore (s : State) (grid core : Nat) : Option Nat :=
  ((s.teams.filter fun t => t.2.grid = grid && t.2.core = core && !t.2.ended).foldl
    (fun (m : Option (Nat × Team)) t => match m with
      | none => some t
      | some u => if t.2.age < u.2.age then some t else some u) none).map (·.1)

/-- The teams whose deep windows a copy lands in, as its acceptance finds them; none when a named core has no team. -/
def State.receivers (s : State) (c : Copy) : Option (List Nat) :=
  if c.shape.repl = 0#32 then some [c.team]
  else
    let named := (List.range 32).filter fun i => c.shape.repl.getLsbD i
    let ts := named.map fun i => s.teamOnCore c.grid (32 * (c.cluster / 8) + i)
    if ts.all (·.isSome) then some (ts.filterMap id) else none

/-- The packages a copy goes to. -/
def Shape.peers (x : Shape) : List Nat :=
  if x.repl = 0#32 then [x.peer] else ((List.range 32).filter fun i => x.repl.getLsbD i).map (x.peer + ·)

/-- Is a package no destination for a context (spec/08 R186, spec/17 R325)? -/
def State.badPeer (s : State) (ctx p : Nat) : Bool := 48 ≤ p || p == s.package || !s.pod.getLsbD p || (s.bindingOf ctx p).isNone

/-- The error a record brings at acceptance, 0 for none. Of several the spec says no order, and the model tests 0x01,
0x02, 0x09, 0x05 and 0x07 in this one (DESIGN CHOICE, log 101). -/
def State.copyError (s : State) (c : Copy) : Nat :=
  let x := c.shape
  if x.reserved then 0x01
  else if !x.legal then 0x02
  else if x.clbEn && !s.ownsClb c.ctx x.clb then 0x09
  else if x.remote then (if x.peers.any (s.badPeer c.ctx) then 0x05 else 0)
  else if x.dkind then match s.receivers c with
    | none => 0x07
    | some ts => if ts.any fun t => match s.team? t with
        | some u => u.deepSize < x.deepEnd u.ngrp
        | none => true
      then 0x07 else 0
  else 0

/-! ## Batches (spec/08 R188) -/

/-- The open batch closed. -/
def Group.closeBatch (g : Group) : Group :=
  match g.openBatch with
  | none => g
  | some b => { g with
      openBatch := none
      batches := g.batches ++ [{ b with number := g.nextBatch }]
      nextBatch := (g.nextBatch + 1) % 65536 }

/-- A copy put in the group's open batch: a full one is closed first, and one is opened when there is none. `left` counts
it until it ends; an error of its record ends it at once. -/
def Group.addCopy (g : Group) (error : Nat) : Group × Nat × Nat :=
  let g := match g.openBatch with
    | some b => if 64 ≤ b.copies then g.closeBatch else g
    | none => g
  let b : CopyBatch := g.openBatch.getD ⟨0, 0, 0, []⟩
  let b' : CopyBatch := { b with
    copies := b.copies + 1
    left := b.left + if error = 0 then 1 else 0
    errors := if error = 0 then b.errors else b.errors ++ [(b.copies, error)] }
  ({ g with openBatch := some b' }, g.nextBatch, b.copies)

/-- A copy of a batch ended, with an error or none. -/
def CopyBatch.ended (b : CopyBatch) (index error : Nat) : CopyBatch :=
  { b with
    left := b.left - 1
    errors := if error = 0 then b.errors else b.errors ++ [(index, error)] }

/-- The same in a group that has the batch open or closed. -/
def Group.copyEnded (g : Group) (batch index error : Nat) : Group :=
  { g with
    openBatch := if batch = g.nextBatch then g.openBatch.map fun b => b.ended index error else g.openBatch
    batches := g.batches.map fun b => if b.number = batch then b.ended index error else b }

/-- The first error of some batches: oldest batch, lowest copy index. -/
def firstError (bs : List CopyBatch) : Option (Nat × Nat × Nat) :=
  match bs with
  | [] => none
  | b :: t =>
    match b.errors.foldl (fun (m : Option (Nat × Nat)) e => match m with
      | none => some e
      | some f => if e.1 < f.1 then some e else some f) none with
    | some e => some (b.number, e.1, e.2)
    | none => firstError t

/-- A group of a team changed wherever it is: resident, or in its wait-swap save area. -/
def State.modParty (s : State) (party : Nat) (f : Group → Group) : State :=
  { s with
    groups := s.groups.map fun p =>
      (p.1, if p.2.engine = .partition && groupParty p.2 = party then f p.2 else p.2)
    teams := s.teams.map fun t => if t.1 = party / 64 then
      (t.1, { t.2 with saved := t.2.saved.map fun p => (p.1, if groupParty p.2 = party then f p.2 else p.2) }) else t }

/-- Is a group of a team resident or swapped out? -/
def State.hasParty (s : State) (party : Nat) : Bool :=
  s.groups.any (fun p => p.2.engine = .partition && groupParty p.2 = party)
    || match s.team? (party / 64) with
      | some t => t.saved.any fun p => groupParty p.2 = party
      | none => false

/-- Orphaned batches that have all completed are reported to their launch: 0x0200 plus the first error. -/
def State.settleOrphans (s : State) : State :=
  let ended := s.orphans.filter fun o => o.batches.all fun b => b.left = 0
  ended.foldl (fun (s : State) o =>
    let s := { s with orphans := s.orphans.filter fun x => x.party != o.party }
    let s := match firstError o.batches with
      | some (_, _, e) => s.launchError o.grid (BitVec.ofNat 16 (0x0200 + e))
      | none => s
    s.checkLaunch o.grid) s

/-- What a group leaves behind of its batches when it goes. -/
def State.leaveBatches (s : State) (g : Group) (grid : Nat) : State :=
  let bs := g.closeBatch.batches
  if bs.all fun b => b.left = 0 && b.errors.isEmpty then s
  else State.settleOrphans { s with orphans := s.orphans ++ [⟨groupParty g, grid, bs⟩] }

/-- A copy ends. -/
def State.endCopy (s : State) (id error : Nat) : State :=
  match mapGet? s.copies id with
  | none => s
  | some c =>
    let e := if c.error = 0 then error else c.error
    let s := { s with copies := mapDel s.copies id }
    let s := if s.hasParty c.group then s.modParty c.group fun g => g.copyEnded c.batch c.index e
      else { s with orphans := s.orphans.map fun o => if o.party = c.group then
          { o with batches := o.batches.map fun b => if b.number = c.batch then b.ended c.index e else b } else o }
    s.settleOrphans.checkLaunch c.grid

/-! ## TCOPY, TCLOSE, TWAIT (spec/08 R187, R188) -/

/-- TCOPY. -/
def tcopyAct (s : State) (c : Ctx) : Act :=
  bufferAct (.tcopy (BitVec.ofNat 32 (uWord s c 2))) 64 64 [] [0] s c

/-- A TCOPY of the group before this one is still to be accepted, or 16 batches are outstanding. -/
def State.tcopyWaits (s : State) (id : Nat) (o : Op) : Bool :=
  (s.ops.any fun p => p.2.group == o.group && p.1 < id && match p.2.kind with
    | .tcopy _ => true
    | _ => false)
  || (let g := s.group o.group
      16 ≤ (g.batches.filter fun b => b.left != 0).length + (match g.openBatch with
        | none => 0
        | some b => if 64 ≤ b.copies && b.left != 0 then 1 else 0) && (match g.openBatch with
        | none => true
        | some b => 64 ≤ b.copies))

/-- The Pail has read the record, checks it and adds the copy to the group's open batch. -/
def State.tcopyStep (s : State) (id : Nat) (o : Op) (step : Word) : State :=
  if s.opReadsPoison o then s.consumePoison o.group
  else if s.tcopyWaits id o then s.redue id
  else
    let (s, bytes) := s.readAccesses o o.acting
    let g := s.group o.group
    let x := shapeOf bytes
    let c : Copy :=
      { cluster := clusterOf o.group, core := coreOf o.group, group := groupParty g, team := g.team
        grid := s.gridOf o.group, ctx := g.ctx, batch := 0, index := 0, shape := x, step := step.toInt
        started := !x.clbEn, next := 0, total := x.zd * x.count, dest := 0, issueNs := s.ns, pc := o.pc
        lanes := o.lanes, error := 0, fault := none, teams := [], carry := [] }
    let c : Copy := { c with teams := (s.receivers c).getD [] }
    let e := s.copyError c
    let (g, batch, index) := g.addCopy e
    let s := s.setGroup o.group g
    let s := if e = 0 then { s with copies := mapSet s.copies id { c with batch := batch, index := index } } else s
    s.finishOp id []

/-- TCLOSE. -/
def tcloseAct (_ : State) (c : Ctx) : Act := .go { now := fun s _ => s.modGroup c.key Group.closeBatch }

/-- TWAIT. -/
def twaitAct (s : State) (c : Ctx) : Act :=
  let n := min 15 (uWord s c 0)
  .go {
    kind := some (.twait n)
    holds := true
    now := fun s _ => (s.modGroup c.key Group.closeBatch).beginWait c.key .twait }

/-- A precise trap of an operation that has held its group's issue: its lanes, exited ones too, are those of its path. -/
def State.lateTrap (s : State) (id : Nat) (o : Op) (cause : BitVec 8) (t : Word) : State :=
  let s := (s.modGroup o.group fun g => { g with exited := g.exited &&& ~~~o.lanes }).completeOp id
  (s.endWait o.group).takeTrap o.group o.pc o.lanes cause t

/-- Landings of a group's batches become visible to LDX in every deep window they are in (spec/03 R77; log 88). -/
def State.showBatches (s : State) (party : Nat) (batches : List Nat) : State :=
  s.teams.foldl (fun (s : State) (t : Nat × Team) => s.showLandedOf t.1 fun x => x.party == party && batches.contains x.batch) s

/-- A TWAIT tested: the batches that have completed retire, and an error among them is the copy-error trap. -/
def State.twaitStep (s : State) (id : Nat) (o : Op) (n : Nat) : State :=
  let g := s.group o.group
  if n < g.outstanding then s.redue id
  else
    let gone := g.batches.filter fun b => b.left = 0
    let s := s.setGroup o.group { g with batches := g.batches.filter fun b => b.left != 0 }
    let s := s.showBatches (groupParty g) (gone.map (·.number))
    match firstError gone with
    | some (b, i, e) => s.lateTrap id o 0x0E#8 (BitVec.ofNat 32 (e + 256 * i + 65536 * b))
    | none => ((s.modGroup o.group Group.nextEpoch).completeOp id).endWait o.group

/-! ## Pieces (spec/08 R189) -/

/-- Destination bytes of the next piece: up to the end of an aligned 128-byte unit of memory, or of what a lane's deep
window is given; of rows no more than one, so that no entry is landed in two parts (spec/06 R139). -/
def Copy.pieceLen (c : Copy) : Nat :=
  let x := c.shape
  let left := c.total - c.next
  if !x.dkind then min left (128 - (x.dst.toNat + c.next) % 128)
  else if x.lmap = 0 then
    let row := x.boxAt 0 * x.z
    min (row - c.next % row) (128 - c.next % row % 128)
  else min left (128 - c.next % 128)

/-- Linear places of the elements a piece has bytes of. -/
def Copy.pieceElems (c : Copy) : List Nat :=
  let zd := c.shape.zd
  let a := c.next / zd
  (List.range ((c.next + c.pieceLen + zd - 1) / zd - a)).map (a + ·)

/-- Elements that a piece reads: for a compression, whole blocks. -/
def Copy.readElems (c : Copy) : List Nat :=
  if !c.shape.comp then c.pieceElems
  else ((c.pieceElems.map (· / 32)).eraseDups).flatMap fun b => (List.range 32).map (32 * b + ·)

/-- Blocks whose last element a piece of a compression ends with: their scales are delivered with it. -/
def Copy.blocksDone (c : Copy) : List Nat :=
  if c.shape.comp && c.shape.red = 0 then (c.pieceElems.filter fun e => e % 32 = 31).map (· / 32) else []

/-- Bytes of a run of addresses. -/
def vaRun (va : VAddr) (n : Nat) : List VAddr := (List.range n).map fun i => va + BitVec.ofNat 80 i

/-- The addresses in this package that a piece uses, with what it needs of each. -/
def Copy.pieceVas (c : Copy) : List (VAddr × Need) :=
  let x := c.shape
  let src := c.readElems.flatMap fun e => vaRun (c.srcVa e) x.z
  let scales := if x.d8Red then c.pieceElems.map c.srcScaleVa else []
  let here := !x.dkind && !x.remote
  let last := (c.next + c.pieceLen + x.zd - 1) / x.zd * x.zd
  let dst := if here then vaRun (c.dstVa c.next) (if x.red = 0 then c.pieceLen else last - c.next) else []
  let dscales := if here && (x.comp || x.d8Red) && x.red != 0 then c.pieceElems.map c.dstScaleVa else []
  let newScales := if here then c.blocksDone.map fun b => c.dstScaleVa (32 * b) else []
  ((src ++ scales ++ dscales).map fun v => (v, Need.read)) ++
    ((dst.map fun v => (v, if x.red = 0 then Need.write else Need.both)) ++ newScales.map fun v => (v, Need.write))

/-- The die of a copy. -/
def Copy.die (c : Copy) : Nat := c.cluster / 8

/-- The physical address of a byte that the translation unit holds. -/
def State.copyPa (s : State) (c : Copy) (va : VAddr) (need : Need) : Option Nat :=
  match s.tluHit c.die c.ctx va with
  | none => none
  | some _ => match s.translate c.die c.ctx va need with
    | .ok pa _ _ _ => some pa
    | .hold | .fault _ _ => none

/-- Is a copy's next piece translated? -/
def State.pieceMapped (s : State) (c : Copy) : Bool := c.pieceVas.all fun v => (s.copyPa c v.1 v.2).isSome

/-- The lines of a piece at which it waits its turn (spec/11 R262): an EF delivery does not, being seen by its own die at
once. -/
def State.pieceLines (s : State) (id : Nat) (c : Copy) : List Nat :=
  ((c.pieceVas.filterMap fun v => if v.2 == .write then none else (s.copyPa c v.1 v.2).map lineOf).eraseDups).filter
    fun l => !s.lineTurn c.die l id

/-- May a mapped piece go: nothing of it frozen, its homes reached, and its turn come at every line? -/
def State.pieceReady (s : State) (id : Nat) (c : Copy) : Bool :=
  (c.pieceVas.all fun v => match s.copyPa c v.1 v.2 with
    | some pa => !s.pageFrozen pa && s.homeReached c.die pa
    | none => false) && (s.pieceLines id c).isEmpty

/-- A byte a copy reads, past L1. -/
def State.copyByte (s : State) (c : Copy) (va : VAddr) : Byte :=
  match s.copyPa c va .read with
  | some pa => (s.pathRead c.die pa 1).headD 0#8
  | none => 0#8

/-- A source element's bits. -/
def State.srcElem (s : State) (c : Copy) (lin : Nat) : Nat :=
  leNat ((vaRun (c.srcVa lin) c.shape.z).map (s.copyByte c))

/-- Does a piece read poison at its source? -/
def State.pieceReadsPoison (s : State) (c : Copy) : Bool :=
  (c.pieceVas.filter fun v => v.2 == .read).any fun v => match s.copyPa c v.1 .read with
    | some pa => s.readsPoison pa
    | none => false

/-- The scale and codes of a block of a compression (spec/04 R93). -/
def State.blockCodes (s : State) (c : Copy) (b : Nat) : Int × List Byte :=
  let t : FloatFmt := if c.shape.fmt = 5 then .bf16 else .f32
  let xs := (List.range 32).map fun i => t.decode (s.srcElem c (32 * b + i))
  let k := chooseScale xs
  (k, xs.map (encodeD8Scaled k))

/-- A delivered element's bits, and for D8 its block's scale as a byte. -/
def State.delivered (s : State) (c : Copy) (lin : Nat) : Nat × Nat :=
  if c.shape.comp then
    let (k, codes) := s.blockCodes c (lin / 32)
    ((codes.getD (lin % 32) 0#8).toNat, (BitVec.ofInt 8 k).toNat)
  else (s.srcElem c lin, if c.shape.d8Red then (s.copyByte c (c.srcScaleVa lin)).toNat else 0)

/-- The type of a copy's reduction, as an entry of the home's queue has it. -/
def Shape.redTy (x : Shape) : Nat :=
  if x.comp || x.fmt = 7 then 7 else if x.fmt = 4 then 1 else if x.fmt = 5 then 6 else 4

/-- The operation of a copy's reduction. -/
def Shape.redOp (x : Shape) : AtomOp := if x.red = 1 then .add else if x.red = 2 then .min else .max

/-- The operand a reduced element is: with both blocks' scales for D8. -/
def redOperand (x : Shape) (v : Nat × Nat) (kd : Byte) : BitVec 64 :=
  if x.redTy = 7 then BitVec.ofNat 64 (v.1 + 256 * v.2 + 65536 * kd.toNat) else BitVec.ofNat 64 v.1

/-- One element combined with another at once. -/
def redOnce (x : Shape) (old : Nat) (operand : BitVec 64) : Nat :=
  (redResult ⟨0, x.redOp, x.redTy, [operand], .ef, 0, 256, 0⟩ (BitVec.ofNat 128 old)).toNat % 2 ^ (8 * redBytes x.redTy)

/-- The bytes of a piece that is no reduce, from its first destination byte on. -/
def State.pieceBytes (s : State) (c : Copy) : List Byte :=
  let zd := c.shape.zd
  let all := c.pieceElems.flatMap fun e => leBytes zd (s.delivered c e).1
  (all.drop (c.next % zd)).take c.pieceLen

/-- A run of bytes stored: a piece lies within one aligned unit, so in one line, and one that fills the line clears its
poison (spec/07 R157). -/
def State.storePiece (s : State) (c : Copy) (id : Nat) (bytes : List Byte) : State :=
  match s.copyPa c (c.dstVa c.next) .write with
  | some pa => (if bytes.length = 128 then s.unpoison (lineOf pa) else s).pathPark c.die id pa bytes
  | none => s

/-- The addresses that a piece writes: its bytes, and the scales of blocks it ends. -/
def Copy.written (c : Copy) : List VAddr :=
  vaRun (c.dstVa c.next) c.pieceLen ++ c.blocksDone.map fun b => c.dstScaleVa (32 * b)

/-- The lines of a memory destination poisoned with what a piece delivers (spec/21 R366). -/
def State.poisonDst (s : State) (c : Copy) : State :=
  c.written.foldl (fun (s : State) va => match s.copyPa c va .write with
    | some pa => s.poison (lineOf pa)
    | none => s) s

/-- The operand of a reduced element. -/
def State.reduceOperand (s : State) (c : Copy) (e : Nat) (kd : Byte) : BitVec 64 := redOperand c.shape (s.delivered c e) kd

/-- Elements of a reduce that begin in a piece: those that lie whole in it, and one that goes on in the next, with how
many of its bytes lie in this one (log 89). -/
def Copy.wholeElems (c : Copy) : List Nat :=
  c.pieceElems.filter fun e => c.next ≤ c.shape.zd * e && c.shape.zd * (e + 1) ≤ c.next + c.pieceLen

/-- The element of a reduce that begins in a piece and ends in the next one, with the bytes of it in this one. -/
def Copy.splitElem (c : Copy) : Option (Nat × Nat) :=
  (c.pieceElems.find? fun e => c.next ≤ c.shape.zd * e && c.next + c.pieceLen < c.shape.zd * (e + 1)).map fun e =>
    (e, c.next + c.pieceLen - c.shape.zd * e)

/-- An element of a reduce whose bytes lie in two units, combined as its first piece is delivered; that stores the bytes
that lie in it, and the next piece stores the others (log 89). -/
def Copy.splitBytes (c : Copy) (old : List Byte) (operand : BitVec 64) : List Byte :=
  leBytes c.shape.zd (redOnce c.shape (leNat old) operand)

/-- The bytes of such an element in memory of this package. -/
def State.splitHere (s : State) (c : Copy) : List Byte :=
  match c.splitElem with
  | none => []
  | some (e, _) =>
    let vas := vaRun (c.dstVa (c.shape.zd * e)) c.shape.zd
    let s := vas.foldl (fun (s : State) v => match s.copyPa c v .both with
      | some pa => s.drainRedsAt pa 1
      | none => s) s
    c.splitBytes (vas.map (s.copyByte c)) (s.reduceOperand c e 0#8)

/-- Bytes that a reduce stores at once: those that the piece before left it, and those of an element that it splits. -/
def State.storeReduced (s : State) (c : Copy) (id : Nat) (at_ : Nat) (bytes : List Byte) : State :=
  match bytes, s.copyPa c (c.dstVa at_) .both with
  | [], _ | _, none => s
  | _ :: _, some pa => (s.drainRedsAt pa bytes.length).homeStore .ef c.die 256 id pa bytes

/-- What a piece of a reduce leaves for the next one to store. -/
def State.carryOf (s : State) (c : Copy) : List Byte :=
  match c.splitElem with
  | none => []
  | some (_, n) => (s.splitHere c).drop n

/-- A piece delivered into memory of this package. -/
def State.deliverMem (s : State) (c : Copy) (id : Nat) : State :=
  if c.shape.red = 0 then
    let scales := c.blocksDone.map fun b => (c.dstScaleVa (32 * b), BitVec.ofInt 8 (s.blockCodes c b).1)
    let s' := s.storePiece c id (s.pieceBytes c)
    scales.foldl (fun (t : State) k => match s.copyPa c k.1 .write with
      | some pa => t.pathPark c.die id pa [k.2]
      | none => t) s'
  else
    let work := c.wholeElems.map fun e =>
      (e, s.reduceOperand c e (if c.shape.redTy = 7 then s.copyByte c (c.dstScaleVa e) else 0#8))
    let s := work.foldl (fun (s : State) w => match s.copyPa c (c.dstVa (c.shape.zd * w.1)) .both with
      | some pa => if s.poisonAt pa then s.countUE (homeBase pa)
          else s.mergeRed c.shape.redOp c.shape.redTy .ef c.die 256 pa w.2
      | none => s) (s.storeReduced c id c.next c.carry)
    match c.splitElem with
    | some (e, n) => s.storeReduced c id (c.shape.zd * e) ((s.splitHere c).take n)
    | none => s

/-- What a piece takes to its peer: GA stores, or reductions; an element of a reduce goes whole with the piece that holds
its first byte (log 89). `seq` is its flit's number. -/
def State.pieceOut (s : State) (c : Copy) (seq : Word) (poison : Bool) : SentPiece :=
  let peer := c.shape.peers.getD c.dest 0
  let ctx := (s.bindingOf c.ctx peer).getD 0
  let lines (vas : List VAddr) : List Nat := (vas.map fun va => peerPlace peer ctx va 0 / 128).eraseDups
  let stores := if c.shape.red != 0 then [] else
    (c.dstVa c.next, s.pieceBytes c)
      :: c.blocksDone.map fun b => (c.dstScaleVa (32 * b), [BitVec.ofInt 8 (s.blockCodes c b).1])
  let begun := c.pieceElems.filter fun e => c.next ≤ c.shape.zd * e
  let reds := if c.shape.red = 0 then [] else begun.map fun e =>
    (c.dstVa (c.shape.zd * e), (s.delivered c e).1, (s.delivered c e).2, c.dstScaleVa e)
  { peer := peer, ctx := ctx, seq := seq, ns := s.ns, count := c.pieceLen + c.blocksDone.length, stores := stores, reds := reds
    cleared := if c.shape.red = 0 && c.pieceLen = 128 then lines [c.dstVa c.next] else []
    poisoned := if poison then lines c.written else [] }

/-- A piece applied at its peer; a reduce leaves a poisoned line as it is. -/
def State.applyPiece (s : State) (x : Shape) (p : SentPiece) : State :=
  let s := p.stores.foldl (fun (s : State) w => s.peerStore p.peer p.ctx w.1 w.2) s
  let s := p.reds.foldl (fun (s : State) w =>
    if s.peerPoisonAt p.peer p.ctx w.1 then s
    else
      let kd := if x.redTy = 7 then (s.peerBytes p.peer p.ctx w.2.2.2 1).headD 0#8 else 0#8
      s.peerStore p.peer p.ctx w.1 (leBytes x.zd
        (redOnce x (leNat (s.peerBytes p.peer p.ctx w.1 x.zd)) (redOperand x (w.2.1, w.2.2.1) kd)))) s
  let kept := s.peerPoison.filter fun l => !p.cleared.contains l
  { s with peerPoison := kept ++ p.poisoned.filter fun l => !kept.contains l }

/-- Bytes of an element in the bank of a deep window. -/
def Group.bankBytes (g : Group) (entry lane byte n : Nat) : Nat :=
  leNat ((List.range n).map fun i =>
    (g.bankWord (entry + (byte + i) / 4) lane).extractLsb' (8 * ((byte + i) % 4)) 8)

/-- The word at place `i` of a run of entries once bytes are put from byte `byte` of the run on. -/
def wordWith (old : Word) (i byte : Nat) (bs : List Byte) : Word :=
  BitVec.ofNat 32 (leNat ((List.range 4).map fun k =>
    if byte ≤ 4 * i + k && 4 * i + k < byte + bs.length then bs.getD (4 * i + k - byte) 0#8 else old.extractLsb' (8 * k) 8))

/-- An element landed in one lane of a group: a narrow element of LMAP 2 clears the rest of its entry, but for a reduce.
Each entry it has bytes of changes at once (spec/06 R139), and shows it to LDX when the copy has been waited for. -/
def Group.landElem (g : Group) (c : Copy) (entry lane byte v : Nat) (poison : Bool) : Group :=
  let x := c.shape
  let v := if x.red = 0 then v else redOnce x (g.bankBytes entry lane byte x.z) (BitVec.ofNat 64 v)
  let bs := leBytes (if x.lmap = 2 && x.red = 0 then (x.z + 3) / 4 * 4 else x.z) v
  ((List.range ((byte + bs.length + 3) / 4)).drop (byte / 4)).foldl (fun (g : Group) i =>
    g.addLanding ⟨entry + i, lane, wordWith (g.bankWord (entry + i) lane) i byte bs,
      poison || ((bs.length < 4 || x.red != 0) && g.bankPoison (entry + i) lane), c.core, c.group, c.batch,
      if x.cbEn then some x.cb else none⟩) g

/-- An element landed in a team's deep window. -/
def State.landIn (s : State) (c : Copy) (t lin v : Nat) (poison : Bool) : State :=
  match s.team? t with
  | none => s
  | some u =>
    match c.shape.landing u.ngrp lin with
    | (some (grp, lane), e, byte) => s.modParty (t * 64 + grp) fun g => g.landElem c e lane byte v poison
    | (none, e, byte) => (List.range u.ngrp).foldl (fun (s : State) grp =>
        s.modParty (t * 64 + grp) fun g =>
          (List.range 32).foldl (fun (g : Group) lane => g.landElem c e lane byte v poison) g) s

/-- A piece delivered into deep windows, one element at a time, and counted in each receiving team's barrier; a team that
has ended receives nothing more, and the others go on (log 82). -/
def State.deliverDeep (s : State) (c : Copy) (poison : Bool) : State :=
  let work := c.pieceElems.map fun e => (e, (s.delivered c e).1)
  let s := work.foldl (fun (s : State) w => c.teams.foldl (fun (s : State) t => s.landIn c t w.1 w.2 poison) s) s
  if c.shape.cbEn then c.teams.foldl (fun (s : State) t => s.cbArrive t c.shape.cb c.pieceLen) s else s

/-- A copy after a piece: on with the next piece, the next package, or ended; one to peers ends when they have
acknowledged every piece. -/
def State.afterPiece (s : State) (id : Nat) (c : Copy) (carry : List Byte) : State :=
  let next := c.next + c.pieceLen
  let c := { c with carry := carry, issueNs := s.ns }
  if next < c.total || (c.shape.remote && c.dest + 1 = c.shape.peers.length) then
    { s with copies := mapSet s.copies id { c with next := next } }
  else if c.shape.remote then { s with copies := mapSet s.copies id { c with next := 0, dest := c.dest + 1 } }
  else s.endCopy id 0

/-- Entries of the home's queue pending on what a piece reads drain first. -/
def State.drainPiece (s : State) (c : Copy) : State :=
  (c.pieceVas.filter fun v => v.2 == .read).foldl (fun (s : State) v => match s.copyPa c v.1 .read with
    | some pa => s.drainRedsAt pa 1
    | none => s) s

/-- Has a team that a copy lands in ended, a named one (spec/08 R186)? -/
def State.lostTeam (s : State) (c : Copy) : Bool :=
  c.shape.dkind && c.shape.repl != 0#32 && c.teams.any fun t => match s.team? t with
    | some x => x.ended
    | none => true

/-- A piece of a copy into memory counted in its team's barrier: it is the copy's no more. -/
def State.countPiece (s : State) (id : Nat) (c : Copy) (carry : List Byte) : State :=
  let s := if c.shape.cbEn then s.cbArrive c.team c.shape.cb (c.pieceLen + c.blocksDone.length) else s
  s.afterPiece id c carry

/-- Pieces of a copy that its peer has taken: each is applied there, counted in the issuing team's barrier, and the
copy ends with the last of them (spec/08 R188, R189). -/
def State.takePieces (s : State) (id : Nat) (test : SentPiece → Bool) : State :=
  match mapGet? s.copies id with
  | none => s
  | some c =>
    let s := { s with copies := mapSet s.copies id { c with out := c.out.filter fun p => !test p } }
    let s := (c.out.filter test).foldl (fun (s : State) p =>
      let s := s.applyPiece c.shape p
      if c.shape.cbEn then s.cbArrive c.team c.shape.cb p.count else s) s
    match mapGet? s.copies id with
    | some c => if c.shape.remote && c.total ≤ c.next && c.out.isEmpty then s.endCopy id 0 else s
    | none => s

/-- Pieces of every copy that a peer has taken. -/
def State.piecesTaken (s : State) (test : SentPiece → Bool) : State :=
  ((s.copies.filter fun c => c.2.out.any test).map (·.1)).foldl (fun (s : State) i => s.takePieces i test) s

/-- A copy's next piece delivered and counted (spec/08 R189); what of it waits at a held line is counted when it is
served. -/
def State.deliverPiece (s : State) (id : Nat) (c : Copy) : State :=
  let s := s.drainPiece c
  let poison := s.pieceReadsPoison c
  let c := if poison && c.error = 0 then { c with error := 8 } else if s.lostTeam c && c.error = 0 then { c with error := 7 } else c
  let s := { s with copies := mapSet s.copies id c }
  if c.shape.dkind then (s.deliverDeep c poison).afterPiece id c []
  else if c.shape.remote then
    let peer := c.shape.peers.getD c.dest 0
    (s.sendFlit peer).afterPiece id { c with out := c.out ++ [s.pieceOut c (s.peerLink peer).nextSend poison] } []
  else
    let carry := s.carryOf c
    let s := if poison then (s.deliverMem c id).poisonDst c else s.deliverMem c id
    if s.storeWaits id then s else s.countPiece id c carry

/-- Is a peer reachable: does its stripe hold a live port (spec/17 R323)? -/
def State.reachable (s : State) (peer : Nat) : Bool := !(s.stripeTo peer).isEmpty

/-- Has a piece of a copy gone 10 ms without an acknowledgement, its peer having no live port (spec/17 R323)? -/
def State.copyLost (s : State) (c : Copy) : Bool :=
  let late (t peer : Nat) : Bool := t + 10000000 ≤ s.ns && !s.reachable peer
  c.shape.remote && c.started
    && ((c.out.any fun p => late p.ns p.peer) || (c.next < c.total && late c.issueNs (c.shape.peers.getD c.dest 0)))

/-- May a copy deliver its next piece: it has one, it is not suspended, past its circuit test, its peer reachable? -/
def State.copyRuns (s : State) (c : Copy) : Bool :=
  c.fault.isNone && c.started && c.next < c.total && (!c.shape.remote || s.reachable (c.shape.peers.getD c.dest 0))

/-- What a copy's record of a fault says (spec/08 R215). A copy is a group slot's no more, and the spec does not say what
stands in the group-slot byte and the atomic bit: the model writes 0 in both, for a reduce too (log 85). -/
def Copy.faultAt (c : Copy) (va : VAddr) (need : Need) (cause : BitVec 8) : FaultAt :=
  ⟨va, cause, need == .write || need == .both, false, false, .p, 0, c.pc, 0xFFFF, 0, c.lanes⟩

/-- A copy suspended by a translation or permission fault (spec/08 R190); a physical-address fault ends it. -/
def State.suspendCopy (s : State) (id : Nat) (c : Copy) (va : VAddr) (need : Need) (cause : BitVec 8) : State :=
  if cause = 0x22#8 then s.endCopy id 0x04
  else match s.record c.ctx false ((c.faultAt va need cause).bytes s.timer) with
    | none => s.endCopy id 0x03
    | some (s, i) => { s with copies := mapSet s.copies id { c with fault := some (cause, i) } }.launchEvent 0x04 c.grid

/-- The addresses of a copy's next piece walked. -/
def walkPiece (id : Nat) (c : Copy) : List (VAddr × Need) → State → State
  | [], s => s
  | v :: t, s =>
    match s.translate c.die c.ctx v.1 v.2 with
    | .ok pa k r big => walkPiece id c t (s.tluFill c.die c.ctx v.1 pa k r big)
    | .hold => s
    | .fault x _ => s.suspendCopy id c v.1 v.2 x

/-- COPY_PIECE_DELIVER (spec/08 R189). -/
def State.copyPiece (s : State) (id : Nat) : State :=
  match mapGet? s.copies id with
  | none => s
  | some c =>
    if c.shape.clbEn && s.clbState c.shape.clb = 2 then s.endCopy id 0x06
    else if !s.copyRuns c then s
    else if s.storeWaits id then (if s.parkServed c.die id then (s.unpark id).countPiece id c [] else s)
    else if !s.pieceMapped c then s.soon (.pageWalk (.copy id))
    else if s.pieceReady id c then s.deliverPiece id c
    else (s.pieceLines id c).foldl (fun (s : State) l => s.joinLine l id) s

/-- CLB_COPY_TEST (spec/17 R331). -/
def State.clbTest (s : State) (id : Nat) : State :=
  match mapGet? s.copies id with
  | none => s
  | some c =>
    if c.started then s
    else match s.clbState c.shape.clb with
      | 1 => { s with copies := mapSet s.copies id { c with started := true, issueNs := s.ns } }
      | 2 => s.endCopy id 0x06
      | _ => s

/-! ## The instructions -/

/-- TCOPY (spec/08 R187). -/
def execTcopy (f : Fields) (s : State) : Host.Outcome State Fault Refusal := issueWord (.tcopy f) tcopyAct s
/-- TCLOSE (spec/08 R188). -/
def execTclose (f : Fields) (s : State) : Host.Outcome State Fault Refusal := issueWord (.tclose f) tcloseAct s
/-- TWAIT (spec/08 R188). -/
def execTwait (f : Fields) (s : State) : Host.Outcome State Fault Refusal := issueWord (.twait f) twaitAct s
/-- COPY_PIECE_DELIVER (spec/08 R189). -/
def execCopyPieceDeliver (copy : Nat) (s : State) : Host.Outcome State Fault Refusal := .next (s.copyPiece copy)
/-- CLB_COPY_TEST (spec/17 R331). -/
def execClbCopyTest (copy : Nat) (s : State) : Host.Outcome State Fault Refusal := .next (s.clbTest copy)

end Sys2Proof.Machine
end

