-- ==== Sys2Proof/Machine/Rennet.lean ====
section
/-! DEFINITION. Leases by instruction (spec/08 R200), the Rennet (spec/09 R231, spec/14 R279, R280) and work creation:
EMIT and ENQ (spec/08 R201, R202). -/

namespace Sys2Proof.Machine

/-! ## LEASE, LEASEM, LREL (spec/08 R200) -/

/-- LEASE. -/
def leaseAct (s : State) (c : Ctx) : Act :=
  let a := uWord s c 0
  if 4096 < a then rangeTrap 2 else .go { kind := some (.lease a) }

/-- LREL. -/
def lrelAct (_ : State) (_ : Ctx) : Act := .go { kind := some .lrel }

/-- LEASEM. -/
def leasemAct (_ : State) (c : Ctx) : Act := .go (laterResult c 0 .leasem)

/-- A declared lease recorded by the activation controller (spec/10 R238: the core's sum is tested again). -/
def State.leaseStep (s : State) (id : Nat) (o : Op) (v : Nat) : State :=
  ((s.modGroup o.group fun g => { g with lease := { g.lease with mode := .declared, declared := v } }).completeOp
    id).checkOverrun (coreOf o.group)

/-- Measured mode recorded, D written with the measured count. -/
def State.leasemStep (s : State) (id : Nat) (o : Op) : State :=
  let n := (s.group o.group).lease.measured
  ((s.modGroup o.group fun g => { g with lease := { g.lease with mode := .measured } }).finishOp id
    [(0, BitVec.ofNat 128 n)]).checkOverrun (coreOf o.group)

/-! ## The Rennet (spec/09 R231, spec/14 R279, R280) -/

/-- A launch's record of a node. -/
def Launch.nodeRec (l : Launch) (node : Nat) : Option NodeRec := l.nodes.find? fun n => n.node = node

/-- The record of a node that a launch declares. -/
def State.nodeRec (s : State) (grid node : Nat) : Option NodeRec :=
  match s.launch? grid with
  | some l => l.nodeRec node
  | none => none

/-- A launch's work moves on: a record accepted, or a team placed. -/
def State.launchMoves (s : State) (grid : Nat) : State :=
  match s.launch? grid with
  | some l => s.setLaunch grid { l with moveNs := s.ns }
  | none => s

/-- A die's Rennet launches a team with the first `n` records of a node: the team counts before its records do
(spec/09 R232). A halted die's Rennet launches none (spec/18 R355). -/
def State.rennetLaunch (s : State) (d grid node n : Nat) : State :=
  if s.dieHalted d then s else
  let x := s.die d
  match x.queues.find? fun q => q.grid = grid && q.node = node with
  | none => s
  | some q =>
    let t : RennetTeam := ⟨grid, node, q.launched, q.records.take n⟩
    let q' : NodeQueue := { q with records := q.records.drop n, launched := q.launched + 1 }
    let s := s.setDie d { x with
      queues := x.queues.map fun y => if y.grid = grid && y.node = node then q' else y
      toPlace := x.toPlace ++ [t] }
    ((s.count grid 1).count grid (-(t.records.length : Int))).launchEvent 0x05 grid

/-- Records a node may still hold before its batch is full. -/
def State.batchOf (s : State) (grid node : Nat) : Nat :=
  match s.nodeRec grid node with
  | some n => n.batch
  | none => 1

/-- The node of a die that holds the most records; of equal ones the first to have held any (log 27). -/
def fullestNode : List NodeQueue → Option NodeQueue
  | [] => none
  | q :: t =>
    match fullestNode t with
    | none => if q.records.isEmpty then none else some q
    | some r => if r.records.length ≤ q.records.length then some q else some r

/-- The node whose partial batch a die's Rennet launches at once: of a store more than seven-eighths full the fullest. -/
def State.reliefNode (s : State) (d : Nat) : Option NodeQueue :=
  if 458752 < (s.die d).storeBytes then fullestNode (s.die d).queues else none

/-- A store more than seven-eighths full launches the partial batch of its fullest node. -/
def State.rennetRelief (s : State) (d : Nat) : State := match s.reliefNode d with
  | some q => s.rennetLaunch d q.grid q.node q.records.length
  | none => s

/-- A record accepted by a die's Rennet; a full batch becomes a team. -/
def State.acceptRecord (s : State) (d grid node : Nat) (bytes : List Byte) : State :=
  let x := s.die d
  let held := x.queues.any fun q => q.grid = grid && q.node = node
  let qs : List NodeQueue := if held then x.queues else x.queues ++ [⟨grid, node, [], s.ns, 0⟩]
  let s := s.setDie d { x with queues := qs.map fun q =>
    if q.grid = grid && q.node = node then { q with records := q.records ++ [bytes], lastNs := s.ns } else q }
  let s := (s.count grid 1).launchMoves grid
  let n := match (s.die d).queues.find? fun q => q.grid = grid && q.node = node with
    | some q => q.records.length
    | none => 0
  let s := if s.batchOf grid node ≤ n then s.rennetLaunch d grid node (s.batchOf grid node) else s
  s.rennetRelief d

/-- Does a record of some bytes fit a die's store? -/
def Die.fits (x : Die) (n : Nat) : Bool := x.storeBytes + n ≤ 524288

/-- An EMIT none of whose records is held any longer completes. -/
def State.emitDone (s : State) (d op : Nat) : State :=
  if (s.die d).heldRecs.any fun h => h.op = op then s else s.finishOp op []

/-- RENNET_RECORD_ACCEPT: the oldest held record enters the store once it fits. -/
def State.rennetAccept (s : State) (d : Nat) : State :=
  let x := s.die d
  match x.heldRecs with
  | [] => s
  | h :: t =>
    if !x.fits h.bytes.length then s
    else ((s.setDie d { x with heldRecs := t }).acceptRecord d h.grid h.node h.bytes).emitDone d h.op

/-- Held records accepted as far as the store has room. -/
def acceptHeld : Nat → Nat → State → State
  | 0, _, s => s
  | n + 1, d, s =>
    match (s.die d).heldRecs with
    | h :: _ => if (s.die d).fits h.bytes.length then acceptHeld n d (s.rennetAccept d) else s
    | [] => s

/-- RENNET_BATCH_TIMEOUT: a partial batch becomes a team 10 µs after the node's last record, or at once while the store is
more than seven-eighths full and the node holds the most records. -/
def State.rennetTimeout (s : State) (d grid node : Nat) : State :=
  match (s.die d).queues.find? fun q => q.grid = grid && q.node = node with
  | none => s
  | some q =>
    if q.records.isEmpty || (s.ns < q.lastNs + 10000 && !(s.reliefNode d).any (· == q)) then s
    else s.rennetLaunch d grid node (min q.records.length (s.batchOf grid node))

/-- The pending records of a launch discarded, held and accepted ones and those of teams still to be placed; they
leave its counter. -/
def State.discardRecords (s : State) (grid : Nat) : State :=
  let gone : Nat := s.dies.foldl (fun n d =>
    n + (d.2.queues.filter fun q => q.grid = grid).foldl (fun m q => m + q.records.length) 0
      + (d.2.toPlace.filter fun t => t.grid = grid).length) 0
  let s : State := { s with dies := s.dies.map fun (d : Nat × Die) => (d.1, { d.2 with
    queues := d.2.queues.filter fun q => q.grid != grid
    toPlace := d.2.toPlace.filter fun t => t.grid != grid
    heldRecs := d.2.heldRecs.filter fun h => h.grid != grid }) }
  if gone = 0 then s else s.count grid (-(gone : Int))

/-- Every team of a launch that lives stops, and ends with a code; none of its own where the launch has ended with one. -/
def State.haltTeams (s : State) (grid : Nat) (code : BitVec 16) : State :=
  ((s.teams.filter fun (t : Nat × Team) => t.2.grid = grid && !t.2.ended).map (·.1)).foldl
    (fun (s : State) t => s.haltTeam t code) s

/-! ## EMIT (spec/08 R201) -/

/-- The node a lane's EMIT names. -/
def emitNode (s : State) (c : Ctx) (lane : Nat) : Nat := natArg 32 (srcVal s c 2 lane)

/-- The accesses of an EMIT: each lane's record. -/
def emitAccesses (s : State) (c : Ctx) : List Access :=
  (lanesOf c.active).flatMap fun l => match s.nodeRec (s.gridOf c.key) (emitNode s c l) with
    | some n => bufferAccesses l (accessVa s c l) n.recSize
    | none => []

/-- EMIT. -/
def emitAct (s : State) (c : Ctx) : Act :=
  let lanes := lanesOf c.active
  if lanes.any fun l => 65536 ≤ emitNode s c l || (s.nodeRec (s.gridOf c.key) (emitNode s c l)).isNone then rangeTrap 4
  else match lanes.find? fun l => (accessVa s c l).toNat % 4 != 0 with
  | some l => .trap 0x06#8 (BitVec.ofNat 32 l)
  | none =>
    let acc := emitAccesses s c
    .go {
      kind := some (.emit (Vector.ofFn fun i : Fin 32 => BitVec.ofNat 32 (emitNode s c i)))
      acc := acc
      now := fun s id => (s.sampleAccesses c.key acc).walkOp false id }

/-- The record that a lane of an EMIT has read. -/
def Op.laneBytes (o : Op) (lane : Nat) : List Byte :=
  (o.acting.filter fun a => a.lane = lane).flatMap fun a => leBytes a.size a.val.toNat

/-- A record put among those a die holds: in the order the EMITs issued (spec/14 R280), and the lanes of one as they
come. -/
def holdRecord (r : HeldRecord) (rs : List HeldRecord) : List HeldRecord :=
  (rs.takeWhile fun x => x.op ≤ r.op) ++ r :: rs.dropWhile fun x => x.op ≤ r.op

/-- The records of an EMIT handed to the Rennet of its die, in rising lane order. -/
def State.emitRecords (s : State) (id : Nat) (o : Op) (nodes : Lanes Word) : State :=
  let d := dieOf o.group
  (lanesOf o.active).foldl (fun (s : State) l =>
    let x := s.die d
    s.setDie d { x with heldRecs := holdRecord ⟨id, s.gridOf o.group, (laneOf nodes l).toNat, o.laneBytes l⟩ x.heldRecs }) s

/-- Accesses of an operation read, each by itself (spec/11 R255): the state, and the operation with what they read. -/
def State.readParts (s : State) (id : Nat) (o : Op) (now : List Access) : State :=
  now.foldl (fun (s : State) a =>
    let (s, v) := (s.drainRedsAt a.paNat a.size).loadLane o 0 a
    match mapGet? s.ops id with
    | some o => s.setOp id { o with acc := o.acc.map fun b =>
        if b.lane = a.lane && b.va = a.va then { b with bound := true, val := v } else b }
    | none => s) s

/-- An EMIT's records read, lane by lane; when all are, they are accepted in order as far as the store has room, and it
completes when all have been. -/
def State.emitStep (s : State) (id : Nat) (o : Op) (nodes : Lanes Word) : State :=
  if o.left then s.emitDone (dieOf o.group) id
  else
    let now := s.pickOf o o.toDo false
    if s.opReadsPoison { o with acc := now } then s.consumePoison o.group
    else
      let s := s.readParts id o now
      match mapGet? s.ops id with
      | none => s
      | some o =>
        if !o.toDo.isEmpty then s.redue id
        else
          let s := (s.setOp id { o with left := true }).emitRecords id o nodes
          acceptHeld (s.die (dieOf o.group)).heldRecs.length (dieOf o.group) s

/-! ## ENQ (spec/08 R202, spec/14 R277) -/

/-- ENQ. -/
def enqAct (s : State) (c : Ctx) : Act :=
  let w := uWord s c 2
  if 256 ≤ w then rangeTrap 4
  else if (s.queue w).ctx.toNat != (s.group c.key).ctx then privTrap
  else bufferAct (.enq w) 64 64 [] [0] s c

/-- An ENQ's packet copied into the child store and counted in its parent, the launch of the group. For a command
core, which runs for no launch, the spec names none: the launch of the number its group carries is taken, if one of
that number lives (DESIGN CHOICE, log 106). -/
def State.enqStep (s : State) (id : Nat) (o : Op) (q : Nat) : State :=
  if s.opReadsPoison o then s.consumePoison o.group
  else if 4096 ≤ s.children.length then s.redue id
  else
    let s := s.releaseDie (dieOf o.group)
    let (s, bytes) := s.readAccesses o o.acting
    let grid := s.gridOf o.group
    let s : State := { s with
      nextId := s.nextId + 1
      children := s.children ++ [(⟨q, grid, bytes, s.nextId⟩ : Child)] }
    (s.count grid 1).finishOp id []

/-! ## The instructions -/

/-- LEASE (spec/08 R200). -/
def execLease (f : Fields) (s : State) : Host.Outcome State Fault Refusal := issueWord (.lease f) leaseAct s
/-- LEASEM (spec/08 R200). -/
def execLeasem (f : Fields) (s : State) : Host.Outcome State Fault Refusal := issueWord (.leasem f) leasemAct s
/-- LREL (spec/08 R200). -/
def execLrel (f : Fields) (s : State) : Host.Outcome State Fault Refusal := issueWord (.lrel f) lrelAct s
/-- EMIT (spec/08 R201). -/
def execEmit (f : Fields) (s : State) : Host.Outcome State Fault Refusal := issueWord (.emit f) emitAct s
/-- ENQ (spec/08 R202). -/
def execEnq (f : Fields) (s : State) : Host.Outcome State Fault Refusal := issueWord (.enq f) enqAct s
/-- RENNET_RECORD_ACCEPT (spec/14 R279, R280). -/
def execRennetRecordAccept (die : Nat) (s : State) : Host.Outcome State Fault Refusal := .next (s.rennetAccept die)
/-- RENNET_BATCH_TIMEOUT (spec/09 R231). -/
def execRennetBatchTimeout (die grid node : Nat) (s : State) : Host.Outcome State Fault Refusal :=
  .next (s.rennetTimeout die grid node)
end Sys2Proof.Machine
end

