-- ==== Sys2Proof/Machine/Engine.lean ====
section
/-! DEFINITION. The Churn (spec/08 R191-R199, spec/16 R307, R308): feeding and draining it from the lanes, and the
macro-operations of its controller. -/

namespace Sys2Proof.Machine

/-- A cluster's Churn. -/
def State.churn (s : State) (cl : Nat) : Churn := (s.cluster cl).churn
/-- A cluster's Churn changed. -/
def State.modChurn (s : State) (cl : Nat) (f : Churn → Churn) : State :=
  s.setCluster cl { s.cluster cl with churn := f (s.churn cl) }

/-! ## Format words (spec/08 R191) -/

/-- FMT: 0 D8, 1 BF16, 2 FP16. -/
def fmtOf (w : Word) : Nat := w.toNat % 4
/-- SCALED. -/
def fmtScaled (w : Word) : Bool := w.getLsbD 2
/-- TID. -/
def fmtTid (w : Word) : Nat := (w.extractLsb' 8 8).toNat
/-- BLOCK. -/
def fmtBlock (w : Word) : Nat := (w.extractLsb' 16 16).toNat
/-- Does a format word hold a reserved value? -/
def fmtReserved (w : Nat) : Bool := w / 8 % 32 != 0 || w % 4 == 3 || (w / 4 % 2 == 1 && w % 4 != 0)

/-! ## TFEED (spec/08 R191-R193) -/

/-- The slot of a TFEED taken: the one a replay fills again, or the next free one. -/
def Churn.takeSlot (c : Churn) (key id : Nat) (fmt : Word) : Churn :=
  if c.feed.any fun x => x.op = 0 && x.group = key then
    { c with feed := c.feed.map fun x => if x.op = 0 && x.group = key then { x with op := id, fmt := fmt } else x }
  else { c with feed := c.feed ++ [⟨fmt, [], false, key, id, false⟩] }

/-- The format word a word's active lanes hold, and whether they agree. -/
def fmtVote (s : State) (c : Ctx) : Nat × Bool :=
  let w (l : Nat) := natArg 32 (srcVal s c 2 l)
  (w (firstLane c.active), (lanesOf c.active).all fun l => w l == w (firstLane c.active))

/-- TFEED `.a`, `.b` and `.idx`: lanes beyond those that supply bytes are not read. -/
def tfeedAct (s : State) (c : Ctx) : Act :=
  let (w, agree) := fmtVote s c
  let n := if c.f.modHi = 0 then 32 else if c.f.modHi = 1 then 16 else 4
  let lanes := (lanesOf c.active).filter (· < n)
  if !agree then .trap 0x0C#8 0#32
  else if fmtReserved w then rangeTrap 4
  else match lanes.find? fun l => (accessVa s c l).toNat % 64 != 0 with
  | some l => .trap 0x06#8 (BitVec.ofNat 32 l)
  | none => .go {
      kind := some (.tfeed (BitVec.ofNat 32 w))
      acc := lanes.flatMap fun l => bufferAccesses l (accessVa s c l) 64
      now := fun s id => (s.modChurn (churnIx c.key) fun x => x.takeSlot c.key id (BitVec.ofNat 32 w)).walkOp false id }

/-- TFEED `.stab`. -/
def tfeedStabAct (s : State) (c : Ctx) : Act :=
  let (w, agree) := fmtVote s c
  let l := firstLane c.active
  let va := accessVa s c l
  if !agree then .trap 0x0C#8 0#32
  else if fmtReserved w then rangeTrap 4
  else if va.toNat % 64 != 0 then .trap 0x06#8 (BitVec.ofNat 32 l)
  else .go {
    kind := some (.tfeedStab (w / 256 % 256))
    acc := [⟨l, va, 0, 0#128, none, true, false, 0#128, none⟩]
    now := fun s id => s.markWalked id }

/-- Does an operation read poison, past L1? -/
def State.readsPoisonC (s : State) (o : Op) : Bool := o.acting.any fun a => s.readsPoison a.paNat

/-- The bytes of a TFEED's accesses put at their places in the slot. -/
def feedBytes (s : State) (o : Op) : List (Nat × Byte) :=
  o.acting.foldl (fun m a => memSetAll m (64 * a.lane + a.va.toNat % 64)
    (s.pathRead (dieOf o.group) a.paNat a.size)) []

/-- A TFEED's reads made on path C: its slot is full. -/
def State.tfeedStep (s : State) (id : Nat) (o : Op) : State :=
  let s := o.acting.foldl (fun (s : State) a => s.drainRedsAt a.paNat a.size) s
  let data := feedBytes s o
  let poison := s.readsPoisonC o
  (s.modChurn (churnIx o.group) fun x => { x with feed := x.feed.map fun y =>
    if y.op = id then { y with data := data, full := true, poison := poison } else y }).finishOp id []

/-- A registration recorded: it replaces its TID's base and drops the TID's cached bytes; a read of the TID in flight
will not enter the cache (spec/16 R307). -/
def State.tfeedStabStep (s : State) (id : Nat) (o : Op) (tid : Nat) : State :=
  let base := match o.acc with
    | a :: _ => a.va
    | [] => 0#80
  (s.modChurn (churnIx o.group) fun x => { x with
    scales := mapSet x.scales tid base
    scaleByte := x.scaleByte.filter fun b => b.1.1 != tid
    scaleRead := x.scaleRead.map fun r => if r.tid = tid then { r with stale := true } else r }).finishOp id []

/-! ## TDRAIN (spec/08 R194) -/

/-- The oldest tile that no TDRAIN has claimed is claimed. -/
def claimOldest (claim : Nat × Nat) : List DrainTile → List DrainTile
  | [] => []
  | d :: t => if d.claim.isNone then { d with claim := some claim } :: t else d :: claimOldest claim t

/-- A TDRAIN's claim: the tile a replay writes again, or the oldest unclaimed one. -/
def Churn.claimTile (c : Churn) (key id : Nat) : Churn :=
  if c.drain.any fun d => d.claim == some (key, 0) then
    { c with drain := c.drain.map fun d => if d.claim == some (key, 0) then { d with claim := some (key, id) } else d }
  else { c with drain := claimOldest (key, id) c.drain }

/-- TDRAIN. -/
def tdrainAct (s : State) (c : Ctx) : Act :=
  let lanes := lanesOf c.active
  match lanes.find? fun l => (accessVa s c l).toNat % 256 != 0 with
  | some l => .trap 0x06#8 (BitVec.ofNat 32 l)
  | none => .go {
      kind := some .tdrain
      acc := lanes.flatMap fun l => bufferAccesses l (accessVa s c l) 256
      now := fun s id => (s.modChurn (churnIx c.key) fun x => x.claimTile c.key id).walkOp false id }

/-- `n` bytes of a tile in row-major order from a byte on. -/
def tileBytes (t : Tile) (from_ n : Nat) : List Byte :=
  (List.range n).map fun i => BitVec.ofNat 8 ((mapGet t ((from_ + i) / 4) 0#32).toNat / 256 ^ ((from_ + i) % 4))

/-- A TDRAIN's rows written as EF stores on path C once it holds a tile and every row has passed its fault point; it takes
its tile out, and completes, when the tile is the oldest. -/
def State.tdrainStep (s : State) (id : Nat) (o : Op) : State :=
  let cl := churnIx o.group
  let mine (d : DrainTile) : Bool := d.claim.any fun x => x.2 == id
  match (s.churn cl).drain.find? mine with
  | none => s.redue id
  | some d =>
    let s := if o.left then s else o.acting.foldl (fun (s : State) a =>
      s.pathPark (dieOf o.group) id a.paNat (tileBytes d.tile (256 * a.lane + a.va.toNat % 256) a.size))
      (s.setOp id { o with left := true })
    if !s.parkServed (dieOf o.group) id then s.redue id else
    let s := s.unpark id
    match (s.churn cl).drain with
    | h :: t => if mine h then (s.modChurn cl fun x => { x with drain := t }).finishOp id []
        else s.redue id
    | [] => s

/-! ## Macro-operations at issue (spec/08 R195-R199) -/

/-- A macro-operation queued. -/
def queueMacro (m : MacroOp) : Effect where
  kind := some .churnOp
  now := fun s id => s.modChurn (churnIx s.cur.group) fun x => { x with macros := x.macros ++ [{ m with op := id }] }

/-- A macro-operation of a kind on a tile, with nothing else set. -/
def MacroOp.plain (kind : MacroKind) (tile : Nat) : MacroOp :=
  ⟨0, kind, false, tile, 1, 0, 0, 0#80, 0#32, 0, 0, false, none, none⟩

/-- The stream address of a macro-operation: A in the space of B, with no offset. -/
def streamVa (s : State) (c : Ctx) : VAddr :=
  vaddr (vget (s.group c.key).s (c.f.b.index.toNat - 0x60) 0#16) ((srcVal s c 0 0).setWidth 64)

/-- MMA, and MMAG when `gather`. -/
def mmaAct (gather : Bool) (s : State) (c : Ctx) : Act :=
  let imm := c.f.imm.toNat
  let n := imm / 16 % 4096
  let bs := c.f.modHi = 1
  let fed := if gather then (if bs then 1 else n + 1) else if bs then n else 2 * n
  if n = 0 || 8 < fed || imm / 2 ^ (if gather then 28 else 16) != 0 then rangeTrap 5
  else if bs && fmtReserved (uWord s c 2) then rangeTrap 4
  else .go (queueMacro { MacroOp.plain (if gather then .mmag else .mma) (imm % 16) with
    bs := bs
    steps := n
    q := imm / 2 ^ 16 % 4
    e := imm / 2 ^ 18 % 1024
    base := if bs then streamVa s c else 0#80
    bsFmt := if bs then BitVec.ofNat 32 (uWord s c 2) else 0#32
    taken := fed })

/-- MZERO and MMOV `.drain`. -/
def tileAct (kind : MacroKind) (_ : State) (c : Ctx) : Act :=
  let imm := c.f.imm.toNat
  if 16 ≤ imm then rangeTrap 5 else .go (queueMacro (MacroOp.plain kind imm))

/-- MMOV `.copy`. -/
def mmovCopyAct (_ : State) (c : Ctx) : Act :=
  let imm := c.f.imm.toNat
  if 256 ≤ imm then rangeTrap 5 else .go (queueMacro { MacroOp.plain .mmovCopy (imm % 16) with q := imm / 16 })

/-- MLD and MST. -/
def tileMemAct (kind : MacroKind) (s : State) (c : Ctx) : Act :=
  let imm := c.f.imm.toNat
  let va := streamVa s c
  if 16 ≤ imm then rangeTrap 5
  else if va.toNat % 128 != 0 then .trap 0x06#8 0#32
  else .go (queueMacro { MacroOp.plain kind imm with steps := 8, base := va })

/-! ## Tiles and operands (spec/08 R192, R193, R196) -/

/-- An accumulator tile. -/
def Churn.tile (c : Churn) (n : Nat) : Tile := mapGet c.tiles n []
/-- An accumulator tile set; a tile all +0 is not listed. -/
def Churn.setTile (c : Churn) (n : Nat) (t : Tile) : Churn :=
  { c with tiles := if t.isEmpty then mapDel c.tiles n else mapSet c.tiles n t }
/-- A shadow set. -/
def Churn.setShadow (c : Churn) (n : Nat) (t : Tile) : Churn :=
  { c with shadows := if t.isEmpty then mapDel c.shadows n else mapSet c.shadows n t }

/-- A fed tile of the buffer. -/
def Churn.fed (c : Churn) (n : Nat) : FeedSlot := c.feed.getD n ⟨0#32, [], false, 0, 0, false⟩

/-- `n` bytes of a slot. -/
def FeedSlot.bytes (x : FeedSlot) (from_ n : Nat) : List Byte := (List.range n).map fun i => memGet x.data (from_ + i)

/-- The row index of a gathered row (spec/08 R192). -/
def FeedSlot.index (x : FeedSlot) (r : Nat) : Nat := leNat (x.bytes (4 * r) 4)

/-- The group of a team with a number, resident or in its save area. -/
def State.teamGroup (s : State) (t grp : Nat) : Option Group :=
  match (s.groups.filter fun p => p.2.engine = .partition && groupParty p.2 = t * 64 + grp) ++
    (match s.team? t with
      | some u => u.saved.filter fun p => groupParty p.2 = t * 64 + grp
      | none => []) with
  | p :: _ => some p.2
  | [] => none

/-- The team whose deep window an MMAG gathers from. -/
def State.gatherTeam (s : State) (cl : Nat) (m : MacroOp) : Option Nat :=
  s.teamOnCore ((s.churn cl).grid.getD 0) (4 * cl + m.q)

/-- First entry and lane of a gathered row of index `v` (spec/08 R196). -/
def MacroOp.entryOf (m : MacroOp) (v : Nat) : Nat × Nat := (m.e + 8 * (m.steps * (v / 32) + m.step), v % 32)

/-- The 32 bytes of a gathered row; a row of zero codes for index 0xFFFF_FFFF. A team that has ended since the operation
began has left no row to read: its bytes are free (log 28). -/
def State.gatherRow (s : State) (cl : Nat) (m : MacroOp) (v : Nat) : List Byte :=
  if v = 0xFFFFFFFF then List.replicate 32 0#8
  else
    let (e, lane) := m.entryOf v
    let word (k : Nat) : Nat := match (s.gatherTeam cl m).bind fun t => s.teamGroup t 0 with
      | some g => (g.bankWord (e + k) lane).toNat
      | none => (Config.freeValue s.freeCtr).toNat
    (List.range 8).flatMap fun k => leBytes 4 (word k)

/-- The index tile of an MMAG, and the fed tiles after it. -/
def MacroOp.idxTile (_ : MacroOp) (c : Churn) : FeedSlot := c.fed 0

/-- The format word of a step's A. -/
def MacroOp.aFmt (m : MacroOp) (c : Churn) : Word :=
  match m.kind with
  | .mmag => (m.idxTile c).fmt
  | _ => (c.fed (if m.bs then m.step else 2 * m.step)).fmt

/-- The fed slot of a step's B. -/
def MacroOp.bSlot (m : MacroOp) : Nat := if m.kind = .mmag then m.step + 1 else 2 * m.step + 1

/-- The format word of a step's B. -/
def MacroOp.bFmt (m : MacroOp) (c : Churn) : Word := if m.bs then m.bsFmt else (c.fed m.bSlot).fmt

/-- The 32 bytes of row r of a step's A. -/
def State.rowBytes (s : State) (cl : Nat) (m : MacroOp) (r : Nat) : List Byte :=
  let c := s.churn cl
  match m.kind with
  | .mmag => s.gatherRow cl m ((m.idxTile c).index r)
  | _ => (c.fed (if m.bs then m.step else 2 * m.step)).bytes (32 * r) 32

/-- The scale block of row r of a step's A, none for a row that has no scale. A gathered row whose index is
0xFFFF_FFFF reads as zeros and names no block; the spec does not say whether its scale byte is read, and the model
reads none (log 84). -/
def MacroOp.aBlock (m : MacroOp) (c : Churn) (r : Nat) : Option (Nat × Nat) :=
  let w := m.aFmt c
  let v := (m.idxTile c).index r
  if !fmtScaled w || (m.kind = .mmag && v = 0xFFFFFFFF) then none
  else some (fmtTid w, fmtBlock w + if m.kind = .mmag then m.steps * v + m.step else r)

/-- The scale block of column j of a step's B. -/
def MacroOp.bBlock (m : MacroOp) (c : Churn) (j : Nat) : Option (Nat × Nat) :=
  let w := m.bFmt c
  if !fmtScaled w then none else some (fmtTid w, fmtBlock w + if m.bs then 32 * m.step + j else j)

/-- A scale byte that the waiting step has: its own, or a cached one. -/
def Churn.scale? (c : Churn) (k : Nat × Nat) : Option Byte := ((c.stepByte ++ c.scaleByte).find? fun b => b.1 == k).map (·.2)

/-- The scale of a block, 0 for none. -/
def Churn.scaleVal (c : Churn) (k : Option (Nat × Nat)) : Int :=
  match k.bind c.scale? with
  | some b => b.toInt
  | none => 0

/-- The first scale byte a step needs and has not. -/
def MacroOp.missing (m : MacroOp) (c : Churn) : Option (Nat × Nat) :=
  if m.kind != .mma && m.kind != .mmag then none
  else (((List.range 64).filterMap (m.aBlock c)) ++ ((List.range 32).filterMap (m.bBlock c))).find?
    fun k => (c.scale? k).isNone

/-- The chunk sum of a row and a column in a format (spec/04 R95, R96). -/
def chunkSum (fmt : Nat) (ka kb : Int) (a b : List Byte) : FloatNum :=
  if fmt = 0 then chunkD8 ka kb (a.zip b)
  else
    let half (x : List Byte) (t : Nat) : Nat := leNat ((x.drop (2 * t)).take 2)
    chunkFloat (if fmt = 1 then .bf16 else .f16) ((List.range 16).map fun t => (half a t, half b t))

/-- A tile with one step's chunk added to every element (spec/04 R97). -/
def addChunk (t : Tile) (fmt : Nat) (rows cols : List (List Byte × Int)) : Tile :=
  (rows.zipIdx).foldl (fun t (r : (List Byte × Int) × Nat) =>
    (cols.zipIdx).foldl (fun t (k : (List Byte × Int) × Nat) =>
      let n := 32 * r.2 + k.2
      let w := accumulate (mapGet t n 0#32) (chunkSum fmt r.1.2 k.1.2 r.1.1 k.1.1)
      if w = 0#32 then mapDel t n else mapSet t n w) t) t

/-! ## The sequencer -/

/-- Does the partition of a cluster stand stopped? -/
def State.stoppedAt (s : State) (cl : Nat) : Bool := s.dieHalted (cl / 8) || s.resid.any fun r => r.stopped && r.part.getLsbD cl

/-- The addresses a step uses, with what it needs: the streamed chunk, or the KiB moved, and the next scale byte. -/
def State.macroVas (s : State) (cl : Nat) (m : MacroOp) : List (VAddr × Need) :=
  let c := s.churn cl
  let kib := m.base + BitVec.ofNat 80 (1024 * m.step)
  let run := vaRun kib 1024
  let scale := match m.missing c with
    | some (tid, b) => match mapGet? c.scales tid with
      | some base => [(base + BitVec.ofNat 80 b, Need.read)]
      | none => []
    | none => []
  match m.kind with
  | .mma | .mmag => scale ++ (if m.bs then run.map fun v => (v, Need.read) else [])
  | .mld => run.map fun v => (v, Need.read)
  | .mst => run.map fun v => (v, Need.write)
  | .mzero | .mmovDrain | .mmovCopy => []

/-- The key of the program that uses the Churn at a place of State.clusters: a cluster's, or an image's. -/
def controllerKey (i : Nat) : Nat := if i < 0x1000 then churnKey i else outKey (i / 0x1000 - 1) (churnKey (i % 0x1000))

/-- The context of a cluster's controller. -/
def State.churnCtx (s : State) (cl : Nat) : Nat := (s.group (controllerKey cl)).ctx

/-- The physical address of a byte that the translation unit holds for a cluster's controller. -/
def State.churnPa (s : State) (cl : Nat) (v : VAddr × Need) : Option Nat :=
  match s.tluHit (cl / 8) (s.churnCtx cl) v.1 with
  | none => none
  | some _ => match s.translate (cl / 8) (s.churnCtx cl) v.1 v.2 with
    | .ok pa _ _ _ => if s.pageFrozen pa || !s.homeReached (cl / 8) pa then none else some pa
    | .hold | .fault _ _ => none

/-- Bytes at addresses of a controller's stream, past L1. -/
def State.churnRead (s : State) (cl : Nat) (vas : List VAddr) : List Byte :=
  vas.map fun v => match s.churnPa cl (v, .read) with
    | some pa => (s.pathRead (cl / 8) pa 1).headD 0#8
    | none => 0#8

/-- The operation at the head of a controller's queue changed. -/
def Churn.modHead (c : Churn) (f : MacroOp → MacroOp) : Churn :=
  match c.macros with
  | m :: t => { c with macros := f m :: t }
  | [] => c

/-- The operation at the head leaves, with the fed tiles it has taken. -/
def Churn.popHead (c : Churn) : Churn :=
  match c.macros with
  | m :: t => { c with macros := t, feed := c.feed.drop (if m.begun then m.taken else 0) }
  | [] => c

/-- A controller stays with its launch until its program has exited, every team of the launch on the cluster has ended
(spec/14 R272), and no macro-operation is left. -/
def State.freeController (s : State) (cl : Nat) : State :=
  match (s.churn cl).grid with
  | none => s
  | some grid =>
    let running := match s.launch? grid with
      | some l => l.churnLeft.contains cl
      | none => false
    if running || !(s.teamsOn grid cl).isEmpty || !(s.churn cl).macros.isEmpty then s
    else s.modChurn cl fun x => { x with grid := none }

/-- The operation at the head ends with a cause: the controller traps (spec/08 R195, R198); one whose program has already
ended by a trap has nothing left to end. -/
def State.macroTrap (s : State) (cl : Nat) (m : MacroOp) (cause : BitVec 8) (t : Word) : State :=
  let pc := match mapGet? s.ops m.op with
    | some o => o.pc
    | none => 0#64
  let s := (s.modChurn cl Churn.popHead).completeOp m.op
  let s := if (mapGet? s.groups (controllerKey cl)).isSome then s.takeTrap (controllerKey cl) pc 1#32 cause t else s
  s.freeController cl

/-- The fault of an access of the head operation (spec/08 R198): its tile is its shadow again, the record is written, and
it waits. -/
def State.macroFault (s : State) (cl : Nat) (m : MacroOp) (v : VAddr × Need) (cause : BitVec 8) (pa : Nat) : State :=
  let c := s.churn cl
  let s := s.modChurn cl fun x => (x.setTile m.tile (mapGet c.shadows m.tile [])).modHead fun m =>
    { m with step := 0, lastAt := none }
  let pc := match mapGet? s.ops m.op with
    | some o => o.pc
    | none => 0#64
  let f : FaultAt := ⟨v.1, cause, v.2 == .write, false, false, .c, pa, pc, 0xFFFF, cl % 64, 1#32⟩
  match s.record (s.churnCtx cl) false (f.bytes s.timer) with
  | none => s.macroTrap cl m cause 0#32
  | some (s, i) => (s.modChurn cl fun x => x.modHead fun m => { m with fault := some (cause, i) }).launchEvent 0x04
      ((s.churn cl).grid.getD 0)

/-- The addresses of a step walked in turn (spec/15 R300). -/
def walkMacro (cl : Nat) (m : MacroOp) : List (VAddr × Need) → State → State
  | [], s => s
  | v :: t, s =>
    match s.translate (cl / 8) (s.churnCtx cl) v.1 v.2 with
    | .ok pa k r big => walkMacro cl m t (s.tluFill (cl / 8) (s.churnCtx cl) v.1 pa k r big)
    | .hold => s
    | .fault x pa => s.macroFault cl m v x pa

/-- Does an entry a step gathers lie beyond its team's deep window? -/
def State.gatherBeyond (s : State) (cl : Nat) (m : MacroOp) : Bool :=
  match (s.gatherTeam cl m).bind s.team? with
  | some u => (List.range 64).any fun r =>
      let v := (m.idxTile (s.churn cl)).index r
      v != 0xFFFFFFFF && u.deepSize < (m.entryOf v).1 + 8
  | none => false

/-- Does a gathered row hold poison (spec/21 R366)? -/
def State.gatherPoison (s : State) (cl : Nat) (m : MacroOp) : Bool :=
  match (s.gatherTeam cl m).bind fun t => s.teamGroup t 0 with
  | some g => (List.range 64).any fun r =>
      let v := (m.idxTile (s.churn cl)).index r
      let (e, lane) := m.entryOf v
      v != 0xFFFFFFFF && (List.range 8).any fun k => g.bankPoison (e + k) lane
  | none => false

/-- Do the formats of every step of an operation agree? -/
def MacroOp.formatsAgree (m : MacroOp) (c : Churn) : Bool :=
  (List.range m.steps).all fun n => fmtOf ({ m with step := n }.aFmt c) == fmtOf ({ m with step := n }.bFmt c)

/-- Are the fed tiles an operation waits for full? -/
def MacroOp.fedReady (m : MacroOp) (c : Churn) : Bool :=
  m.taken ≤ c.feed.length && (c.feed.take m.taken).all (·.full)

/-- An operation's end at once, with what it does to the Churn. -/
def State.endMacro (s : State) (cl : Nat) (m : MacroOp) (f : Churn → Churn) : State :=
  ((s.modChurn cl fun x => (f x).popHead).completeOp m.op).freeController cl

/-- The tile that leaves for the drain buffer, claimed by the oldest TDRAIN of the cluster that waits for one. -/
def State.enterDrain (s : State) (cl : Nat) (t : Tile) : Churn → Churn := fun c =>
  let waiting := s.ops.filter fun p => p.2.kind == .tdrain && churnIx p.2.group = cl
    && !c.drain.any fun d => d.claim == some (p.2.group, p.1)
  { c with drain := c.drain ++ [⟨t, (waiting.head?).map fun p => (p.2.group, p.1)⟩] }

/-- A macro-operation begins (spec/08 R196, R198, R199). -/
def State.beginMacro (s : State) (cl : Nat) (m : MacroOp) : State :=
  let c := s.churn cl
  let start (s : State) : State := s.modChurn cl fun x =>
    (x.setShadow m.tile (x.tile m.tile)).modHead fun m => { m with begun := true }
  match m.kind with
  | .mzero => s.endMacro cl m fun x => (x.setTile m.tile []).setShadow m.tile []
  | .mmovCopy => s.endMacro cl m fun x => x.setTile m.q (x.tile m.tile)
  | .mmovDrain => if 4 ≤ c.drain.length then s else s.endMacro cl m (s.enterDrain cl (c.tile m.tile))
  | .mld | .mst => start s
  | .mma | .mmag =>
    if !m.fedReady c then s
    else
      let held (s : State) : State := s.modChurn cl fun x => x.modHead fun m => { m with begun := true }
      if (c.feed.take m.taken).any (·.poison) then (held s).macroTrap cl m 0x30#8 0#32
      else if m.kind = .mmag && (s.gatherTeam cl m).isNone then (held s).macroTrap cl m 0x0F#8 5#32
      else if !m.formatsAgree c then (held s).macroTrap cl m 0x32#8 0#32
      else start s

/-- The step number after a step, and the cycle of the last one. -/
def MacroOp.stepped (m : MacroOp) (now : Nat) : MacroOp :=
  { m with step := m.step + 1, lastAt := if m.step + 1 = m.steps then some now else m.lastAt }

/-- One step of an MMA or MMAG whose operands are all present. -/
def State.mmaStep (s : State) (cl : Nat) (m : MacroOp) : State :=
  let c := s.churn cl
  let stream := s.churnRead cl (vaRun (m.base + BitVec.ofNat 80 (1024 * m.step)) 1024)
  let rows := (List.range 64).map fun r => (s.rowBytes cl m r, c.scaleVal (m.aBlock c r))
  let cols := (List.range 32).map fun j =>
    (if m.bs then (stream.drop (32 * j)).take 32 else (c.fed m.bSlot).bytes (32 * j) 32, c.scaleVal (m.bBlock c j))
  let t := addChunk (c.tile m.tile) (fmtOf (m.aFmt c)) rows cols
  let s := if m.kind = .mmag then s.tookFree else s
  s.modChurn cl fun x => { (x.setTile m.tile t).modHead fun m => m.stepped s.now with stepByte := [] }

/-- One KiB of an MLD. -/
def State.mldStep (s : State) (cl : Nat) (m : MacroOp) : State :=
  let bytes := s.churnRead cl (vaRun (m.base + BitVec.ofNat 80 (1024 * m.step)) 1024)
  let t := (List.range 256).foldl (fun (t : Tile) i =>
    let w : Word := BitVec.ofNat 32 (leNat ((bytes.drop (4 * i)).take 4))
    let n := 256 * m.step + i
    if w = 0#32 then mapDel t n else mapSet t n w) ((s.churn cl).tile m.tile)
  s.modChurn cl fun x => (x.setTile m.tile t).modHead fun m => m.stepped s.now

/-- One KiB of an MST: EF stores at cluster scope on path C. What of them waits at a held line is done when it is served
(spec/11 R262). -/
def State.mstStep (s : State) (cl : Nat) (m : MacroOp) : State :=
  let t := (s.churn cl).tile m.tile
  let s := if s.storeWaits m.op then s else (List.range 64).foldl (fun (s : State) i =>
    let off := 1024 * m.step + 16 * i
    match s.churnPa cl (m.base + BitVec.ofNat 80 off, .write) with
    | some pa => s.pathPark (cl / 8) m.op pa (tileBytes t off 16)
    | none => s) s
  if !s.parkServed (cl / 8) m.op then s
  else (s.unpark m.op).modChurn cl fun x => x.modHead fun m => m.stepped s.now

/-- The lines that a step reads at which it waits its turn (spec/11 R262). -/
def State.macroLines (s : State) (cl : Nat) (m : MacroOp) (vas : List (VAddr × Need)) : List Nat :=
  ((vas.filterMap fun v => if v.2 == .write then none else (s.churnPa cl v).map lineOf).eraseDups).filter
    fun l => !s.lineTurn (cl / 8) l m.op

/-- MACRO_STEP. -/
def State.macroStep (s : State) (cl : Nat) : State :=
  let c := s.churn cl
  match c.macros with
  | [] => s
  | m :: _ =>
    if s.stoppedAt cl || m.fault.isSome || m.lastAt.isSome then s
    else if !m.begun then s.beginMacro cl m
    else
      let vas := s.macroVas cl m
      if m.kind = .mmag && s.gatherBeyond cl m then s.macroTrap cl m 0x05#8 0#32
      else if m.kind = .mmag && s.gatherPoison cl m then s.macroTrap cl m 0x30#8 0#32
      else match m.missing c with
      | some (tid, b) => s.soon (.scaleCacheMissRead cl tid b)
      | none =>
        if !vas.all fun v => (s.churnPa cl v).isSome then s.soon (.pageWalk (.churnOp cl))
        else if !(s.macroLines cl m vas).isEmpty then
          (s.macroLines cl m vas).foldl (fun (s : State) l => s.joinLine l m.op) s
        else if vas.any fun v => v.2 == .read && match s.churnPa cl v with
          | some pa => s.readsPoison pa
          | none => false
        then s.macroTrap cl m 0x30#8 0#32
        else
          let s := (vas.filter fun v => v.2 == .read).foldl (fun (s : State) v => match s.churnPa cl v with
            | some pa => s.drainRedsAt pa 1
            | none => s) s
          match m.kind with
          | .mma | .mmag => s.mmaStep cl m
          | .mld => s.mldStep cl m
          | .mst => s.mstStep cl m
          | .mzero | .mmovDrain | .mmovCopy => s

/-- MACRO_COMPLETE: an MMA or MMAG completes 24 cycles after its last step, an MLD or MST at once. -/
def State.macroComplete (s : State) (cl : Nat) : State :=
  match (s.churn cl).macros with
  | [] => s
  | m :: _ =>
    match m.lastAt with
    | none => s
    | some t =>
      if s.now < t + (if m.kind = .mma || m.kind = .mmag then 24 else 0) then s
      else match (s.churn cl).grid with
        | some grid => (s.endMacro cl m id).checkLaunch grid
        | none => s.endMacro cl m id

/-- A scale byte entered in the cache. -/
def Churn.keepScale (c : Churn) (tid block : Nat) (b : Byte) : Churn :=
  { c with scaleByte := ((tid, block), b) :: (c.scaleByte.filter fun y => y.1 != (tid, block)) }

/-- A scale byte that has been read comes: to the step that waits, and into the cache unless its TID has been
registered since the read. -/
def Churn.takeScale (c : Churn) (r : ScaleRead) : Churn :=
  let c := { c with scaleRead := c.scaleRead.erase r }
  if r.stale then { c with stepByte := ((r.tid, r.block), r.byte) :: c.stepByte } else c.keepScale r.tid r.block r.byte

/-- A scale byte read, to come after a delay. -/
def State.readScale (s : State) (cl tid block : Nat) (b : Byte) : State :=
  (s.modChurn cl fun x => { x with scaleRead := x.scaleRead ++ [⟨tid, block, b, s.now + s.nextDelay, false⟩] }).tookDelay

/-- SCALE_CACHE_MISS_READ (spec/08 R193, spec/16 R307): the byte is read through the registration in force, and comes
later; it is 0 at once where the TID has none. -/
def State.scaleMiss (s : State) (cl tid block : Nat) : State :=
  let c := s.churn cl
  match c.scaleRead.find? fun r => r.tid = tid && r.block = block with
  | some r => if s.now < r.due then s else s.modChurn cl fun x => x.takeScale r
  | none =>
  match mapGet? c.scales tid with
  | none => s.modChurn cl fun x => x.keepScale tid block 0#8
  | some base =>
    match s.churnPa cl (base + BitVec.ofNat 80 block, .read) with
    | none => s.soon (.pageWalk (.churnOp cl))
    | some pa =>
      if !s.lineFree (cl / 8) (lineOf pa) then s
      else if s.readsPoison pa then match c.macros with
        | m :: _ => s.macroTrap cl m 0x30#8 0#32
        | [] => s
      else
        let s := s.drainRedsAt pa 1
        s.readScale cl tid block ((s.pathRead (cl / 8) pa 1).headD 0#8)

/-! ## The instructions -/

/-- TFEED `.a`, `.b`, `.idx` (spec/08 R191). -/
def execTfeed (f : Fields) (s : State) : Host.Outcome State Fault Refusal := issueWord (.tfeed f) tfeedAct s
/-- TFEED `.stab` (spec/08 R193). -/
def execTfeedStab (f : Fields) (s : State) : Host.Outcome State Fault Refusal := issueWord (.tfeedStab f) tfeedStabAct s
/-- TDRAIN (spec/08 R194). -/
def execTdrain (f : Fields) (s : State) : Host.Outcome State Fault Refusal := issueWord (.tdrain f) tdrainAct s
/-- MMA (spec/08 R196). -/
def execMma (f : Fields) (s : State) : Host.Outcome State Fault Refusal := issueWord (.mma f) (mmaAct false) s
/-- MMAG (spec/08 R196). -/
def execMmag (f : Fields) (s : State) : Host.Outcome State Fault Refusal := issueWord (.mmag f) (mmaAct true) s
/-- MZERO (spec/08 R199). -/
def execMzero (f : Fields) (s : State) : Host.Outcome State Fault Refusal := issueWord (.mzero f) (tileAct .mzero) s
/-- MMOV `.drain` (spec/08 R199). -/
def execMmovDrain (f : Fields) (s : State) : Host.Outcome State Fault Refusal :=
  issueWord (.mmovDrain f) (tileAct .mmovDrain) s
/-- MMOV `.copy` (spec/08 R199). -/
def execMmovCopy (f : Fields) (s : State) : Host.Outcome State Fault Refusal := issueWord (.mmovCopy f) mmovCopyAct s
/-- MLD (spec/08 R199). -/
def execMld (f : Fields) (s : State) : Host.Outcome State Fault Refusal := issueWord (.mld f) (tileMemAct .mld) s
/-- MST (spec/08 R199). -/
def execMst (f : Fields) (s : State) : Host.Outcome State Fault Refusal := issueWord (.mst f) (tileMemAct .mst) s
/-- MACRO_STEP (spec/08 R196). -/
def execMacroStep (cluster : Nat) (s : State) : Host.Outcome State Fault Refusal := .next (s.macroStep cluster)
/-- MACRO_COMPLETE (spec/08 R196). -/
def execMacroComplete (cluster : Nat) (s : State) : Host.Outcome State Fault Refusal := .next (s.macroComplete cluster)
/-- SCALE_CACHE_MISS_READ (spec/08 R193). -/
def execScaleCacheMissRead (cluster tid block : Nat) (s : State) : Host.Outcome State Fault Refusal :=
  .next (s.scaleMiss cluster tid block)

end Sys2Proof.Machine
end

