-- ==== Sys2Proof/Machine/Place.lean ====
section
/-! DEFINITION. Placing teams (spec/09 R217-R219, R229-R231, spec/03 R60, R71, spec/14 R272, R273): the groups a launch
loads, the tests of placement, and the cluster distributors. -/

namespace Sys2Proof.Machine

/-! ## Groups as a launch loads them (spec/14 R272) -/

/-- q0-q62 of a group, and q63: the offset of the group's link spill (R272, R273). -/
def startQ (args : List Word) (q63 : Nat) : Vector Word 64 :=
  Vector.ofFn fun i : Fin 64 => if i.val < 16 then args.getD i 0#32 else if i.val = 63 then BitVec.ofNat 32 q63 else 0#32

/-- The first instruction of a body: ENTRY from its descriptor (spec/02 R52). -/
def entryPc (desc : DWord) (d : Descriptor) : DWord := desc + BitVec.ofInt 64 d.entry

/-- A program as it starts: of an engine, at a descriptor, with its lanes, arguments and q63. -/
def startGroup (e : EngineKind) (l : Launch) (desc : DWord) (d : Descriptor) (lanes : LaneMask) (q63 occ : Nat) : Group :=
  { Group.blank with
    engine := e
    ctx := l.ctx
    codeSpace := l.packet.space
    linkBase := l.packet.linkBase
    linkSpace := l.packet.space
    q := startQ l.args q63
    s := Vector.ofFn fun i : Fin 8 => d.spaces.getD i 0#16
    table := [⟨entryPc desc d, lanes, 0⟩]
    exited := ~~~lanes
    occ := occ
    trap := { Group.blank.trap with vec := l.packet.tvec } }

/-- The bytes of records as words of a deep window (spec/14 R279). -/
def recordWords (bytes : List Byte) : List Word :=
  (List.range (bytes.length / 4)).map fun i => BitVec.ofNat 32 (leNat ((bytes.drop (4 * i)).take 4))

/-- Records 32 g to 32 g + 31 landed in the deep window of group `g`: one a lane. -/
def Group.landRecords (g : Group) (records : List (List Byte)) (grp : Nat) : Group :=
  (((records.drop (32 * grp)).take 32).zipIdx).foldl (fun (g : Group) r =>
    ((recordWords r.1).zipIdx).foldl (fun (g : Group) w => g.setDeep w.2 r.2 w.1) g) g

/-- What a distributor places: a kernel for a launch, its team index, %nteam, %node, %nrec and the records. -/
structure TeamOrder where
  grid    : Nat
  desc    : DWord
  kernel  : Descriptor
  index   : Word
  nteam   : Word
  node    : Word
  records : List (List Byte)
  deriving DecidableEq, Repr

/-- Group `grp` of a team as its launch loads it. -/
def TeamOrder.group (x : TeamOrder) (l : Launch) (t grp frame occ : Nat) : Group :=
  let d := x.kernel
  let q63 := if l.packet.linkFrames = 0 then l.packet.linkSz * 256 * grp
    else l.packet.linkSz * 256 * (32 * frame + grp)
  let g := startGroup .partition l x.desc d 0xFFFFFFFF#32 q63 occ
  let producer := grp < d.producers
  { g with
    team := t
    grp := grp
    producer := producer
    floor := if producer then d.pfloor else d.cfloor
    budget := if producer then d.pbudget else d.cbudget
    lease := { g.lease with
      mode := if d.lease = 0 then .measured else .declared
      declared := d.lease }}.landRecords x.records grp

/-! ## The tests of placement (spec/03 R71, spec/09 R217) -/

/-- Free group slots of a core. -/
def State.freeSlots (s : State) (core : Nat) : Nat := 64 - (s.coreGroups core).length

/-- The lowest free group slot of a partition. -/
def State.slotIn (s : State) (part : Nat) : Option Nat :=
  ((List.range 16).find? fun i => (mapGet? s.groups (part * 16 + i)).isNone).map fun i => part * 16 + i

/-- Do the groups of a team that a partition receives fit there: slots, reservations, and the grant test with the team
as the youngest? -/
def State.fitsPart (s : State) (part deep team : Nat) (gs : List Group) : Bool :=
  let need := gs.foldl (fun n g => n + max g.regCount g.floor + deep) 0
  gs.isEmpty || ((s.partGroups part).length + gs.length ≤ 16 && need ≤ s.poolFree part
    && grantTest (s.partGroups part ++ gs.map fun g => (0, g)) (fun _ g => g.regCount) (s.poolFree part - need)
      (s.partTeams part ++ [team]) 0)

/-- The groups of a team that partition p (0-3) of its core receives. -/
def groupsOfPart (p : Nat) (gs : List Group) : List Group := gs.filter fun g => g.grp % 4 = p

/-- Can a core take a team of these groups whole? -/
def State.fitsCore (s : State) (core deep team : Nat) (gs : List Group) : Bool :=
  ((s.coreGroups core).map fun p => p.2.team).eraseDups.length < 16
    && (List.range 4).all fun p => s.fitsPart (4 * core + p) deep team (groupsOfPart p gs)

/-- The lowest link frame of a launch that no live team of it holds (spec/14 R273); 0 without frames. -/
def State.freeFrame (s : State) (grid : Nat) (l : Launch) : Option Nat :=
  if l.packet.linkFrames = 0 then some 0
  else (List.range l.packet.linkFrames).find? fun f =>
    !s.teams.any fun t => t.2.grid = grid && t.2.frame = f

/-- Does a team that has left a core for a wait-swap stand ready to return to it (spec/09 R228)? -/
def State.returnsFirst (s : State) (core : Nat) : Bool :=
  s.teams.any fun t => t.2.core = core && t.2.ready && t.2.swap == .out

/-- Can a cluster's controller serve a launch (spec/14 R272)? -/
def State.controllerFree (s : State) (cl grid : Nat) (l : Launch) : Bool :=
  l.chc.isNone || match (s.churn cl).grid with
    | none => true
    | some g => g = grid

/-- May a launch's teams be placed on a cluster now: its context is resident there and runs? -/
def State.runsOn (s : State) (ctx cl : Nat) : Bool :=
  !s.dieHalted (cl / 8) && s.resid.any fun r => r.part.getLsbD cl && r.resident == some ctx && !r.stopped && r.chosen.isNone

/-- The groups an order would bring to a team number. -/
def TeamOrder.groups (x : TeamOrder) (l : Launch) (t frame occ : Nat) : List Group :=
  (List.range x.kernel.groups).map fun g => x.group l t g frame occ

/-- Can a core take an order now? -/
def State.coreTakes (s : State) (core : Nat) (x : TeamOrder) : Bool :=
  match s.launch? x.grid with
  | none => false
  | some l => (s.freeFrame x.grid l).isSome && !s.returnsFirst core
      && s.fitsCore core x.kernel.deep s.nextId (x.groups l s.nextId 0 0)

/-! ## Placing -/

/-- Groups put into free slots of a core: group g in partition g mod 4. -/
def State.seat (s : State) (core : Nat) (gs : List Group) : State :=
  gs.foldl (fun (s : State) g => match s.slotIn (4 * core + g.grp % 4) with
    | some key => s.setGroup key { g with lease := { g.lease with inactiveSince := s.ns } }
    | none => s) s

/-- The controller program of a CHURN launch starts on a cluster with the launch's first team there, whose placement
empties the registration table (spec/14 R272, spec/16 R307). -/
def State.startController (s : State) (cl grid : Nat) (l : Launch) : State :=
  match l.chc with
  | none => s
  | some d =>
    let s := s.modChurn cl fun x => { x with grid := some grid }
    if l.churnSeen.contains cl then s
    else
      let s := s.modChurn cl fun x => { x with scales := [], scaleByte := [], scaleRead := [], stepByte := [] }
      let s := s.setGroup (churnKey cl) (startGroup .churn l l.packet.chcDesc d 1#32 0 s.nextId)
      { s.setLaunch grid { l with churnSeen := l.churnSeen ++ [cl], churnLeft := l.churnLeft ++ [cl] } with
        nextId := s.nextId + 1 }

/-- A team placed on a core that can take it. -/
def State.placeTeam (s : State) (core : Nat) (x : TeamOrder) : State :=
  match s.launch? x.grid with
  | none => s
  | some l =>
    let t := s.nextId
    let frame := (s.freeFrame x.grid l).getD 0
    let team : Team :=
      { grid := x.grid, index := x.index, core := core, ctx := l.ctx, ngrp := x.kernel.groups
        producers := x.kernel.producers, deepSize := x.kernel.deep, mirror := x.kernel.mirror, frame := frame, age := t
        bars := Vector.replicate 8 Barrier.closed, cbs := Vector.replicate 8 ByteBarrier.zero, nteam := x.nteam
        node := x.node, nrec := BitVec.ofNat 32 x.records.length, swap := .resident, ready := false, saved := []
        ended := false }
    let s := ({ s with nextId := t + 1 } : State).setTeam t team
    let s := s.seat core (x.groups l t frame t)
    let l := { l with teams := l.teams + 1, moveNs := s.ns, startNs := if l.teams = 0 then s.ns else l.startNs }
    (s.setLaunch x.grid l).startController (core / 4) x.grid l

/-- The core of a cluster with the most free group slots among those that can take an order; a tie goes to the lower
(spec/09 R229). -/
def State.bestCore (s : State) (cl : Nat) (x : TeamOrder) : Option Nat :=
  ((List.range 4).map (4 * cl + ·)).foldl (fun (m : Option Nat) c =>
    if !s.coreTakes c x then m
    else match m with
      | none => some c
      | some d => if s.freeSlots d < s.freeSlots c then some c else m) none

/-- The teams of the unit at the low end of a range (spec/09 R219, R229): a launch without a cluster width counts
teams. -/
def rangeOrders (l : Launch) (r : TeamRange) : List TeamOrder :=
  let w := if l.packet.cwidth < 2 then 1 else l.packet.cwidth
  let n := if l.packet.type = 2 then 1 else l.packet.nteam
  (List.range w).map fun i =>
    ⟨r.grid, l.packet.desc, l.desc, BitVec.ofNat 32 (r.lo * w + i), BitVec.ofNat 32 n, 0xFFFFFFFF#32, []⟩

/-- A range with its low end taken; an empty one goes. -/
def takeLow (r : TeamRange) (rs : List TeamRange) : List TeamRange :=
  (rs.map fun x => if x = r then { x with lo := x.lo + 1 } else x).filter fun x => x.lo < x.hi

/-- May a cluster's distributor work for a launch? -/
def State.serves (s : State) (cl grid : Nat) (l : Launch) : Bool :=
  !l.done && s.runsOn l.ctx cl && s.controllerFree cl grid l

/-- Every team of a unit placed, team i on core i of the cluster, when every one can be; frames are taken in turn. -/
def State.placeUnit (s : State) (cl : Nat) (xs : List TeamOrder) : Option State :=
  (xs.zipIdx).foldl (fun (m : Option State) x => match m with
    | none => none
    | some s => if s.coreTakes (4 * cl + x.2) x.1 then some (s.placeTeam (4 * cl + x.2) x.1) else none) (some s)

/-- The low end of a range placed on its cluster, where it can be. -/
def State.placeRange (s : State) (r : TeamRange) : Option State :=
  match s.launch? r.grid with
  | none => none
  | some l =>
    if !s.serves r.cluster r.grid l then none
    else
      let s' : State := { s with ranges := takeLow r s.ranges }
      match rangeOrders l r with
      | [x] => (s.bestCore r.cluster x).map fun c => s'.placeTeam c x
      | xs => s'.placeUnit r.cluster xs

/-- The order for a team a Rennet has launched: %team = 8 n + %die (spec/09 R218). -/
def State.rennetOrder (s : State) (d : Nat) (t : RennetTeam) : Option TeamOrder :=
  (s.nodeRec t.grid t.node).map fun n =>
    ⟨t.grid, n.desc, n.kernel, BitVec.ofNat 32 (8 * (t.number % 2 ^ 29) + d), 0#32, BitVec.ofNat 32 t.node, t.records⟩

/-- A Rennet's team placed on a cluster of its die; its records leave the store. -/
def State.placeRennet (s : State) (cl : Nat) (t : RennetTeam) : Option State :=
  let d := cl / 8
  match s.launch? t.grid, s.rennetOrder d t with
  | some l, some x =>
    if !s.serves cl t.grid l then none
    else (s.bestCore cl x).map fun c =>
      let y := s.die d
      (s.placeTeam c x).setDie d { y with toPlace := y.toPlace.erase t }
  | _, _ => none

/-- What a cluster's distributor could place: its ranges, then the teams its die's Rennet has launched (log 29). -/
def State.nextPlacement (s : State) (cl : Nat) : Option State :=
  match (s.ranges.filter fun r => r.cluster = cl).findSome? s.placeRange with
  | some t => some t
  | none => (s.die (cl / 8)).toPlace.findSome? (s.placeRennet cl)

/-- TEAM_PLACE. -/
def State.teamPlace (s : State) (cl : Nat) : State :=
  match s.nextPlacement cl with
  | some t => acceptHeld 32 (cl / 8) t
  | none => s

/-! ## Ranges (spec/09 R229, R230) -/

/-- Consecutive subranges of [lo, hi) for `n` receivers: sizes differ by at most one, the larger first. -/
def divide (lo hi n : Nat) : List (Nat × Nat) :=
  let size := hi - lo
  (List.range n).map fun i =>
    let start (k : Nat) := lo + k * (size / n) + min k (size % n)
    (start i, start (i + 1))

/-- The clusters of a partition on a die, in rising order. -/
def clustersOn (part : BitVec 64) (d : Nat) : List Nat :=
  ((List.range 8).map (8 * d + ·)).filter fun c => part.getLsbD c

/-- A range divided among clusters. -/
def rangesFor (grid lo hi : Nat) (cls : List Nat) : List TeamRange :=
  ((divide lo hi cls.length).zip cls).filterMap fun x =>
    if x.1.1 < x.1.2 then some ⟨grid, x.2, x.1.1, x.1.2⟩ else none

/-- A launch's index range handed down: dies, then clusters. -/
def distribute (grid n : Nat) (part : BitVec 64) : List TeamRange :=
  let dies := (List.range 8).filter fun d => !(clustersOn part d).isEmpty
  ((divide 0 n dies.length).zip dies).flatMap fun x => rangesFor grid x.1.1 x.1.2 (clustersOn part x.2)

/-- The largest range of at least two among some, a tie going to the earlier. -/
def largestRange (rs : List TeamRange) : Option TeamRange :=
  rs.foldl (fun (m : Option TeamRange) r =>
    if r.hi - r.lo < 2 then m
    else match m with
      | none => some r
      | some x => if x.hi - x.lo < r.hi - r.lo then some r else m) none

/-- The upper half of a range taken from it. -/
def splitRange (r : TeamRange) : TeamRange × (Nat × Nat) :=
  let mid := r.lo + (r.hi - r.lo + 1) / 2
  ({ r with hi := mid }, (mid, r.hi))

/-- Ranges with one replaced and others added, in rising cluster. -/
def swapRange (rs : List TeamRange) (old new : TeamRange) (more : List TeamRange) : List TeamRange :=
  (rs.map fun x => if x = old then new else x) ++ more

/-- Launches in dispatch order that a cluster with no range left of them could serve. -/
def State.stealable (s : State) (cl : Nat) : List Nat :=
  (s.launches.filter fun l => s.serves cl l.1 l.2 && !(s.ranges.any fun r => r.grid = l.1 && r.cluster = cl)).map (·.1)

/-- What a cluster's distributor could steal of a launch: from its die's clusters, else its die distributor from another
die's, divided among the die's clusters of the partition that hold nothing. -/
def State.steal (s : State) (cl grid : Nat) : Option State :=
  let mine := sortBy (s.ranges.filter fun r => r.grid = grid) fun a b => a.cluster ≤ b.cluster
  let d := cl / 8
  let part := match s.launch? grid with
    | some l => match s.context l.ctx with
      | some c => c.part
      | none => 0#64
    | none => 0#64
  match largestRange (mine.filter fun r => r.cluster / 8 = d && r.cluster != cl) with
  | some r =>
    let (kept, lo, hi) := splitRange r
    some { s with ranges := swapRange s.ranges r kept [⟨grid, cl, lo, hi⟩] }
  | none => match largestRange (mine.filter fun r => r.cluster / 8 != d) with
    | none => none
    | some r =>
      let (kept, lo, hi) := splitRange r
      let idle := (clustersOn part d).filter fun c => !mine.any fun x => x.cluster = c
      some { s with ranges := swapRange s.ranges r kept (rangesFor grid lo hi idle) }

/-- Could a cluster place a team of a launch if it held a range of it? -/
def State.couldPlace (s : State) (cl grid : Nat) : Bool :=
  match s.launch? grid with
  | none => false
  | some l => match rangeOrders l ⟨grid, cl, 0, 1⟩ with
    | [x] => (s.bestCore cl x).isSome
    | xs => (s.placeUnit cl xs).isSome

/-- DISTRIBUTOR_STEAL. -/
def State.distributorSteal (s : State) (cl : Nat) : State :=
  match (s.stealable cl).findSome? (fun g => if s.couldPlace cl g then s.steal cl g else none) with
  | some t => t
  | none => s

/-- TEAM_PLACE (spec/09 R229). -/
def execTeamPlace (cluster : Nat) (s : State) : Host.Outcome State Fault Refusal := .next (s.teamPlace cluster)
/-- DISTRIBUTOR_STEAL (spec/09 R230). -/
def execDistributorSteal (cluster : Nat) (s : State) : Host.Outcome State Fault Refusal :=
  .next (s.distributorSteal cluster)

end Sys2Proof.Machine
end

