-- ==== Sys2Proof/Machine/Ending.lean ====
section
/-! DEFINITION. How groups and teams leave (spec/02 R43, spec/09 R225, R232): releasing a slot, ending a team. -/

namespace Sys2Proof.Machine

/-! ## Releasing a slot -/

/-- Does an operation go on though its team has ended: it has left the core, or it stores, is past its fault point and
is not held (spec/07 R147, spec/09 R225)? -/
def State.outlives (s : State) (o : Op) : Bool :=
  o.left || (o.walked && (match o.kind with
    | .store _ _ | .atom _ _ _ _ | .red _ _ _ _ | .rst | .ratom _ _ | .xend => true
    | _ => false) && !s.ops.any fun p => p.2.group = o.group && p.2.seq < o.seq && !p.2.pastFault)

/-- Operations of a group that end with its team. -/
def State.dropHeld (s : State) (key : Nat) : State :=
  { s with ops := s.ops.filter fun p => !(p.2.group = key && !s.outlives p.2) }

/-- A group leaves the machine. -/
def State.removeGroup (s : State) (key : Nat) : State :=
  State.syncPool { s with
    groups := mapDel s.groups key
    ops := s.ops.filter fun p => p.2.group != key } (partOf key)

/-- The stores a group leaves in flight as it releases its slot go on under a key of their own, with what they need of the
group: its context and, in `team`, its launch, which completes after them (spec/02 R43; log 22). -/
def State.leaveStores (s : State) (key : Nat) : State :=
  if !(s.ops.any fun p => p.2.group = key && p.2.kind.goesOn) then s
  else
    let g := s.group key
    let k := ghostKey s.nextId key
    let ghost : Group := { Group.blank with engine := .circuit, ctx := g.ctx, team := s.gridOf key, exited := 0xFFFFFFFF#32 }
    { s with
      nextId := s.nextId + 1
      groups := mapSet s.groups k ghost
      ops := s.ops.map fun p =>
        if p.2.group = key && p.2.kind.goesOn then (p.1, { p.2 with group := k, flag := 0 }) else p }

/-- A group of a partition releases its slot; with its team's last the team ends. -/
def State.releaseSlot (s : State) (key : Nat) : State :=
  let g := s.group key
  let s := (s.leaveBatches g (s.gridOf key)).leaveStores key
  let s := s.removeGroup key
  let saved := match s.team? g.team with
    | some t => t.saved
    | none => []
  if (s.teamGroups g.team).isEmpty && saved.isEmpty then s.soon (.teamEnd g.team 0#16) else s

/-- The last store of a group that has released its slot has performed. -/
def State.releaseGhost (s : State) (key : Nat) : State :=
  let grid := (s.group key).team
  ({ s with groups := mapDel s.groups key } : State).checkLaunch grid

/-- A controller's program has exited: its launch may complete (spec/14 R270, R272). -/
def State.releaseController (s : State) (key : Nat) : State :=
  let cl := clusterOf key
  let grid := (s.cluster (churnIx key)).churn.grid
  let s := { s with groups := mapDel s.groups key }
  match grid with
  | none => s
  | some grid =>
    let s := match s.launch? grid with
      | some l => s.setLaunch grid { l with churnLeft := l.churnLeft.filter (· != cl) }
      | none => s
    (s.freeController (churnIx key)).checkLaunch grid

/-- A script's last lane has exited: its packet completes, and held scripts are offered (spec/14 R270, spec/17 R333). -/
def State.releaseScript (s : State) (key : Nat) : State :=
  let grid := (s.group key).team
  let s := { s with groups := mapDel s.groups key }
  let s := match s.launch? grid with
    | some l => s.setLaunch grid { l with counter := 0 }
    | none => s
  (s.checkLaunch grid).later .scriptHeldStart

/-- GROUP_SLOT_RELEASE: a group whose lanes have all exited, with its flags set and nothing in flight but queued
macro-operations. -/
def State.groupRelease (s : State) (key : Nat) : State :=
  match mapGet? s.groups key with
  | none => s
  | some g =>
    if !(g.done && g.flagsSet)
        || s.ops.any fun p => p.2.group == key && p.2.kind != .churnOp && (p.2.keepsSlot || isGhost key) then s
    else if isGhost key then s.releaseGhost key
    else match g.engine with
    | .partition => s.releaseSlot key
    | .churn => if s.ops.any fun p => p.2.group == key && !g.halted then s else s.releaseController key
    | .circuit => s.releaseScript key
    | .command => { s with groups := mapDel s.groups key }

/-! ## Ending a team (spec/09 R225) -/

/-- The keys of a team's groups in the machine. -/
def State.teamKeys (s : State) (t : Nat) : List Nat := (s.teamGroups t).map (·.1)

/-- The feed slots that a team leaves unfilled are freed, and its claims on tiles given up. -/
def Churn.leaveTeam (c : Churn) (keys : List Nat) : Churn :=
  { c with
    feed := c.feed.filter fun x => x.full || !keys.contains x.group
    drain := c.drain.map fun d => match d.claim with
      | some (g, _) => if keys.contains g then { d with claim := none } else d
      | none => d }

/-- The Churn where a team's groups fed and drained. -/
def churnsOf (keys : List Nat) (core : Nat) : List Nat :=
  ((core / 4) :: keys.map churnIx).eraseDups

/-- A team that ends has stopped issuing and drops its held accesses; its first error is kept. -/
def State.beginEnd (s : State) (t : Nat) (x : Team) (code : BitVec 16) : State :=
  let s := if x.ended then s else s.launchError x.grid code
  let queued := if x.ended then x.macros else ((churnsOf (s.teamKeys t) x.core).flatMap fun i =>
    if (s.cluster i).churn.grid = some x.grid then (s.cluster i).churn.macros.map (·.op) else [])
  let s := s.setTeam t { x with ended := true, macros := queued }
  let s : State := { s with groups := s.groups.map fun (p : Nat × Group) =>
    (p.1, if p.2.engine = .partition && p.2.team = t then { p.2 with halted := true } else p.2) }
  (s.teamKeys t).foldl State.dropHeld s

/-- A team's slots are released, its launch counts it, and barriers that waited for it are looked at again. -/
def State.finishEnd (s : State) (t : Nat) (x : Team) : State :=
  let keys := s.teamKeys t
  let s := (churnsOf keys x.core).foldl (fun (s : State) i => s.modChurn i fun c => c.leaveTeam keys) s
  let gone := (s.teamGroups t).map (·.2) ++ x.saved.map (·.2)
  let s : State := { s with teams := mapDel s.teams t }
  let s := keys.foldl State.removeGroup s
  let s := gone.foldl (fun (s : State) g => s.leaveBatches g x.grid) s
  let s := (s.barCheck (.cluster (x.core / 4) x.grid)).barCheck (.die (x.core / 32) x.grid)
  let s := s.launchEvent 0x03 x.grid
  let s := (churnsOf keys x.core).foldl State.freeController (s.count x.grid (-1))
  s.checkLaunch x.grid

/-- Must a team that has ended still keep its slots: an access of it that has left its core is in flight, or, while it has
groups, a copy of it that the Pail has accepted or a macro-operation that was queued as it ended (spec/09 R225)? -/
def State.endOwes (s : State) (t : Nat) (x : Team) : Bool :=
  let keys := s.teamKeys t
  (s.ops.any fun p => keys.contains p.2.group)
    || (!(keys.isEmpty && x.saved.isEmpty)
      && ((s.copies.any fun c => c.2.team = t) || s.clusters.any fun p => p.2.churn.macros.any fun m => x.macros.contains m.op))

/-- TEAM_END: the first event stops the team; once it owes nothing, its slots are released. -/
def State.teamEnd (s : State) (t : Nat) (code : BitVec 16) : State :=
  match s.team? t with
  | none => s
  | some x =>
    let s := s.beginEnd t x code
    let x := (s.team? t).getD x
    if s.endOwes t x then s else s.finishEnd t x

/-- TEAM_END (spec/09 R225, R232). -/
def execTeamEnd (team : Nat) (code : BitVec 16) (s : State) : Host.Outcome State Fault Refusal := .next (s.teamEnd team code)
/-- GROUP_SLOT_RELEASE (spec/02 R43). -/
def execGroupSlotRelease (group : Nat) (s : State) : Host.Outcome State Fault Refusal := .next (s.groupRelease group)

end Sys2Proof.Machine
end

