-- ==== Sys2Proof/Machine/Activation.lean ====
section
/-! DEFINITION. The activation controllers of a core (spec/10 R234, R237-R240). -/

namespace Sys2Proof.Machine

/-- BOOST_DECAY (spec/10 R234). -/
def State.boostDecay (s : State) (key : Nat) : State :=
  s.modGroup key fun g => { g with lease := { g.lease with boost := g.lease.boost - 64 } }

/-- Is a group protected from deactivation (spec/10 R240)? -/
def State.protects (s : State) (g : Group) : Bool := s.ns < g.lease.protectedUntil

/-- The active groups of a core that may be deactivated, youngest first. -/
def State.canDeactivate (s : State) (core : Nat) : List Nat :=
  (((s.coreByAge core).filter fun p => p.2.lease.act = .active && !s.protects p.2).map (·.1)).reverse

/-- Active groups of a core. -/
def State.activeCount (s : State) (core : Nat) : Nat :=
  ((s.coreGroups core).filter fun p => p.2.lease.act = .active).length

/-- Groups deactivated in turn until S ≤ B or one active group remains (spec/10 R238). -/
def trimOverrun (core : Nat) : List Nat → State → State
  | [], s => s
  | k :: t, s =>
    if s.leaseSum core ≤ s.leaseBudget core || s.activeCount core ≤ 1 then s
    else trimOverrun core t (s.modGroup k fun g => g.deactivate s.ns)

/-- LEASE_OVERRUN_DEACTIVATE (spec/10 R238). -/
def State.leaseOverrun (s : State) (core : Nat) : State := trimOverrun core (s.canDeactivate core) s

/-- Groups deactivated in turn for a forced one until S ≤ B (spec/10 R240). -/
def trimForced (core : Nat) : List Nat → State → State
  | [], s => s
  | k :: t, s =>
    if s.leaseSum core ≤ s.leaseBudget core then s
    else trimForced core t (s.modGroup k fun g =>
      { g with lease := { g.lease with act := .inactive, inactiveSince := s.ns } })

/-- Force(g) (spec/10 R240). -/
def State.force (s : State) (core key : Nat) : State :=
  let s := s.modGroup key fun g => { g.activate with lease := { g.activate.lease with protectedUntil := s.ns + 10000 } }
  trimForced core (s.canDeactivate core) s

/-- Inactive groups of a core in age order. -/
def State.inactive (s : State) (core : Nat) : List (Nat × Group) :=
  (s.coreByAge core).filter fun p => p.2.lease.act = .inactive

/-- Has a group still to arrive at a barrier? -/
def State.stillToArrive (s : State) (at_ : BarAt) (g : Group) : Bool :=
  let x := s.barrier at_
  !(x.isOpen && x.arrived.contains (partyOf at_ g)) && !(g.executedBar at_.slot != 0#32 && g.reachedBar at_.slot)

/-- Does a group of its team, held at a BAR, BARC or BARD that the group has still to arrive at, need it? -/
def State.needed (s : State) (key : Nat) (g : Group) : Bool :=
  !g.done && (s.barsOf key).any fun at_ => s.stillToArrive at_ g
    && (s.teamGroups g.team).any fun p => s.heldAtBar at_ p.2

/-- Would a group's lease fit under a limit? -/
def State.leaseFits (s : State) (core key limit : Nat) : Bool :=
  s.leaseSum core + (s.group key).lease.active ≤ limit

/-- The barrier pass of an evaluation. -/
def barrierPass (core : Nat) : List Nat → State → State
  | [], s => s
  | k :: t, s =>
    if (s.group k).lease.recentlyOff then barrierPass core t s
    else if s.leaseFits core k (s.leaseBudget core) then barrierPass core t (s.modGroup k Group.activate)
    else barrierPass core t s

/-- The last pass of an evaluation: it stops at the first group that does not fit. -/
def agePass (core : Nat) : List Nat → State → State
  | [], s => s
  | k :: t, s =>
    if (s.group k).lease.recentlyOff then s
    else if s.leaseFits core k (s.leaseBudget core - s.leaseBudget core / 8) || s.activeCount core = 0 then
      agePass core t (s.modGroup k Group.activate)
    else s

/-- Inactive groups that have been so for 100 µs, the longest first. -/
def State.overdue (s : State) (core : Nat) : List Nat :=
  (sortBy ((s.inactive core).filter fun p => p.2.lease.inactiveSince + 100000 ≤ s.ns)
    fun a b => a.2.lease.inactiveSince ≤ b.2.lease.inactiveSince).map (·.1)

/-- ACTIVATION_EVALUATE (spec/10 R239). -/
def State.activationEvaluate (s : State) (core : Nat) : State :=
  let s := (s.overdue core).foldl (fun (s : State) k => s.force core k) s
  let wanted := ((s.inactive core).filter fun p => s.needed p.1 p.2).map (·.1)
  let s := barrierPass core wanted s
  let others := ((s.inactive core).map (·.1)).filter fun k => !wanted.contains k
  let s := agePass core others s
  ((s.coreGroups core).map (·.1)).foldl (fun (s : State) k => s.modGroup k fun g =>
    { g with lease := { g.lease with recentlyOff := false } }) s

/-- PROTECTION_EXPIRY (spec/10 R240): the sum is tested again. -/
def State.protectionExpiry (s : State) (key : Nat) : State :=
  let g := s.group key
  if g.lease.protectedUntil = 0 || s.protects g then s
  else (s.modGroup key fun g => { g with lease := { g.lease with protectedUntil := 0 } }).checkOverrun (coreOf key)

/-- DORMANT_ENTRY (spec/10 R237): a group that has waited for 1,024 consecutive cycles, at a stop of the debugger too
(spec/21 R380). -/
def State.dormantEntry (s : State) (key : Nat) : State :=
  match (s.group key).wait with
  | some w =>
    if w.cycle + 1024 ≤ s.now then s.modGroup key fun g => { g with lease := { g.lease with act := .dormant } } else s
  | none => s

/-- BOOST_DECAY (spec/10 R234). -/
def execBoostDecay (group : Nat) (s : State) : Host.Outcome State Fault Refusal := .next (s.boostDecay group)
/-- LEASE_OVERRUN_DEACTIVATE (spec/10 R238). -/
def execLeaseOverrunDeactivate (core : Nat) (s : State) : Host.Outcome State Fault Refusal := .next (s.leaseOverrun core)
/-- ACTIVATION_EVALUATE (spec/10 R239). -/
def execActivationEvaluate (core : Nat) (s : State) : Host.Outcome State Fault Refusal := .next (s.activationEvaluate core)
/-- PROTECTION_EXPIRY (spec/10 R240). -/
def execProtectionExpiry (group : Nat) (s : State) : Host.Outcome State Fault Refusal := .next (s.protectionExpiry group)
/-- DORMANT_ENTRY (spec/10 R237). -/
def execDormantEntry (group : Nat) (s : State) : Host.Outcome State Fault Refusal := .next (s.dormantEntry group)

end Sys2Proof.Machine
end

