-- ==== Sys2Proof/Machine/Swap.lean ====
section
/-! DEFINITION. The wait-swap of teams (spec/09 R226-R228, spec/10 R241, spec/15 R297). -/

namespace Sys2Proof.Machine

/-- Bytes that a save of a group takes; the spec lists what is saved and gives no layout (log 30). -/
def Group.saveBytes (g : Group) (deep : Nat) : Nat :=
  128 * g.x.length + 2048 + 128 * deep + 256 + 28 + 4 + 16 * 8 + 16 + 32 * 66 + 12 * g.table.length
    + 12 * g.parked.length + 12 * g.waiting.length + 64

/-- Bytes that a save of a team takes. -/
def State.saveBytes (s : State) (t : Nat) (x : Team) : Nat :=
  (s.teamGroups t).foldl (fun n p => n + p.2.saveBytes x.deepSize) 0

/-- Has a group waited without a break for longer than some ns? -/
def Group.waitedPast (g : Group) (now ns : Nat) : Bool := match g.wait with
  | some w => w.startNs + ns < now
  | none => false

/-- Is an operation one that only waits? -/
def OpKind.waitsOnly : OpKind → Bool
  | .barWait _ | .barArrive _ | .barcWait | .bardWait | .joinWait _ | .cbwait _ | .twait _ | .wwait _ _ => true
  | _ => false

/-- Does an outstanding copy land in a team's deep window (spec/08 R190)? -/
def State.copyLandsIn (s : State) (t : Nat) : Bool :=
  s.copies.any fun p => p.2.shape.dkind && p.2.teams.contains t

/-- Teams of a context on a cluster that are out or on their way. -/
def State.swappedOut (s : State) (ctx cl : Nat) : Nat :=
  (s.teams.filter fun t => t.2.ctx = ctx && t.2.core / 4 = cl && t.2.swap != .resident).length

/-- May a team be chosen for the wait-swap? Nothing of it but waits is in flight (log 31). -/
def State.mayLeave (s : State) (t : Nat) (x : Team) : Bool :=
  match s.context x.ctx with
  | none => false
  | some c =>
    let gs := s.teamGroups t
    x.swap == .resident && !x.ended && !gs.isEmpty && gs.all (fun p => !isOut p.1 && !p.2.halted)
      && gs.all (fun p => p.2.done || p.2.waitedPast s.ns (c.wthresh * 1000))
      && gs.any (fun p => !p.2.done)
      && gs.all (fun p => p.2.flagsSet)
      && !s.copyLandsIn t
      && s.ops.all (fun o => !(gs.any fun p => p.1 = o.2.group) || o.2.kind.waitsOnly || o.2.ackLost.isSome)
      && s.swappedOut x.ctx (x.core / 4) < 64
      && s.saveBytes t x ≤ c.teamSave

/-- The lowest slot of a cluster's save area that no team of the context holds. -/
def State.freeSaveSlot (s : State) (ctx cl : Nat) : Nat :=
  let held := (s.teams.filter fun t => t.2.ctx = ctx && t.2.core / 4 = cl && t.2.swap != .resident).map fun t => t.2.saveSlot
  ((List.range 64).find? fun i => !held.contains i).getD 0

/-- WAIT_SWAP_CHECK: each team of a partition that may leave begins its save, on a halted die too, where the wait clocks
run on (spec/18 R355). -/
def State.waitSwapCheck (s : State) (part : Nat) : State :=
  (s.partTeams part).foldl (fun (s : State) t => match s.team? t with
    | none => s
    | some x =>
      if s.mayLeave t x then s.setTeam t { x with
          swap := .saving (s.ns + 1000 + s.saveBytes t x / 100)
          saveSlot := s.freeSaveSlot x.ctx (x.core / 4) } else s) s

/-- A group as it is saved: latches emptied, filter entries dropped. -/
def Group.saved (g : Group) : Group :=
  { g with
    lat := Vector.replicate 32 Latch.empty
    ulat := Latch.empty
    lease := { g.lease with filter := [] } }

/-- Operations of a group given another key. -/
def rekeyOps (old new : Nat) (ops : List (Nat × Op)) : List (Nat × Op) :=
  ops.map fun p => if p.2.group = old then (p.1, { p.2 with group := new }) else p

/-- A feed slot and a drain tile that await the replay of a group follow it to its new key (spec/08 R191, R194). -/
def Churn.rekey (c : Churn) (old new : Nat) : Churn :=
  { c with
    feed := c.feed.map fun x => if x.group = old then { x with group := new } else x
    drain := c.drain.map fun d => { d with claim := d.claim.map fun x => if x.1 = old then (new, x.2) else x } }

/-- A group's operations, and what its cluster's Churn keeps for it, given another key. -/
def State.rekeyGroup (s : State) (cl old new : Nat) : State :=
  { s.setCluster cl { s.cluster cl with churn := (s.cluster cl).churn.rekey old new } with ops := rekeyOps old new s.ops }

/-- WAIT_SWAP_SAVE_END: the team's slots and registers go free. -/
def State.waitSwapSaveEnd (s : State) (t : Nat) : State :=
  match s.team? t with
  | none => s
  | some x => match x.swap with
    | .saving e =>
      if s.ns < e then s
      else
        let gs := s.teamGroups t
        let s := match s.context x.ctx with
          | some c => s.writeSave (c.saveArea (x.core / 4) + imageBytes + x.saveSlot * c.teamSave) c.teamSave
          | none => s
        let s := s.setTeam t { x with
          swap := .out
          saved := gs.map fun p => (parkedKey (groupParty p.2) p.1, p.2.saved) }
        gs.foldl (fun (s : State) p =>
          let s := s.rekeyGroup (x.core / 4) p.1 (parkedKey (groupParty p.2) p.1)
          State.syncPool { s with groups := mapDel s.groups p.1 } (partOf p.1)) s
    | .resident | .out => s

/-! ## Returning (spec/09 R228) -/

/-- Is the condition of a group that waits met? -/
def State.conditionMet (s : State) (t : Nat) (key : Nat) (g : Group) : Bool :=
  let ops := (s.ops.filter fun p => p.2.group = key).map (·.2)
  match g.wait with
  | none => !g.done
  | some w => match w.kind with
    | .bar | .barc | .bard => false
    | .cbwait => ops.any fun o => match o.kind with
      | .cbwait b => (s.byteBar t b).passes
      | _ => false
    | .twait => (ops.any fun o => match o.kind with
        | .twait n => g.outstanding ≤ n
        | _ => false)
      || s.copies.any fun p => p.2.group = groupParty g && p.2.shape.clbEn && !p.2.started
          && (s.clbState p.2.shape.clb = 1 || s.clbState p.2.shape.clb = 2)
    | .wwait => ops.any fun o => match o.kind with
      | .wwait _ _ => o.acting.all (·.bound)
      | _ => false
    | .fault => g.fault.isNone
    | .stop => g.stop.isNone

/-- Is a team that has been chosen ready to return: a condition of its groups holds, or has held (spec/09 R228)? -/
def State.mayReturn (s : State) (t : Nat) (x : Team) : Bool :=
  x.ready || (x.saved ++ s.teamGroups t).any fun p => s.conditionMet t p.1 p.2

/-- The word waits of a group that is out read again on its team's die (spec/09 R228). -/
def State.watchWords (s : State) (die key : Nat) : State :=
  { s with ops := s.ops.map fun p => match p.2.kind with
    | .wwait cond operands =>
      if p.2.group != key || !p.2.walked then p
      else (p.1, { p.2 with acc := p.2.acc.map fun a =>
        if a.skip || a.bound || s.poisonAt a.paNat then a else a.sawWord cond operands (s.waitWord die a) })
    | _ => p }

/-- The conditions of teams that have been chosen watched: one that holds for a moment makes its team ready (spec/09
R228). -/
def State.watchOut (s : State) : State :=
  s.teams.foldl (fun (s : State) t =>
    if t.2.swap == .resident || t.2.ended then s
    else
      let s := t.2.saved.foldl (fun (s : State) p => s.watchWords (t.2.core / 32) p.1) s
      if !t.2.ready && s.mayReturn t.1 t.2 then s.setTeam t.1 { t.2 with ready := true } else s) s

/-- A map entry given fresh indices; `ren` lists old and new indices. -/
def renewEntry (used : List Nat) (mirror : Bool) (e : MapEntry) : List Nat × MapEntry × List (Nat × Nat) :=
  match pickPhys used mirror with
  | some ps => (ps ++ used, { e with phys := ps }, (e.phys.head?.map fun p => ps.map fun q => (p, q)).getD [])
  | none => (used, e, [])

/-- Fresh indices for every register a group holds (spec/03 R61, spec/09 R228). -/
def State.renewGroup (s : State) (part : Nat) (g : Group) : Group × List (Nat × Nat) :=
  let m := s.mirrored g
  let (used, x, ren) := g.x.foldl (fun (a : List Nat × List (Nat × MapEntry) × List (Nat × Nat)) e =>
    let (used, e', r) := renewEntry a.1 (m e.1) e.2
    (used, a.2.1 ++ [(e.1, e')], a.2.2 ++ r)) (s.poolUsed part, [], [])
  let (_, pend, ren) := g.pending.foldl (fun (a : List Nat × List PendingRelease × List (Nat × Nat)) p =>
    let (used, e', r) := renewEntry a.1 (m p.name) p.entry
    (used, a.2.1 ++ [{ p with entry := e' }], a.2.2 ++ r)) (used, [], ren)
  ({ g with x := x, pending := pend }, ren)

/-- Targets of results in flight follow the renaming. -/
def renameTargets (key : Nat) (ren : List (Nat × Nat)) (ops : List (Nat × Op)) : List (Nat × Op) :=
  let follow (ts : List (Nat × LaneMask)) : List (Nat × LaneMask) :=
    ts.flatMap fun t => (ren.filter fun x => x.1 = t.1).map fun x => (x.2, t.2)
  ops.map fun p =>
    if p.2.group != key then p
    else (p.1, { p.2 with res := p.2.res.map fun r => { r with targets := r.targets.map follow } })

/-- A saved group seated in a slot: fresh registers, a new epoch, its wait's clock restarted, dormant until tested. -/
def State.seatSaved (s : State) (core occ : Nat) (p : Nat × Group) : State :=
  let part := 4 * core + p.2.grp % 4
  match s.slotIn part with
  | none => s
  | some key =>
    let (g, ren) := s.renewGroup part p.2
    let g := g.nextEpoch
    let g := { g with
      occ := occ
      wait := g.wait.map fun w => { w with cycle := s.now, startNs := s.ns }
      lease := { g.lease with act := .dormant } }
    let s := s.rekeyGroup (core / 4) p.1 key
    let s : State := { s with ops := renameTargets key ren s.ops }
    (s.setGroup key g).syncPool part

/-- A group back in its slot goes on where its wait has ended: its barriers' instructions complete, and the acquire of a
barrier it has passed while out refreshes its core's L1 (spec/07 R175, spec/11 R260). -/
def State.resumeGroup (s : State) (key : Nat) : State :=
  let passed := (s.barsOf key).filter fun at_ =>
    s.ops.any fun p => p.2.group = key && barOps at_.place p.2.kind && p.2.active &&& (s.group key).waitingMask at_.place = 0#32
  let s := passed.foldl (fun (s : State) at_ => s.endBarOps at_ key) s
  let s := if passed.isEmpty then s else s.refreshL1 (coreOf key)
  if (s.waitOf key).isNone then (s.modGroup key fun g => { g with wait := none }).leaveDormant key else s.syncWait key

/-- TEAM_RETURN: a team whose condition holds is placed again on the core it left, as the youngest. -/
def State.teamReturn (s : State) (t : Nat) : State :=
  match s.team? t with
  | none => s
  | some x =>
    if x.swap != .out || x.ended || !s.mayReturn t x || !s.runsOn x.ctx (x.core / 4) then s
    else if !s.fitsCore x.core x.deepSize t (x.saved.map (·.2)) then s
    else
      let n := s.nextId
      let s := ({ s with nextId := n + 1 } : State).setTeam t
        { x with swap := .resident, ready := false, saved := [], age := n }
      let s := x.saved.foldl (fun (s : State) p => s.seatSaved x.core n p) s
      let keys := (s.teamGroups t).map (·.1)
      let s := keys.foldl State.resumeGroup s
      let s := (List.range 8).foldl (fun (s : State) b => s.cbCheck t b) s
      keys.foldl (fun (s : State) k => s.checkBarriers k) s

/-- WAIT_SWAP_CHECK (spec/09 R226). -/
def execWaitSwapCheck (part : Nat) (s : State) : Host.Outcome State Fault Refusal := .next (s.waitSwapCheck part)
/-- WAIT_SWAP_SAVE_END (spec/09 R227). -/
def execWaitSwapSaveEnd (team : Nat) (s : State) : Host.Outcome State Fault Refusal := .next (s.waitSwapSaveEnd team)
/-- TEAM_RETURN (spec/09 R228). -/
def execTeamReturn (team : Nat) (s : State) : Host.Outcome State Fault Refusal := .next (s.teamReturn team)

end Sys2Proof.Machine
end

