-- ==== Sys2Proof/Machine/Complete.lean ====
section
/-! DEFINITION. The later phases of operations in flight: results landing, completion, walks, homes, peers, and lost
acknowledgements (spec/02 R33, spec/03 R63, spec/07 R147-R163, spec/11 R261, R262, spec/15 R300, spec/17 R323). -/

namespace Sys2Proof.Machine

/-! ## Fixed-latency results (spec/03 R63) -/

/-- FIXED_RESULT_WRITEBACK: the result lands once its cycle has come. -/
def State.writeback (s : State) (id : Nat) : State :=
  match mapGet? s.ops id with
  | none => s
  | some o =>
    if s.timeOf o.group < o.due then s
    else match o.kind with
    | .result => (s.landOp o).completeOp id
    | .turn x => (s.modGroup o.group fun g => g.turned o.seq o.lanes x).completeOp id
    | .deepStore cells => ((s.modGroup o.group fun g => g.landDeep o.seq cells).landOp o).completeOp id
    | _ => s

/-! ## Completion (spec/02 R33) -/

/-- The next phase of an access that is past its fault point and may perform. -/
def State.performOp (s : State) (id : Nat) (o : Op) : State :=
  match o.kind with
  | .load signed acq hint => s.performLoad id o signed acq hint
  | .pref hint => s.performPref id o hint
  | .store m _ => if o.left then s.performStore id o m else s.leaveCore id
  | .atom _ _ _ _ => if !o.left then s.leaveCore id else if o.acting.all (·.bound) then s.completeAtom id o else s
  | .red op m _ ty => if o.left then s.performRed id o op m ty else s.leaveCore id
  | .rld | .rst | .ratom _ _ | .ffence => if o.left then s
    else o.acting.foldl (fun (s : State) a => s.sendFlit (a.peer.getD 0)) (s.sendRemote id o)
  | .xend => if o.left then s.performXend id o else s.leaveCore id
  | .wwait cond operands => s.wwaitRead id o cond operands
  | .tcopy step => s.tcopyStep id o step
  | .tfeed _ => s.tfeedStep id o
  | .tdrain => s.tdrainStep id o
  | .emit nodes => s.emitStep id o nodes
  | .enq q => s.enqStep id o q
  | .wsend n _ => s.wsendStep id o n
  | .wrecv n len => s.wrecvStep id o n len
  | _ => s

/-- The next phase of an operation that makes no access. -/
def State.advanceOp (s : State) (id : Nat) (o : Op) : State :=
  match o.kind with
  | .fence sc => s.fenceStep id o sc
  | .fencex first _ => s.fencexStep id o first
  | .drain p m => s.drainStep id o p m
  | .nop => (s.landOp o).completeOp id
  | .cbwait b => s.cbWake id o b
  | .twait n => s.twaitStep id o n
  | .tfeedStab tid => s.tfeedStabStep id o tid
  | .lease v => s.leaseStep id o v
  | .lrel => s.leaseStep id o 0
  | .leasem => s.leasemStep id o
  | .cawait slot seq untilNs => s.cawaitStep id o slot seq untilNs
  | .creq slot => s.creqStep id o slot
  | .crel slot seq => s.crelStep id slot seq
  | .cuse => s.completeOp id
  | .pldrain p begun => s.pldrainStep id o p begun
  | .pljoin p => s.pljoinStep id o p
  | .tmrWait n => s.tmrWaitStep id o n
  | .evtake => s.evtakeStep id o
  | .qlock q => s.qlockStep id o q
  | _ => s

/-- An operation that nothing but a page's migration keeps back has reached the old home: it is held there in its order of
arrival (spec/15 R303). -/
def State.arriveHeld (s : State) (id : Nat) (o : Op) : State :=
  let m := s.migs.filter fun m => !m.moved && !m.heldOps.contains id && o.acting.any fun a => match a.pa with
    | some p => m.keeps p.toNat
    | none => false
  if m.isEmpty || !State.mayPerform { s with migs := [] } o then s
  else { s with migs := s.migs.map fun x => if m.contains x then { x with heldOps := x.heldOps ++ [id] } else x }

/-- VARIABLE_OP_COMPLETE: an operation whose time has come takes its next phase; one that something older keeps back is
tried again. A fixed-latency result, a macro-operation and a party of a barrier end by events of their own. -/
def State.opComplete (s : State) (id : Nat) : State :=
  match mapGet? s.ops id with
  | none => s
  | some o =>
    if s.now < o.due || o.ackLost.isSome || (mapGet? s.groups o.group).isNone then s
    else if o.kind.isAccess then
      if !o.walked then s else if s.mayPerform o then s.performOp id o else ((s.arriveHeld id o).arriveLines id o).redue id
    else s.advanceOp id o

/-- WWAIT_REREAD (spec/07 R177). -/
def State.wwaitReread (s : State) (id : Nat) : State :=
  match mapGet? s.ops id with
  | some o => match o.kind with
    | .wwait cond operands =>
      if o.walked && (mapGet? s.groups o.group).isSome && s.mayPerform o then s.wwaitRead id o cond operands else s
    | _ => s
  | none => s

/-! ## Walks (spec/15 R300) -/

/-- The walk of a fetch: a fault makes the group replayable at the fetched address (spec/02 R22). -/
def State.walkFetch (s : State) (key : Nat) (pc : DWord) : State :=
  match mapGet? s.groups key with
  | none => s
  | some g =>
    let va := g.fetchVa pc
    match s.translate (dieOf key) g.ctx va .fetch with
    | .ok pa k r big => s.tluFill (dieOf key) g.ctx va pa k r big
    | .hold => s
    | .fault c pa => match g.table.find? fun e => e.pc = pc with
      | some e => if g.fault.isSome || s.olderFault key g.seq then s else s.fetchFaults key pc e.lanes c pa
      | none => s

/-- PAGE_WALK. -/
def State.pageWalk (s : State) (who : WalkFor) : State :=
  match who with
  | .op id => match mapGet? s.ops id with
    | some o => if o.walked || (mapGet? s.groups o.group).isNone then s else s.walkOp true id
    | none => s
  | .copy id => match mapGet? s.copies id with
    | some c => if c.fault.isSome then s else walkPiece id c c.pieceVas s
    | none => s
  | .churnOp cl => match (s.churn cl).macros with
    | m :: _ => if m.fault.isSome then s else walkMacro cl m (s.macroVas cl m) s
    | [] => s
  | .fetch key pc => s.walkFetch key pc

/-! ## Homes (spec/07 R158-R160) -/

/-- HOME_ATOMIC_APPLY: poison ends the team, and nothing is written. -/
def State.atomicApply (s : State) (id : Nat) : State :=
  match mapGet? s.ops id with
  | none => s
  | some o => match o.kind with
    | .atom op m _ ty =>
      if !o.left || o.ackLost.isSome || o.acting.all (·.bound) then s
      else if !s.mayPerform o then (s.arriveHeld id o).arriveLines id o
      else
        let now := s.lanesNow o
        if s.opReadsPoison { o with acc := now } then s.consumePoison o.group else s.applyAtoms id o op m ty now
    | _ => s

/-- RED_ENTRY_DRAIN: the entries of a word that may drain do. -/
def State.redDrain (s : State) (pa : Nat) : State :=
  (s.reds.filter fun r => r.pa = pa && r.due ≤ s.now).foldl State.drainRed s

/-! ## Lost acknowledgements (spec/07 R156, R157, spec/11 R261, R262) -/

/-- XEND_ACK_TIMEOUT: 50 µs after its validation the commit is discarded and every lane's transaction aborts with code
2. -/
def State.xendTimeout (s : State) (id : Nat) : State :=
  match mapGet? s.ops id with
  | none => s
  | some o =>
    if o.kind != .xend || !o.left || o.mask = 0#8 || s.ns < o.issueNs + 50000 then s
    else ((lanesOf o.active).foldl (fun (s : State) l => s.abortTx o.group l 2 0) s).finishOp id []

/-- Does an operation wait for its group's earlier stores: a FENCE, a DRAIN or FENCEX, a release (a barrier's arrival
is one, spec/07 R175), a commit? -/
def OpKind.awaitsStores (k : OpKind) : Bool :=
  k.releases.isSome || barHolds k || match k with
  | .fence _ | .fencex _ _ | .drain _ _ | .xend => true
  | _ => false

/-- Is the completion of an EF store awaited: by a later operation of its group, by a DRAIN of its core, or by groups
that a barrier's release has let go on (spec/07 R156, R166, R175)? -/
def State.awaited (s : State) (id : Nat) (o : Op) : Bool :=
  (s.ops.any fun p => (p.2.group = o.group && o.seq < p.2.seq && p.2.kind.awaitsStores)
    || (id < p.1 && sameCore p.2.group o.group && match p.2.kind with
      | .drain _ _ => true
      | _ => false))
    || s.groups.any fun g => g.2.awaits.any fun w => w.2.contains id

/-- Can a store's acknowledgement be lost now: 50 µs since it left its core, an EF store only when it is awaited, and none
that a WAIT has let go on? -/
def State.ackMayBeLost (s : State) (id : Nat) (o : Op) : Bool :=
  o.left && o.ackLost.isNone && !isGhost o.group && (s.group o.group).holdOp != some id && o.issueNs + 50000 ≤ s.ns
    && match o.kind with
  | .store .ga _ | .store .ef (some _) | .atom _ _ _ _ | .red _ _ _ _ => true
  | .store .ef none => s.awaited id o
  | _ => false

/-- MODE of an acknowledgement-lost record. -/
def OpKind.ackMode : OpKind → Nat
  | .store m r => m.code + if r.isSome then 128 else 0
  | .atom _ m _ _ | .red _ m _ _ => m.code + 128
  | _ => 0

/-- The 64 bytes of the record (spec/07 R157). -/
def ackBytes (o : Op) (a : Access) (st : AckState) (g : Group) (timer : DWord) : List Byte :=
  let (n, m) := match st with
    | .noRecord => (0, 0)
    | .held m => (1, m.toNat)
    | .done => (2, 0)
  leBytes 10 a.va.toNat ++ leBytes 2 0 ++ leBytes 1 n ++ leBytes 1 m ++ leBytes 1 o.kind.ackMode ++ leBytes 1 a.size
    ++ leBytes 8 a.paNat ++ leBytes 16 a.data.toNat ++ leBytes 2 (recordCore g o.group) ++ leBytes 1 (o.group % 64)
    ++ leBytes 1 a.lane ++ leBytes 4 0 ++ leBytes 8 timer.toNat ++ leBytes 8 0

/-- A store that every die sees though its completion was lost. -/
def State.performLost (s : State) (id : Nat) (o : Op) : State :=
  match o.kind with
  | .store m _ => (s.releaseFor o o.kind.releases).storeLanes id o m o.toDo
  | .atom op m _ ty => s.applyAtoms id o op m ty o.toDo
  | .red op m _ ty => o.toDo.foldl (fun (s : State) a =>
      s.mergeRed op ty m (dieOf o.group) (coreOf o.group) a.paNat (a.data.setWidth 64)) (s.releaseFor o o.kind.releases)
  | _ => s

/-- May the home report this of a store (spec/07 R156): no record of one that it has not served yet in some lane (one
that waits behind a held line too, log 98); held, with the dies in a mask missing, only of a GA store that other dies
of the mask hold copies of, or are missing already? -/
def State.ackStateFits (s : State) (id : Nat) (o : Op) : AckState → Bool
  | .noRecord => o.mask = 0#8 && (!o.toDo.isEmpty || s.storeWaits id)
  | .done => o.mask = 0#8
  | .held m => m != 0#8 && o.kind.isGA && (if o.mask != 0#8 then m = o.mask
      else (List.range 8).all fun d => !m.getLsbD d || (d != dieOf o.group && o.toDo.any fun a => s.isSharer (lineOf a.paNat) d))

/-- The dies a report names as missing. -/
def missingDies : AckState → BitVec 8
  | .held m => m
  | .noRecord | .done => 0#8

/-- ACK_LOST_TIMEOUT: the group becomes replayable at the store, which stays in flight with what its home reports; the
record is of the first lane that has not performed. -/
def State.ackLost (s : State) (id : Nat) (st : AckState) : State :=
  match mapGet? s.ops id with
  | none => s
  | some o =>
    if !s.ackMayBeLost id o || !s.ackStateFits id o st then s
    else match o.toDo ++ o.acting with
    | [] => s
    | a :: _ =>
      let s := if st = .done then s.performLost id o else s
      let o := (mapGet? s.ops id).getD o
      let s := (s.setOp id { o with ackLost := some st, mask := missingDies st }).rollback o.group (max (o.seq + 1) (s.group o.group).replayFrom)
      let g := s.group o.group
      match s.record g.ctx true (ackBytes o a st g s.timer) with
      | none => s.endFault o.group 0x23#8
      | some (s, i) =>
        let grid := s.gridOf o.group
        ((s.modGroup o.group fun g => { g with fault := some ⟨0x23#8, i, true, o.pc, o.lanes, o.seq, st⟩ }).beginWait
          o.group .fault).launchEvent 0x04 grid

/-! ## Peers (spec/07 R161-R163, spec/17 R323) -/

/-- REMOTE_REQUEST_AT_PEER: the peer applies the request, or turns it away. -/
def State.remoteAtPeer (s : State) (id : Nat) (accept : Bool) : State :=
  match mapGet? s.ops id, mapGet? s.copies id with
  | some o, _ =>
    if !(o.kind.remote && o.left) then s
    else if !accept then s.remoteError o.group
    else if o.acting.all fun a => s.reachable (a.peer.getD 0) then s.completeRemote id o else s
  | none, some c =>
    if !c.shape.remote then s
    else if !accept then s.endCopy id 0x05
    else s.takePieces id fun p => s.reachable p.peer
  | none, none => s

/-- FABRIC_TIMEOUT: 10 ms without an acknowledgement from a peer that has no live port. -/
def State.fabricTimeout (s : State) (who : RemoteWork) : State :=
  match who with
  | .op id => match mapGet? s.ops id with
    | some o => if o.kind.remote && o.left && o.issueNs + 10000000 ≤ s.ns then s.remoteError o.group else s
    | none => s
  | .copy id => match mapGet? s.copies id with
    | some c => if s.copyLost c then s.endCopy id 0x05 else s
    | none => s

/-- FIXED_RESULT_WRITEBACK (spec/03 R63). -/
def execFixedResultWriteback (op : Nat) (s : State) : Host.Outcome State Fault Refusal := .next (s.writeback op)
/-- VARIABLE_OP_COMPLETE (spec/02 R33). -/
def execVariableOpComplete (op : Nat) (s : State) : Host.Outcome State Fault Refusal := .next (s.opComplete op)
/-- WWAIT_REREAD (spec/07 R177). -/
def execWwaitReread (op : Nat) (s : State) : Host.Outcome State Fault Refusal := .next (s.wwaitReread op)
/-- PAGE_WALK (spec/15 R300). -/
def execPageWalk (who : WalkFor) (s : State) : Host.Outcome State Fault Refusal := .next (s.pageWalk who)
/-- HOME_ATOMIC_APPLY (spec/07 R158). -/
def execHomeAtomicApply (op : Nat) (s : State) : Host.Outcome State Fault Refusal := .next (s.atomicApply op)
/-- RED_ENTRY_DRAIN (spec/07 R160). -/
def execRedEntryDrain (pa : PAddr) (s : State) : Host.Outcome State Fault Refusal := .next (s.redDrain pa.toNat)
/-- XEND_ACK_TIMEOUT (spec/11 R261). -/
def execXendAckTimeout (op : Nat) (s : State) : Host.Outcome State Fault Refusal := .next (s.xendTimeout op)
/-- ACK_LOST_TIMEOUT (spec/07 R156). -/
def execAckLostTimeout (op : Nat) (state : AckState) (s : State) : Host.Outcome State Fault Refusal :=
  .next (s.ackLost op state)
/-- REMOTE_REQUEST_AT_PEER (spec/07 R161). -/
def execRemoteRequestAtPeer (op : Nat) (accept : Bool) (s : State) : Host.Outcome State Fault Refusal :=
  .next (s.remoteAtPeer op accept)
/-- FABRIC_TIMEOUT (spec/17 R323). -/
def execFabricTimeout (who : RemoteWork) (s : State) : Host.Outcome State Fault Refusal := .next (s.fabricTimeout who)

end Sys2Proof.Machine
end

