-- ==== Sys2Proof/Machine/Packets.lean ====
section
/-! DEFINITION. Packets, descriptors and node records: their fields and the checks of dispatch (spec/02 R52, R54,
spec/03 R71, spec/14 R270-R284). -/

namespace Sys2Proof.Machine

/-! ## Fields -/

/-- The fields of a packet's 64 bytes. -/
def packetOf (r : List Byte) : Packet where
  type := fieldOf r 0 1
  flags := BitVec.ofNat 8 (fieldOf r 1 1)
  phase := BitVec.ofNat 16 (fieldOf r 2 2)
  cwidth := fieldOf r 4 1
  space := BitVec.ofNat 16 (fieldOf r 6 2)
  desc := BitVec.ofNat 64 (fieldOf r 0x08 8)
  nteam := fieldOf r 0x10 4
  linkSz := fieldOf r 0x14 2
  linkFrames := fieldOf r 0x16 2
  linkBase := BitVec.ofNat 64 (fieldOf r 0x18 8)
  args := BitVec.ofNat 64 (fieldOf r 0x20 8)
  tvec := BitVec.ofNat 64 (fieldOf r 0x28 8)
  nodes := BitVec.ofNat 64 (fieldOf r 0x30 8)
  chcDesc := BitVec.ofNat 64 (fieldOf r 0x38 8)
  watch := fieldOf r 0x08 1
  thresh := BitVec.ofNat 64 (fieldOf r 0x10 8)
  addr := BitVec.ofNat 64 (fieldOf r 0x08 8)
  len := fieldOf r 0x10 8

/-- The descriptor's MIRROR bytes in the slots that its MIRRORV marks. -/
def mirrorNames (r : List Byte) : List Nat :=
  ((List.range 4).filter fun i => bitAt r 0x1C i).map fun i => fieldOf r (0x14 + i) 1

/-- The fields of a descriptor's 64 bytes (spec/02 R52). -/
def descOf (r : List Byte) : Descriptor where
  entry := signedField r 0 8
  kind := fieldOf r 0x08 1
  groups := fieldOf r 0x0A 1
  producers := fieldOf r 0x0B 1
  pfloor := fieldOf r 0x0C 2
  pbudget := fieldOf r 0x0E 2
  cfloor := fieldOf r 0x10 2
  cbudget := fieldOf r 0x12 2
  mirror := mirrorNames r
  lease := fieldOf r 0x18 2
  deep := fieldOf r 0x1A 2
  spaces := (List.range 8).map fun i => BitVec.ofNat 16 (fieldOf r (0x20 + 2 * i) 2)

/-! ## Checks -/

/-- Is a reserved bit of a packet set, or its TYPE unknown (spec/14 R270)? -/
def packetReserved (r : List Byte) : Bool :=
  let some0 (off n : Nat) := fieldOf r off n != 0
  let flags := fieldOf r 1 1
  match fieldOf r 0 1 with
  | 0 => 2 ≤ flags || some0 2 62
  | 1 | 2 => 4 ≤ flags || some0 5 1
  | 3 => 2 ≤ flags || some0 5 1
  | 4 => 2 ≤ flags || some0 2 6 || some0 9 7 || some0 0x18 40
  | 5 => 8 ≤ flags || some0 2 4 || some0 0x18 40
  | _ => true

/-- Are a launch's own fields within their ranges and alignments (spec/14 R271)? -/
def Packet.launchGood (p : Packet) : Bool :=
  let aligned (a : DWord) (n : Nat) := a.toNat % n == 0
  aligned p.desc 64 && aligned p.linkBase 256 && aligned p.args 64 && aligned p.tvec 16 && aligned p.nodes 16
    && p.linkFrames ≤ 4096 && (p.linkSz != 0 || p.linkFrames == 0)
    && (if p.flags.getLsbD 1 then aligned p.chcDesc 64 else p.chcDesc == 0#64)
    && match p.type with
      | 1 => p.cwidth ≤ 4 && 1 ≤ p.nteam && (p.cwidth < 2 || p.nteam % p.cwidth == 0) && p.nodes == 0#64
      | 2 => p.cwidth == 0 && 1 ≤ p.nteam && p.nteam ≤ 4096
      | _ => p.cwidth == 0 && p.nteam == 1 && p.nodes == 0#64

/-- Are a FLUSH's own fields good (spec/14 R284)? -/
def Packet.flushGood (p : Packet) : Bool := p.flags.getLsbD 0 && p.addr.toNat % 128 == 0 && p.len % 128 == 0

/-- Is a reserved byte of a descriptor nonzero? -/
def descReserved (r : List Byte) : Bool := fieldOf r 0x1D 3 != 0 || fieldOf r 0x30 16 != 0

/-- Is every field of a descriptor in its range (spec/02 R52)? -/
def descGood (r : List Byte) : Bool :=
  let d := descOf r
  let v := fieldOf r 0x1C 1
  d.entry % 16 == 0 && (d.kind == 1 || d.kind == 2) && fieldOf r 0x09 1 == 1
    && 1 ≤ d.groups && d.groups ≤ 32 && (d.kind != 2 || d.groups == 1)
    && (d.producers == 0 || d.producers < d.groups)
    && (if d.producers == 0 then d.pfloor == 0 && d.pbudget == 0
        else d.pfloor ≤ 256 && d.pfloor ≤ d.pbudget && d.pbudget ≤ 512 && 1 ≤ d.pbudget)
    && d.cfloor ≤ 256 && d.cfloor ≤ d.cbudget && d.cbudget ≤ 512 && 1 ≤ d.cbudget
    && (v == 0 || v == 1 || v == 3 || v == 7 || v == 15) && d.mirror.eraseDups.length == d.mirror.length
    && (List.range 4).all (fun i => v.testBit i || fieldOf r (0x14 + i) 1 == 0xFF)
    && d.lease ≤ 4096 && d.deep ≤ 1024

/-- The error of a descriptor read, 0 for none. -/
def descError (r : List Byte) : BitVec 16 :=
  if descReserved r then 0x0021#16 else if descGood r then 0#16 else 0x0022#16

/-- The address that a node record at `at` names (spec/02 R54). -/
def nodeDesc (at_ : DWord) (r : List Byte) : DWord := at_ + BitVec.ofInt 64 (signedField r 0 8)

/-- A node record read at an address, with its consuming kernel. -/
def nodeOf (at_ : DWord) (r k : List Byte) : NodeRec where
  desc := nodeDesc at_ r
  kernel := descOf k
  batch := fieldOf r 8 2
  recSize := fieldOf r 0x0A 2
  node := fieldOf r 0x0C 2

/-- Does a node's consumer take its records (spec/14 R279)? -/
def NodeRec.fits (n : NodeRec) : Bool := n.batch ≤ n.kernel.groups * 32 && n.recSize / 4 ≤ n.kernel.deep

/-- The error of a node record and its consumer, 0 for none; `seen` lists the identifiers before it. -/
def nodeError (at_ : DWord) (r k : List Byte) (seen : List Nat) : BitVec 16 :=
  let n := nodeOf at_ r k
  if fieldOf r 0x0E 2 != 0 then 0x0021#16
  else if signedField r 0 8 % 16 != 0 || n.desc.toNat % 64 != 0 || n.batch < 1 || 1024 < n.batch || n.recSize < 4
    || 256 < n.recSize || n.recSize % 4 != 0 || seen.contains n.node then 0x0022#16
  else if descError k != 0#16 then descError k
  else if n.fits then 0#16 else 0x0022#16

/-- Indices that a kernel's team needs in partition `p` of a core: each group's budget and deep window (spec/03 R71). -/
def Descriptor.need (d : Descriptor) (p : Nat) : Nat :=
  (List.range d.groups).foldl (fun n g =>
    if g % 4 = p then n + (if g < d.producers then d.pbudget else d.cbudget) + d.deep else n) 0

/-- Can a kernel's team ever be placed? -/
def Descriptor.placeable (d : Descriptor) : Bool := (List.range 4).all fun p => d.need p ≤ 2048

/-! ## Front-end reads (spec/14 R271, R274) -/

/-- What a read of the front end comes to. -/
inductive FrontRead where
  | ok (bytes : List Byte)
  | hold
  | bad (code : BitVec 16)
  deriving DecidableEq, Repr

/-- The parts of a front-end read in turn, as die 0 sees memory. -/
def frontParts (s : State) (ctx : Nat) : List Access → State × FrontRead
  | [] => (s, .ok [])
  | a :: t =>
    match s.translate 0 ctx a.va .read with
    | .hold => (s, .hold)
    | .fault _ _ => (s, .bad 0x0012#16)
    | .ok pa k _ big =>
      if s.pageFrozen pa || !s.lineFree 0 (lineOf pa) || !s.homeReached 0 pa then (s, .hold)
      else if s.readsPoison pa then (s, .bad 0x0025#16)
      else
        let s := (s.noteKey pa k big).drainRedsAt pa a.size
        match frontParts s ctx t with
        | (s', .ok bs) => (s', .ok (s.pathRead 0 pa a.size ++ bs))
        | other => other

/-- `n` bytes read by the front end at an address of a context. -/
def State.frontRead (s : State) (ctx : Nat) (va : VAddr) (n : Nat) : State × FrontRead :=
  frontParts s ctx (bufferAccesses 0 va n)

/-- Records read one after another, each at an address the last ones determine. -/
inductive Reads where
  | ok (rs : List (List Byte))
  | hold
  | bad (code : BitVec 16)
  deriving DecidableEq, Repr

/-- Blocks of `n` bytes read in turn. -/
def readBlocks (s : State) (ctx n : Nat) : List VAddr → State × Reads
  | [] => (s, .ok [])
  | va :: t =>
    match s.frontRead ctx va n with
    | (s, .hold) => (s, .hold)
    | (s, .bad c) => (s, .bad c)
    | (s, .ok b) =>
      match readBlocks s ctx n t with
      | (s, .ok bs) => (s, .ok (b :: bs))
      | other => other

/-- The addresses of a GRAPH's node records. -/
def Packet.nodeVas (p : Packet) : List DWord :=
  if p.type = 2 then (List.range p.nteam).map fun i => p.nodes + BitVec.ofNat 64 (16 * i) else []

/-- What a launch's checks come to. -/
inductive Checked where
  | pass (l : Launch)
  | hold
  | fail (code : BitVec 16)
  deriving DecidableEq, Repr

/-- The first error of a list of errors in order. -/
def firstCode : List (BitVec 16) → BitVec 16
  | [] => 0#16
  | c :: t => if c = 0#16 then firstCode t else c

/-- The errors of node records in turn. -/
def nodeErrors : List (DWord × List Byte × List Byte) → List Nat → List (BitVec 16)
  | [], _ => []
  | (a, r, k) :: t, seen => nodeError a r k seen :: nodeErrors t (fieldOf r 0x0C 2 :: seen)

/-- What a launch is from what was read, when steps 6 to 8 of spec/14 R274 pass. -/
def checkRead (base : Launch) (d args : List Byte) (nodes : List (DWord × List Byte × List Byte))
    (c : Option (List Byte)) : Checked :=
  let p := base.packet
  let desc := descOf d
  let chc := c.map descOf
  let recs := nodes.map fun x => nodeOf x.1 x.2.1 x.2.2
  let chcErr := match c with
    | some r => descError r
    | none => 0#16
  let e := firstCode ([descError d] ++ nodeErrors nodes [] ++ [chcErr])
  if e != 0#16 then .fail e
  else if desc.kind != (if p.type = 3 then 2 else 1) || recs.any (fun n => n.kernel.kind != 1)
      || (match chc with
        | some x => x.kind != 1 || x.groups != 1
        | none => false) then .fail 0x0011#16
  else if p.type != 3 && !(desc.placeable && recs.all fun n => n.kernel.placeable) then .fail 0x0023#16
  else .pass { base with
    desc := desc
    chc := chc
    args := (List.range 16).map fun i => BitVec.ofNat 32 (fieldOf args (4 * i) 4)
    nodes := recs }

/-- A launch's reads and checks from step 4 of spec/14 R274 on. -/
def State.checkLaunchReads (s : State) (base : Launch) : State × Checked :=
  let p := base.packet
  let va (a : DWord) : VAddr := vaddr p.space a
  match readBlocks s base.ctx 64 ([va p.desc] ++ if p.args = 0#64 then [] else [va p.args]) with
  | (s, .hold) => (s, .hold)
  | (s, .bad c) => (s, .fail c)
  | (s, .ok da) =>
    match readBlocks s base.ctx 16 (p.nodeVas.map va) with
    | (s, .hold) => (s, .hold)
    | (s, .bad c) => (s, .fail c)
    | (s, .ok rs) =>
      let ns := p.nodeVas.zip rs
      let chc := if p.flags.getLsbD 1 then [va p.chcDesc] else []
      match readBlocks s base.ctx 64 ((ns.map fun x => va (nodeDesc x.1 x.2)) ++ chc) with
      | (s, .hold) => (s, .hold)
      | (s, .bad c) => (s, .fail c)
      | (s, .ok ks) =>
        (s, checkRead base (da.headD []) (da.getD 1 []) ((ns.zip ks).map fun x => (x.1.1, x.1.2, x.2))
          (if p.flags.getLsbD 1 then ks.getLast? else none))

end Sys2Proof.Machine
end

