-- ==== Sys2Proof/Machine/Front.lean ====
section
/-! DEFINITION. The front end (spec/14 R267-R278, R282, R284, spec/17 R333): which packet is dispatched next, and what
dispatching it does. -/

namespace Sys2Proof.Machine

/-! ## Host windows (spec/15 R305) -/

/-- An entry of a context's host window table. -/
structure HostWindow where
  bar  : Nat
  va   : VAddr
  rd   : Bool
  wr   : Bool
  len  : Nat
  deriving DecidableEq, Repr

/-- The fields of a 32-byte entry. -/
def hostWindowOf (r : List Byte) : HostWindow :=
  ⟨fieldOf r 0 8, BitVec.ofNat 80 (fieldOf r 8 10), bitAt r 0x12 0, bitAt r 0x12 1, fieldOf r 0x18 8⟩

/-- A context's host windows, as firmware has accepted them. -/
def State.hostWindows (s : State) (ctx : Nat) : List HostWindow :=
  match s.context ctx with
  | none => []
  | some c =>
    if c.hwTab = 0#52 then []
    else (List.range c.hwCnt).map fun i => hostWindowOf (readWith (s.viewByte 0) (c.hwTab.toNat + 32 * i) 32)

/-! ## Cleaning (spec/14 R284) -/

/-- The cores of a partition. -/
def coresOf (part : BitVec 64) : List Nat := (List.range 256).filter fun c => part.getLsbD (c / 4)

/-- The partition of a context. -/
def State.partitionOf (s : State) (ctx : Nat) : BitVec 64 := match s.context ctx with
  | some c => c.part
  | none => 0#64

/-- Slice lines of a context written back to their homes, those that meet a test. -/
def State.writeBackLines (s : State) (test : SliceLine → Bool) : State :=
  let hit := s.slices.filter fun l => l.modified && test l
  let s := hit.foldl (fun (s : State) l => s.writeBack l.pline) s
  { s with slices := s.slices.map fun (l : SliceLine) =>
    if hit.any fun h => h.pline = l.pline then { l with modified := false } else l }

/-- The bytes a slice holds over a line's home given up. -/
def State.discardDirty (s : State) (pline : Nat) : State :=
  { s with dirty := s.dirty.filter fun c => lineOf c.1 != pline }

/-- Slice lines that meet a test dropped; a modified one's bytes go with it. -/
def State.dropSlices (s : State) (test : SliceLine → Bool) : State :=
  let hit := s.slices.filter test
  let s := hit.foldl (fun (s : State) l => s.discardDirty l.pline) s
  State.sweepRemap { s with slices := s.slices.filter fun l => !test l }

/-- L1 lines that meet a test dropped, on cores that meet another. -/
def State.dropL1Lines (s : State) (core : Nat → Bool) (test : L1Line → Bool) : State :=
  State.sweepRemap { s with l1 := s.l1.map fun (c, ls) => (c, if core c then ls.filter fun l => !test l else ls) }

/-- The first address of a virtual line. -/
def lineVa (vline : BitVec 73) : Nat := vline.toNat * 128

/-- The bytes that an entry of a level of the table maps (spec/15 R298). -/
def levelSpan (lvl : Nat) : Nat := match lvl with
  | 0 => 2 ^ 18
  | 1 => 2 ^ 33
  | 2 => 2 ^ 48
  | _ => 2 ^ 63

/-- Indices of the entries of a table that hold anything: an entry of which memory lists no byte is 0, so not present. -/
def State.tableIndices (s : State) (lvl pa : Nat) : List Nat :=
  ((s.mem.filter fun c => pa ≤ c.1 && c.1 < pa + (if lvl = 3 then 2 ^ 20 else 2 ^ 18)).map fun c => (c.1 - pa) / 8).eraseDups

/-- The runs that a table maps from an address on: their first virtual and physical addresses and lengths. -/
def mapsFrom (s : State) : Nat → Nat → Nat → List (Nat × Nat × Nat)
  | lvl, pa, va =>
    if !tableOwner pa then []
    else (s.tableIndices lvl pa).flatMap fun i =>
      let e := s.entryAt (pa + 8 * i)
      let at_ := va + i * levelSpan lvl
      if !e.getLsbD 0 || entryReserved e then []
      else if e.getLsbD 1 then
        if 1 < lvl || lvl = 1 && (e.extractLsb' 18 15) != 0#15 then [] else [(at_, entryAddr e, levelSpan lvl)]
      else match lvl with
        | 0 => []
        | l + 1 => mapsFrom s l (entryAddr e) at_

/-- Does a context map a physical line within a range of its addresses, whatever tag the line is cached under (spec/11
R250, spec/14 R284)? -/
def State.rangeHas (s : State) (ctx lo len pline : Nat) : Bool := match s.context ctx with
  | none => false
  | some c => (mapsFrom s 3 c.ttbase.toNat 0).any fun m =>
      m.2.1 ≤ pline * 128 && pline * 128 < m.2.1 + m.2.2
        && lo ≤ m.1 + (pline * 128 - m.2.1) && m.1 + (pline * 128 - m.2.1) < lo + len

/-- Cleaning for a change of a queue's phase, in the order R284 gives. -/
def State.cleanPhase (s : State) (ctx : Nat) : State :=
  let s := s.showAll fun _ => true
  let cores := coresOf (s.partitionOf ctx)
  let s := s.dropL1Lines cores.contains fun l => l.ctx = ctx
  let s := s.writeBackLines fun l => l.ctx = ctx
  let ws := s.hostWindows ctx
  let shared (l : SliceLine) : Bool := ws.any fun w =>
    (w.va.toNat ≤ lineVa l.vline && lineVa l.vline < w.va.toNat + w.len) || s.rangeHas ctx w.va.toNat w.len l.pline
  s.dropSlices fun l => l.ctx = ctx && shared l

/-- FLUSH over a range of a context: of each line the range maps every copy is treated, under whatever tag it is cached
(spec/11 R250; log 33). -/
def State.flushRange (s : State) (ctx : Nat) (p : Packet) : State :=
  let lo := (vaddr p.space p.addr).toNat
  let within (pline : Nat) : Bool := s.rangeHas ctx lo p.len pline
  let s := if p.flags.getLsbD 1 || p.flags.getLsbD 2 then s.showAll fun _ => true else s
  let s := if p.flags.getLsbD 1 then s.writeBackLines fun l => within l.pline else s
  if p.flags.getLsbD 2 then
    (s.dropL1Lines (fun _ => true) fun l => within l.pline).dropSlices fun l => within l.pline
  else s

/-! ## Which packet is next (spec/14 R269, R277) -/

/-- A packet with its bytes read. -/
def State.readItem (s : State) (q : Nat) (i : Nat) : State × Option FrontItem :=
  let x := s.queue q
  let va := vaddr x.qspace (x.qbase + BitVec.ofNat 64 (64 * x.slot i))
  match s.frontRead x.ctx.toNat va 64 with
  | (s, .ok bs) => (s, some ⟨q, i, none, bs, 0#16, none⟩)
  | (s, .hold) => (s, none)
  | (s, .bad c) => (s, some ⟨q, i, none, [], c, none⟩)

/-- The packet that stands next in a queue: its oldest child, else the packet at QRPTR. -/
def State.headItem (s : State) (q : Nat) : State × Option FrontItem :=
  match s.children.find? fun c => c.queue = q with
  | some c => (s, some ⟨q, 0, some c, c.packet, 0#16, none⟩)
  | none =>
    let x := s.queue q
    if x.rptr.toNat < x.wptr.toNat then s.readItem q (x.rptr.toNat) else (s, none)

/-- A packet's fields; a child takes its parent's phase (spec/14 R277). One whose parent is no launch, as when a
command core enqueues it, keeps its own (DESIGN CHOICE, log 106). -/
def State.itemPacket (s : State) (x : FrontItem) : Packet :=
  let p := packetOf x.bytes
  match x.child with
  | none => p
  | some c => match s.launch? c.parent with
    | some l => { p with phase := l.packet.phase }
    | none => p

/-- Is a packet a launch? -/
def Packet.isLaunch (p : Packet) : Bool := p.type == 1 || p.type == 2 || p.type == 3

/-- Does a packet change its queue's phase? -/
def State.phaseChange (s : State) (q : Nat) (p : Packet) : Bool := p.isLaunch && p.phase != (s.queue q).ph

/-- Have earlier packets of a queue not completed, and for a child earlier children (spec/14 R269, R277)? -/
def State.behindOthers (s : State) (x : FrontItem) : Bool :=
  !(s.queue x.queue).inFlight.isEmpty
    || (x.child.isSome && s.launches.any fun l => l.2.parent.isSome && l.2.queue = x.queue)

/-- A timeline holds for a threshold (spec/14 R281). -/
def timelineHolds (v h : DWord) : Bool := 0 ≤ (v - h).toInt

/-- Is a packet held before dispatch? One that cannot be read is dispatched with its error. -/
def State.itemHeld (s : State) (x : FrontItem) : Bool :=
  let p := s.itemPacket x
  (s.scripts.any fun h => h.queue = x.queue)
    || (x.bad == 0#16
      && ((p.flags.getLsbD 0 || p.type == 4 || p.type == 5 || s.phaseChange x.queue p) && s.behindOthers x
        || (p.type == 4 && !packetReserved x.bytes && (s.queue p.watch).ctx == (s.queue x.queue).ctx
          && !timelineHolds (s.queue p.watch).tlv p.thresh)))

/-- The packet of a queue that is ready to dispatch. -/
def State.readyItem (s : State) (q : Nat) : State × Option FrontItem :=
  if !(s.queue q).en then (s, none)
  else match s.headItem q with
    | (s, some x) => if s.itemHeld x then (s, none) else (s, some x)
    | (s, none) => (s, none)

/-- Queue numbers that are enabled. -/
def State.enabledQueues (s : State) : List Nat := (s.queues.filter fun q => q.2.en).map (·.1)

/-- Of some queues the one the front end serves next: the highest PRIO, equal ones in turn. -/
def State.nextQueue (s : State) (qs : List Nat) : Option Nat :=
  match qs.foldl (fun (m : Option Nat) q => match m with
    | none => some (s.queue q).prio.toNat
    | some p => some (max p (s.queue q).prio.toNat)) none with
  | none => none
  | some top =>
    let best := qs.filter fun q => (s.queue q).prio.toNat = top
    match best.find? fun q => mapGet s.rrPos top 0 ≤ q with
    | some q => some q
    | none => best.head?

/-- The round-robin place after a queue. -/
def State.served (s : State) (q : Nat) : State := { s with rrPos := mapSet s.rrPos (s.queue q).prio.toNat (q + 1) }

/-- The event of a packet's type. -/
def packetEvent (q : Nat) (type : Nat) : Event :=
  match type with
  | 0 => .nopPacket q
  | 1 => .launchPacket q
  | 2 => .graphPacket q
  | 3 => .scriptPacket q
  | 4 => .waitPacket q
  | 5 => .flushPacket q
  | _ => .reservedPacket q

/-- Does the front end dispatch at all: the package has started, and no firmware update stands? -/
def State.frontRuns (s : State) : Bool := s.boot.ready && !s.fw.quiesced && s.front.isNone

/-- PACKET_DISPATCH: the front end takes up the next packet. -/
def State.packetDispatch (s : State) : State :=
  if !s.frontRuns then s
  else match s.nextQueue (s.enabledQueues.filter fun q => (s.readyItem q).2.isSome) with
    | none => s
    | some q => match s.readyItem q with
      | (t, some x) => (State.served { t with front := some x } q).soon (packetEvent q (packetOf x.bytes).type)
      | (_, none) => s

/-! ## Dispatching (spec/14 R269, R274, R277) -/

/-- The packet in hand, when it is of a queue and of a type that meets a test. -/
def State.inHand (s : State) (q : Nat) (test : Nat → Bool) : Option FrontItem :=
  match s.front with
  | some x => if x.queue = q && test (packetOf x.bytes).type then some x else none
  | none => none

/-- A ring packet counts as dispatched, a child leaves the child store. -/
def State.takeItem (s : State) (x : FrontItem) : State :=
  let s := { s with front := none }
  match x.child with
  | some c => { s with children := s.children.erase c }
  | none =>
    let q := s.queue x.queue
    s.setQueue x.queue { q with rptr := q.rptr + 1#64, inFlight := q.inFlight ++ [x.index] }

/-- A packet that completes at dispatch, with an error or none. -/
def State.endItem (s : State) (x : FrontItem) (error : BitVec 16) : State :=
  let s := s.takeItem x
  match x.child with
  | some c => ((s.launchError c.parent error).count c.parent (-1)).checkLaunch c.parent
  | none => let q := s.queue x.queue
    s.completePacket ⟨x.queue, x.index, q.gen, q.tlInit, s.ns, error, false, none, 0⟩

/-- The cluster of a partition with the most free group slots, the lower of equal ones (spec/09 R231). -/
def State.seedCluster (s : State) (part : BitVec 64) : Option Nat :=
  let free (c : Nat) : Nat := (List.range 4).foldl (fun n i => n + s.freeSlots (4 * c + i)) 0
  ((List.range 64).filter fun c => part.getLsbD c).foldl (fun (m : Option Nat) c => match m with
    | none => some c
    | some d => if free d < free c then some c else some d) none

/-- A launch's teams or seed handed to the distributors. -/
def State.handTeams (s : State) (grid : Nat) (l : Launch) : State :=
  let part := s.partitionOf l.ctx
  let s := s.later (.residentChoice part)
  if l.packet.type = 2 then
    match s.seedCluster part with
    | some c => { s with ranges := s.ranges ++ [⟨grid, c, 0, 1⟩] }
    | none => s
  else
    let w := if l.packet.cwidth < 2 then 1 else l.packet.cwidth
    { s with ranges := s.ranges ++ distribute grid (l.packet.nteam / w) part }

/-- The lowest place for a circuit script that is free. -/
def State.freeScript (s : State) : Option Nat := (List.range 16).find? fun i => (mapGet? s.groups (scriptKey i)).isNone

/-- A script starts on the circuit processor as one team of one lane. -/
def State.startScript (s : State) (i grid : Nat) (l : Launch) : State :=
  let g := startGroup .circuit l l.packet.desc l.desc 1#32 0 s.nextId
  State.setGroup ({ s with nextId := s.nextId + 1 }.setLaunch grid { l with startNs := s.ns, teams := 1 }) (scriptKey i)
    { g with team := grid }

/-- A checked launch dispatched. -/
def State.dispatchLaunch (s : State) (x : FrontItem) (l : Launch) : State :=
  let s := s.takeItem x
  let (s, grid) : State × Nat := match x.child with
    | some c => (s, c.grid)
    | none => ({ s with nextId := s.nextId + 1 }, s.nextId)
  let l := { l with startNs := s.ns, moveNs := s.ns }
  let s := s.setLaunch grid l
  if l.packet.type = 3 then
    match s.freeScript with
    | some i => s.startScript i grid l
    | none => s
  else s.handTeams grid l

/-- What a packet's launch is before anything it names is read. -/
def State.baseLaunch (s : State) (x : FrontItem) : Launch :=
  let p := s.itemPacket x
  { queue := x.queue, index := x.index, gen := (s.queue x.queue).gen, tlInit := (s.queue x.queue).tlInit, parent := x.child.map (·.parent), ctx := (s.queue x.queue).ctx.toNat, packet := p
    desc := descOf [], chc := none, args := [], nodes := [], counter := if p.type = 1 then p.nteam else 1
    error := 0#16, errorLost := false, teams := 0, startNs := 0, moveNs := 0, churnSeen := [], churnLeft := []
    handler := none, done := false }

/-- The front end gives a packet back, to take it up again later. -/
def State.putBack (s : State) : State := { s with front := none }

/-- A launch that has passed its checks: a SCRIPT waits for a place, and a new one behind those that wait already (spec/17
R333); a phase change is cleaned for; else it is dispatched. -/
def State.goLaunch (s : State) (x : FrontItem) (l : Launch) : State :=
  let new := x.launch.isNone
  let x := { x with launch := some l }
  if l.packet.type = 3 && (s.freeScript.isNone || new && !s.scripts.isEmpty) then { s with front := none, scripts := s.scripts ++ [x] }
  else if s.phaseChange x.queue l.packet then State.soon { s with front := some x } (.phaseCleaning x.queue)
  else s.dispatchLaunch x l

/-- LAUNCH, GRAPH and SCRIPT: the checks of R274 in order, then dispatch. -/
def State.launchItem (s : State) (x : FrontItem) : State :=
  match x.launch with
  | some l => s.goLaunch x l
  | none =>
    if packetReserved x.bytes then s.endItem x 0x0010#16
    else if !(s.itemPacket x).launchGood then s.endItem x 0x0011#16
    else match s.checkLaunchReads (s.baseLaunch x) with
      | (s, .hold) => s.putBack
      | (s, .fail c) => s.endItem x c
      | (s, .pass l) => s.goLaunch x l

/-- A packet's handler, when the packet in hand is of its type. -/
def State.handle (s : State) (q : Nat) (test : Nat → Bool) (f : FrontItem → State) : State :=
  match s.inHand q test with
  | some x => f x
  | none => s

/-- NOP; a packet that could not be read ends here too, with its error. -/
def State.nopItem (s : State) (x : FrontItem) : State :=
  s.endItem x (if x.bad != 0#16 then x.bad else if packetReserved x.bytes then 0x0010#16 else 0#16)

/-- WAIT: one naming a queue of another context is an error; it has waited before dispatch. What is dispatched after
it sees the accesses that the awaited records released: no core keeps an older copy of their lines. -/
def State.waitItem (s : State) (x : FrontItem) : State :=
  if packetReserved x.bytes then s.endItem x 0x0010#16
  else if (s.queue (packetOf x.bytes).watch).ctx != (s.queue x.queue).ctx then s.endItem x 0x0013#16
  else
    let s := s.l1.foldl (fun (s : State) c => s.refreshL1 c.1) s
    s.endItem x 0#16

/-- FLUSH. -/
def State.flushItem (s : State) (x : FrontItem) : State :=
  let p := packetOf x.bytes
  if packetReserved x.bytes then s.endItem x 0x0010#16
  else if !p.flushGood then s.endItem x 0x0011#16
  else (s.flushRange (s.queue x.queue).ctx.toNat p).endItem x 0#16

/-- PHASE_CLEANING: cleaned for, then QPH := PHASE, and the launch is dispatched. -/
def State.phaseClean (s : State) (q : Nat) : State :=
  match s.front with
  | some x => match x.launch with
    | some l =>
      if x.queue = q && s.phaseChange q l.packet then
        let s := s.cleanPhase l.ctx
        let y := s.queue q
        (s.setQueue q { y with ph := l.packet.phase }).soon (packetEvent q l.packet.type)
      else s
    | none => s
  | none => s

/-- SCRIPT_HELD_START: with a place free the front end takes up the held script that R269 chooses. -/
def State.scriptStart (s : State) : State :=
  if s.freeScript.isNone || !s.frontRuns then s
  else match s.nextQueue ((s.enabledQueues).filter fun q => s.scripts.any fun x => x.queue = q) with
    | none => s
    | some q => match s.scripts.find? fun x => x.queue = q with
      | none => s
      | some x => (State.served { s with front := some x, scripts := s.scripts.erase x } q).soon (.scriptPacket q)

/-! ## Doorbells and queue control (spec/14 R267, R268) -/

/-- Packets a queue's ring holds. -/
def Queue.size (q : Queue) : Nat := 16 * 2 ^ q.logsz.toNat

/-- A write of QWPTR: one that would lower it or overfill the ring is ignored. -/
def State.writeWptr (s : State) (n : Nat) (w : DWord) : State :=
  let q := s.queue n
  if w.toNat < q.wptr.toNat || q.size < w.toNat - q.rptr.toNat then s else s.setQueue n { q with wptr := w }

/-- DOORBELL: the write, its event, and the context's demand looked at again. A write that leaves QWPTR as it was
posts none: the spec does not say (DESIGN CHOICE, log 107). -/
def State.doorbell (s : State) (n : Nat) (w : DWord) : State :=
  let t := s.writeWptr n w
  if t = s then s
  else (t.postEvent (eventWord 0x01 n w.toNat)).later (.residentChoice (t.partitionOf (t.queue n).ctx.toNat))

/-- A queue's control after a write of QCTL (spec/14 R268). -/
def Queue.writeCtl (q : Queue) (v : Word) : Queue :=
  let en := v.getLsbD 31
  let logsz := v.extractLsb' 16 4
  let q := { q with
    en := en
    prio := if q.en then q.prio else v.extractLsb' 20 5
    logsz := if q.en || 12 < logsz.toNat then q.logsz else logsz
    ctx := if q.en then q.ctx else v.extractLsb' 8 8 }
  q

/-- QCTL_WRITE. Before step 12 of a start no queue is enabled (spec/21 R369; log 104). EN going from 0 to 1 clears
QWPTR and QRPTR and takes TLINIT from QTLV (spec/14 R267, R281). -/
def State.qctlWrite (s : State) (n : Nat) (v : Word) : State :=
  let q := s.queue n
  let x := q.writeCtl (if s.boot.ready then v else v &&& 0x7FFFFFFF#32)
  if !q.en && x.en then
    State.setQueue { s with scripts := s.scripts.filter fun h => h.queue != n } n
      { x with wptr := 0#64, rptr := 0#64, tlInit := x.tlv, gen := x.gen + 1, inFlight := [], complete := [] }
  else s.setQueue n x

/-- An issue control word after a write: LBUDGET stays for a value outside 1 to 4,096, reserved bits stay 0. -/
def icwAfter (old v : Word) : Word :=
  let b := icwBudget v
  (v &&& 0x80000000#32) ||| BitVec.ofNat 32 (if b = 0 || 4096 < b then icwBudget old else b)

/-- ICW_WRITE (spec/10 R236): a change of CHK acts 256 cycles later, one of LBUDGET at the next evaluation. -/
def State.icwWrite (s : State) (ctx : Nat) (v : Word) : State :=
  match s.context ctx with
  | none => s
  | some c =>
    let w := icwAfter c.icw v
    let hist := if icwChk w = icwChk c.icw then c.chkFrom
      else (if c.chkFrom.isEmpty then [(0, icwChk c.icw)] else c.chkFrom) ++ [(s.now + 256, icwChk w)]
    let buds := (if c.budFrom.isEmpty then [(0, icwBudget c.icw)] else c.budFrom) ++ [(256 * (s.now / 256 + 1), icwBudget w)]
    { s with contexts := mapSet s.contexts ctx { c with icw := w, chkFrom := hist, budFrom := buds } }

/-- What a command core held given back (spec/21 R368): its locks are freed, its event is posted again, and what it had
in flight is dropped. -/
def State.freeCore (s : State) (i : Nat) : State :=
  let key := commandKey i
  let s := { s with qlocks := s.qlocks.filter fun q => q.2 != key }
  let s := match mapGet? s.cmcEvent key with
    | some e => State.postEvent { s with cmcEvent := mapDel s.cmcEvent key } e
    | none => s
  { s with ops := s.ops.filter fun p => p.2.group != key }

/-- A command core at the start of its firmware, at its vector (spec/21 R368; log 42). -/
def Group.started (g : Group) : Group :=
  { g with halted := false, table := [⟨g.trap.vec, 1#32, 0⟩], parked := [], waiting := [], wait := none, holdOp := none
           fault := none, exited := 0xFFFFFFFE#32 }

/-- CMC_TRAP (spec/21 R368): the core starts again, unless it has trapped twice within 1 s. -/
def State.cmcTrap (s : State) (i : Nat) : State :=
  let key := commandKey i
  let last := mapGet? s.cmcTrapNs i
  let s := s.freeCore i
  let s := { s with cmcTrapNs := mapSet s.cmcTrapNs i s.ns }
  let again : Bool := match last with
    | some t => s.ns < t + 1000000000
    | none => false
  if again then { s with cmcOut := if s.cmcOut.contains i then s.cmcOut else i :: s.cmcOut, groups := mapDel s.groups key }
  else s.modGroup key Group.started

/-- The command cores started in a slot (spec/21 R372, R374; log 95). -/
def State.startCores (s : State) : State :=
  (List.range 12).foldl (fun (s : State) i => (s.freeCore i).modGroup (commandKey i) Group.started) s

/-- PACKET_DISPATCH (spec/14 R269). -/
def execPacketDispatch (s : State) : Host.Outcome State Fault Refusal := .next s.packetDispatch
/-- NOP_PACKET (spec/14 R270). -/
def execNopPacket (queue : Nat) (s : State) : Host.Outcome State Fault Refusal :=
  .next (s.handle queue (· = 0) s.nopItem)
/-- LAUNCH_PACKET (spec/14 R270). -/
def execLaunchPacket (queue : Nat) (s : State) : Host.Outcome State Fault Refusal :=
  .next (s.handle queue (· = 1) s.launchItem)
/-- GRAPH_PACKET (spec/14 R270, R278). -/
def execGraphPacket (queue : Nat) (s : State) : Host.Outcome State Fault Refusal :=
  .next (s.handle queue (· = 2) s.launchItem)
/-- SCRIPT_PACKET (spec/14 R270, spec/17 R333). -/
def execScriptPacket (queue : Nat) (s : State) : Host.Outcome State Fault Refusal :=
  .next (s.handle queue (· = 3) s.launchItem)
/-- WAIT_PACKET (spec/14 R282). -/
def execWaitPacket (queue : Nat) (s : State) : Host.Outcome State Fault Refusal :=
  .next (s.handle queue (· = 4) s.waitItem)
/-- FLUSH_PACKET (spec/14 R284). -/
def execFlushPacket (queue : Nat) (s : State) : Host.Outcome State Fault Refusal :=
  .next (s.handle queue (· = 5) s.flushItem)
/-- RESERVED_PACKET (spec/14 R270). -/
def execReservedPacket (queue : Nat) (s : State) : Host.Outcome State Fault Refusal :=
  .next (s.handle queue (6 ≤ ·) fun x => s.endItem x 0x0010#16)
/-- PHASE_CLEANING (spec/14 R284). -/
def execPhaseCleaning (queue : Nat) (s : State) : Host.Outcome State Fault Refusal := .next (s.phaseClean queue)
/-- SCRIPT_HELD_START (spec/17 R333). -/
def execScriptHeldStart (s : State) : Host.Outcome State Fault Refusal := .next s.scriptStart
/-- DOORBELL (spec/14 R267). -/
def execDoorbell (queue : Nat) (wptr : DWord) (s : State) : Host.Outcome State Fault Refusal := .next (s.doorbell queue wptr)
/-- QCTL_WRITE (spec/14 R268). -/
def execQctlWrite (queue : Nat) (value : Word) (s : State) : Host.Outcome State Fault Refusal := .next (s.qctlWrite queue value)
/-- ICW_WRITE (spec/10 R236). -/
def execIcwWrite (ctx : Nat) (value : Word) (s : State) : Host.Outcome State Fault Refusal := .next (s.icwWrite ctx value)
/-- CMC_TRAP (spec/21 R368). -/
def execCmcTrap (core : Nat) (s : State) : Host.Outcome State Fault Refusal := .next (s.cmcTrap core)

end Sys2Proof.Machine
end

