-- ==== Sys2Proof/Machine/Handlers.lean ====
section
/-! DEFINITION. Resolving replayable faults (spec/08 R215, R389, spec/07 R156, R157): firmware's call of a context's fault
handler, and what each record's RESOLVE byte does. -/

namespace Sys2Proof.Machine

/-! ## What a record's byte does -/

/-- The groups of a context that hold the fault of a record, with their keys. -/
def State.faultHolders (s : State) (ctx : Nat) (ack : Bool) (i : Nat) : List (Nat × HeldFault) :=
  s.groups.filterMap fun p => match p.2.fault with
    | some f => if p.2.ctx = ctx && f.ack == ack && f.ring = i then some (p.1, f) else none
    | none => none

/-- A resident group's fault gone, and its wait over. -/
def State.clearFault (s : State) (key : Nat) : State := (s.modGroup key fun g => { g with fault := none }).endWait key

/-- Is a saved group one that holds the fault of record `i` of a ring? -/
def Group.holdsRecord (g : Group) (ack : Bool) (i : Nat) : Bool := match g.fault with
  | some f => f.ack == ack && f.ring = i
  | none => false

/-- Teams of a context that are out with a group that holds the fault of record `i`. -/
def State.outHolders (s : State) (ctx : Nat) (ack : Bool) (i : Nat) : List (Nat × Team) :=
  s.teams.filter fun t => t.2.ctx = ctx && t.2.saved.any fun p => p.2.holdsRecord ack i

/-- A saved group's fault gone: it goes on waiting for what else holds it. -/
def State.freeSaved (s : State) (key : Nat) (g : Group) : Group :=
  let g := { g with fault := none }
  { g with wait := (s.waitFor key g).map fun k => match g.wait with
      | some w => { w with kind := k }
      | none => ⟨k, s.now, s.ns⟩ }

/-- The same fault gone in the groups of a team that is out, which may then return. -/
def State.replayOut (s : State) (t : Nat) (x : Team) (i : Nat) : State :=
  s.setTeam t { x with
    ready := true
    saved := x.saved.map fun p => (p.1, if p.2.holdsRecord false i then s.freeSaved p.1 p.2 else p.2) }

/-- A team that is out ends with the cause of the fault of a record. -/
def State.endOut (s : State) (t : Nat) (x : Team) (ack : Bool) (i : Nat) : State :=
  let cause := (x.saved.findSome? fun p => if p.2.holdsRecord ack i then p.2.fault.map (·.cause) else none).getD 0#8
  s.haltTeam t (causeCode cause)

/-- Copies of a context suspended by a record. -/
def State.copyHolders (s : State) (ctx i : Nat) : List (Nat × Copy) :=
  s.copies.filter fun p => p.2.ctx = ctx && match p.2.fault with
    | some f => f.2 = i
    | none => false

/-- Churns of a context whose head macro-operation waits on a record, with its cause. -/
def State.macroHolders (s : State) (ctx i : Nat) : List (Nat × MacroOp × BitVec 8) :=
  s.clusters.filterMap fun p => match p.2.churn.macros with
    | m :: _ => match m.fault with
      | some f => if s.churnCtx p.1 = ctx && f.2 = i then some (p.1, m, f.1) else none
      | none => none
    | [] => none

/-- REPLAY of record `i` of a fault ring. -/
def State.replayRecord (s : State) (ctx i : Nat) : State :=
  let s := (s.faultHolders ctx false i).foldl (fun (s : State) h => s.clearFault h.1) s
  let s := (s.outHolders ctx false i).foldl (fun (s : State) t => s.replayOut t.1 t.2 i) s
  let s := (s.copyHolders ctx i).foldl (fun (s : State) c =>
    { s with copies := mapSet s.copies c.1 { c.2 with fault := none, issueNs := s.ns } }) s
  (s.macroHolders ctx i).foldl (fun (s : State) m => s.modChurn m.1 fun x => x.modHead fun y => { y with fault := none }) s

/-- END of record `i` of a fault ring. -/
def State.endRecord (s : State) (ctx i : Nat) : State :=
  let s := (s.faultHolders ctx false i).foldl (fun (s : State) h => s.endFault h.1 h.2.cause) s
  let s := (s.outHolders ctx false i).foldl (fun (s : State) t => s.endOut t.1 t.2 false i) s
  let s := (s.copyHolders ctx i).foldl (fun (s : State) c => s.endCopy c.1 0x03) s
  (s.macroHolders ctx i).foldl (fun (s : State) m => s.macroTrap m.1 m.2.1 m.2.2 0#32) s

/-- The store of a group that a lost acknowledgement holds. -/
def State.lostStore (s : State) (key seq : Nat) : Option (Nat × Op) :=
  s.ops.find? fun p => p.2.group = key && p.2.seq = seq && p.2.ackLost.isSome

/-- Is a value a resolution that the store's state accepts (spec/07 R156)? -/
def ackAccepts : AckState → Nat → Bool
  | .noRecord, n => n == 1
  | .held _, n => n == 2 || n == 3
  | .done, n => n == 4

/-- A lost acknowledgement resolved with a value that its state accepts. REPLAY issues again, and ABANDON discards,
the store of the lanes that have not performed: what a lane's atomic or reduction has done at its home stays done once
(spec/07 R156, spec/19 R358; log 98). -/
def State.resolveAck (s : State) (key : Nat) (f : HeldFault) (v : Nat) : State :=
  let s := s.clearFault key
  match s.lostStore key f.seq with
  | none => s
  | some (id, o) =>
    match v with
    | 1 => s.setOp id { o with ackLost := none, issueNs := s.ns }
    | 2 => (s.setOp id { o with ackLost := none, issueNs := s.ns }).modGroup key fun g => { g with holdOp := some id }
    | 3 =>
      let s := o.toDo.foldl (fun (s : State) a => s.poison (lineOf a.paNat)) s
      let done := (o.acting.filter fun a => a.bound).map fun a => (a.lane, a.val)
      match o.kind with
      | .atom _ _ _ _ => s.finishOp id done
      | _ => s.completeOp id
    | _ =>
      let o := { o with ackLost := none }
      match o.kind with
      | .atom _ _ _ _ => (s.setOp id o).completeAtom id o
      | _ => (s.setOp id o).finishOp id []

/-- The same for a group of a team that is out: it is resolved as it stands in its save, and its team may return. -/
def State.resolveOut (s : State) (t key : Nat) (f : HeldFault) (v : Nat) : State :=
  match s.team? t with
  | none => s
  | some x => match x.saved.find? fun p => p.1 = key with
    | none => s
    | some p =>
      let s := (s.setGroup key p.2).resolveAck key f v
      let g := s.group key
      let s := { s with groups := mapDel s.groups key }
      match s.team? t with
      | none => s
      | some x => s.setTeam t { x with ready := true, saved := x.saved.map fun q => if q.1 = key then (key, g) else q }

/-- The groups of a context's swapped-out teams that hold the fault of an acknowledgement-ring record. -/
def State.outAckHolders (s : State) (ctx i : Nat) : List (Nat × Nat × HeldFault) :=
  (s.outHolders ctx true i).flatMap fun t => t.2.saved.filterMap fun p => match p.2.fault with
    | some f => if p.2.holdsRecord true i then some (t.1, p.1, f) else none
    | none => none

/-! ## Reading and marking records -/

/-- A record's 64 bytes, pending reductions drained; none when they cannot be read. -/
def State.readRecord (s : State) (ctx : Nat) (ack : Bool) (i : Nat) : Option (List Byte) :=
  match s.context ctx with
  | none => none
  | some c => match s.walk ctx (c.recordAt ack i) .read with
    | .ok pa _ _ _ => if s.readsPoison pa then none else some ((s.drainRedsAt pa 64).pathRead 0 pa 64)
    | .hold | .fault _ _ => none

/-- RESOLVE of a record set to 0xFF. -/
def State.rejectRecord (s : State) (ctx : Nat) (ack : Bool) (i : Nat) : State :=
  match s.context ctx with
  | none => s
  | some c => (s.deviceStore ctx (c.recordAt ack i + 0x38#80) [0xFF#8]).getD s

/-- Is a reserved byte of a record nonzero? -/
def recordReserved (ack : Bool) (r : List Byte) : Bool :=
  fieldOf r 0x39 7 != 0 || (if ack then fieldOf r 0x0A 2 != 0 || fieldOf r 0x2C 4 != 0
    else fieldOf r 0x0C 4 != 0 || fieldOf r 0x23 1 != 0 || fieldOf r 0x30 8 != 0)

/-- A record resolved leaves its context's list. -/
def State.recordDone (s : State) (ctx : Nat) (ack : Bool) (i : Nat) : State :=
  match s.context ctx with
  | none => s
  | some c => { s with contexts := mapSet s.contexts ctx (if ack then { c with unresA := c.unresA.filter (· != i) }
      else { c with unresF := c.unresF.filter (· != i) }) }

/-- A fault-ring record as its handler left it. -/
def State.resolveFaultRecord (s : State) (ctx i : Nat) : State :=
  match s.readRecord ctx false i with
  | none => s
  | some r =>
    if recordReserved false r then s.rejectRecord ctx false i
    else match fieldOf r 0x38 1 with
      | 1 => (s.replayRecord ctx i).recordDone ctx false i
      | 5 => (s.endRecord ctx i).recordDone ctx false i
      | 0 => s
      | _ => s.rejectRecord ctx false i

/-- An acknowledgement-ring record as its handler left it. -/
def State.resolveAckRecord (s : State) (ctx i : Nat) : State :=
  let holders := (s.faultHolders ctx true i).map (fun h => ((none : Option Nat), h.1, h.2))
    ++ (s.outAckHolders ctx i).map fun h => (some h.1, h.2.1, h.2.2)
  match holders with
  | [] => s.recordDone ctx true i
  | (out, key, f) :: _ => match s.readRecord ctx true i with
    | none => s
    | some r =>
      let v := fieldOf r 0x38 1
      if v = 0 && !recordReserved true r then s
      else if recordReserved true r || !ackAccepts f.state v then s.rejectRecord ctx true i
      else (match out with
        | none => s.resolveAck key f v
        | some t => s.resolveOut t key f v).recordDone ctx true i

/-! ## The handler's launch (spec/08 R389) -/

/-- The first index of a list of records and how many the run from it to the last takes in. -/
def recordRun (is : List Nat) : Nat × Nat :=
  match is.head?, is.getLast? with
  | some a, some b => (a, (b + 2 ^ 32 - a) % 2 ^ 32 + 1)
  | _, _ => (0, 0)

/-- The arguments of a handler's launch. -/
def handlerArgs (c : Context) (f a : Nat × Nat) : List Word :=
  [c.fring.setWidth 32, c.fring.extractLsb' 32 32, BitVec.ofNat 32 f.1, BitVec.ofNat 32 f.2,
    c.aring.setWidth 32, c.aring.extractLsb' 32 32, BitVec.ofNat 32 a.1, BitVec.ofNat 32 a.2]
    ++ List.replicate 8 0#32

/-- The packet that firmware launches a handler with. -/
def handlerPacket (c : Context) : Packet := { packetOf [] with type := 1, space := c.fhSpace, desc := c.fhDesc, nteam := 1 }

/-- Records resolved as END (spec/08 R389): those of the fault ring, then those of the acknowledgement ring. -/
def State.endRecords (s : State) (ctx : Nat) (fs as : List Nat) : State :=
  let s := fs.foldl (fun (s : State) i => (s.endRecord ctx i).recordDone ctx false i) s
  as.foldl (fun (s : State) i =>
    let s := (s.faultHolders ctx true i).foldl (fun (s : State) h => s.endFault h.1 h.2.cause) s
    ((s.outHolders ctx true i).foldl (fun (s : State) t => s.endOut t.1 t.2 true i) s).recordDone ctx true i) s

/-- A handler launched for the records a context has unresolved. A launch that fails its checks runs no group: every
record it was to resolve is resolved as END. -/
def State.launchHandler (s : State) (ctx : Nat) (c : Context) : State :=
  let f := recordRun c.unresF
  let a := recordRun c.unresA
  let base : Launch :=
    { queue := 0, index := 0, gen := 0, tlInit := 0#64, parent := none, ctx := ctx, packet := handlerPacket c, desc := descOf [], chc := none, args := []
      nodes := [], counter := 1, error := 0#16, errorLost := false, teams := 0, startNs := s.ns, moveNs := s.ns
      churnSeen := [], churnLeft := [], handler := some (f.1, f.2, a.1, a.2), done := false }
  match s.checkLaunchReads base with
  | (t, .pass l) =>
    let grid := t.nextId
    let l := { l with args := handlerArgs c f a }
    (({ t with nextId := grid + 1 } : State).setLaunch grid l).handTeams grid l
  | (_, .hold) => s
  | (t, .fail _) => t.endRecords ctx c.unresF c.unresA

/-- Is an index in a run? -/
def inRun (first count i : Nat) : Bool := (i + 2 ^ 32 - first) % 2 ^ 32 < count

/-- The records a handler was given, as it left them; the launch goes. -/
def State.resolveFor (s : State) (ctx grid : Nat) (h : Nat × Nat × Nat × Nat) : State :=
  match s.context ctx with
  | none => s
  | some c =>
    let s := { s with launches := mapDel s.launches grid }
    let s := (c.unresF.filter (inRun h.1 h.2.1)).foldl (fun (s : State) i => s.resolveFaultRecord ctx i) s
    (c.unresA.filter (inRun h.2.2.1 h.2.2.2)).foldl (fun (s : State) i => s.resolveAckRecord ctx i) s

/-- Handlers of a context that have run to their end. -/
def State.handlersDone (s : State) (ctx : Nat) : List (Nat × Launch) :=
  s.launches.filter fun l => l.2.ctx = ctx && l.2.handler.isSome && l.2.done

/-- Is a handler of a context running? -/
def State.handlerRuns (s : State) (ctx : Nat) : Bool :=
  s.launches.any fun l => l.2.ctx = ctx && l.2.handler.isSome && !l.2.done

/-- Does a page's migration hold a record that a context has unresolved (spec/15 R303)? -/
def State.ringHeld (s : State) (ctx : Nat) : Bool := match s.context ctx with
  | none => false
  | some c =>
    let held (ack : Bool) (i : Nat) : Bool := match s.walk ctx (c.recordAt ack i) .read with
      | .hold => true
      | .ok pa _ _ _ => s.pageFrozen pa
      | .fault _ _ => false
    c.unresF.any (held false) || c.unresA.any (held true)

/-- FAULT_RESOLUTION: the records of a handler that has ended are acted on; those left go to a new one. It waits while a
migration holds a record, and fault-handler launches wait for the end of a firmware update (spec/21 R372). -/
def State.faultResolution (s : State) (ctx : Nat) : State :=
  if s.fw.quiesced || s.ringHeld ctx then s else
  let s := (s.handlersDone ctx).foldl (fun (s : State) l => match l.2.handler with
    | some h => s.resolveFor ctx l.1 h
    | none => s) s
  match s.context ctx with
  | none => s
  | some c =>
    if (c.unresF.isEmpty && c.unresA.isEmpty) || s.handlerRuns ctx then s else s.launchHandler ctx c

/-- FAULT_RESOLUTION (spec/08 R215, R389). -/
def execFaultResolution (ctx : Nat) (s : State) : Host.Outcome State Fault Refusal := .next (s.faultResolution ctx)

end Sys2Proof.Machine
end

