-- ==== Sys2Proof/Machine/Contexts.lean ====
section
/-! DEFINITION. Which context is resident on a partition, the exchange through the Crock, and the loss of a context
(spec/10 R242, spec/15 R289-R296). -/

namespace Sys2Proof.Machine

/-! ## The exchange of images (spec/15 R289, R292-R295) -/

/-- The key that a group or controller program of a partition has once the resident has left and a context has come. -/
def exchangedKey (part : BitVec 64) (comes : Option Nat) (k : Nat) (g : Group) : Nat :=
  if !((g.engine = .partition || g.engine = .churn) && part.getLsbD (clusterOf k)) then k
  else if !isOut k then outKey g.ctx k
  else if comes = some g.ctx then homeKey k else k

/-- The place that a cluster's Churn takes in the same exchange. -/
def exchangedChurn (part : BitVec 64) (leaves comes : Option Nat) (i : Nat) : Option Nat :=
  let c := i % 0x1000
  if !part.getLsbD c then some i
  else if i < 0x1000 then leaves.map fun x => c + 0x1000 * (x + 1)
  else if comes = some (i / 0x1000 - 1) then some c else some i

/-- A map put in the order of its keys. -/
def byKey {α : Type} (m : List (Nat × α)) : List (Nat × α) := sortBy m fun a b => a.1 ≤ b.1

/-- Images exchanged: groups, their operations, and Churns change places. -/
def State.exchangeKeys (s : State) (part : BitVec 64) (leaves comes : Option Nat) : State :=
  let key (k : Nat) : Nat := match mapGet? s.groups k with
    | some g => exchangedKey part comes k g
    | none => k
  { s with
    groups := byKey (s.groups.map fun p => (key p.1, p.2))
    ops := s.ops.map fun p => (p.1, { p.2 with group := key p.2.group })
    clusters := byKey (s.clusters.filterMap fun p =>
      (exchangedChurn part leaves comes p.1).map fun i => (i, p.2)) }

/-- A group as its context leaves: protection is kept as a mark, for its time restarts. -/
def Group.leaving (g : Group) (now : Nat) : Group :=
  { g with lease := { g.lease with protectedUntil := if now < g.lease.protectedUntil then 1 else 0 } }

/-- A group as its context comes back (spec/15 R295, spec/10 R242). -/
def Group.coming (g : Group) (now : Nat) : Group :=
  let g := g.nextEpoch
  { g with
    lat := Vector.replicate 32 Latch.empty
    ulat := Latch.empty
    table := g.table.map fun e => { e with age := 0 }
    laneSkip := 0
    uniSkip := 0
    lease := { g.lease with
      inactiveSince := now
      protectedUntil := if g.lease.protectedUntil = 0 then 0 else now + 10000 } }

/-- Work in flight of a resident group at the stop (spec/15 R293, spec/16 R308): open transactions abort with code 6.
Its operations stay in its image as they stand: those that have left the core complete while it is out, and held
accesses, which the image holds (R289), are made when it has come back. -/
def State.stopWork (s : State) (key : Nat) : State := (List.range 32).foldl (fun (s : State) l => s.abortTx key l 6 0) s

/-- The groups of a partition's cores that are resident. -/
def State.residentGroups (s : State) (part : BitVec 64) : List (Nat × Group) :=
  s.groups.filter fun p => p.2.engine = .partition && !isOut p.1 && part.getLsbD (clusterOf p.1)

/-- A group seated again: its registers take fresh indices. -/
def State.comeBack (s : State) (key : Nat) : State :=
  match mapGet? s.groups key with
  | none => s
  | some g =>
    let (g, ren) := s.renewGroup (partOf key) g
    let s : State := { s with ops := renameTargets key ren s.ops }
    (s.setGroup key (g.coming s.ns)).syncPool (partOf key)

/-- A residency put back in the list. -/
def State.setResid (s : State) (r : Residency) : State :=
  { s with resid := s.resid.map fun x => if x.part = r.part then r else x }

/-- The residency of a partition. -/
def State.residOf (s : State) (part : BitVec 64) : Option Residency := s.resid.find? fun r => r.part = part

/-- A context's record changed. -/
def State.modContext (s : State) (ctx : Nat) (f : Context → Context) : State :=
  match s.context ctx with
  | some c => { s with contexts := mapSet s.contexts ctx (f c) }
  | none => s

/-! ## Demand (spec/15 R290) -/

/-- The package as it would be with a context resident on its partition and running. -/
def State.asResident (s : State) (ctx : Nat) (r : Residency) : State :=
  let s := if r.resident = some ctx then s else s.exchangeKeys r.part r.resident (some ctx)
  s.setResid { r with resident := some ctx, chosen := none, stopped := false }

/-- The priority of a launch: its queue's, and 30 for a fault handler (spec/08 R389). -/
def State.launchPrio (s : State) (l : Launch) : Nat := if l.handler.isSome then 30 else (s.queue l.queue).prio.toNat

/-- Has a launch a team that could be placed, in a package where its context is resident, or that could return? -/
def State.placeable (s : State) (grid : Nat) : Bool :=
  (s.ranges.any fun r => r.grid = grid && (s.placeRange r).isSome)
    || (s.dies.any fun d => d.2.toPlace.any fun t => t.grid = grid
      && (List.range 8).any fun i => (s.placeRennet (8 * d.1 + i) t).isSome)
    || s.teams.any fun t => t.2.grid = grid && t.2.swap == .out && !t.2.ended && s.mayReturn t.1 t.2
      && s.fitsCore t.2.core t.2.deepSize t.1 (t.2.saved.map (·.2))

/-- Has a launch a group that is not waiting? -/
def State.hasRunning (s : State) (grid : Nat) : Bool :=
  s.groups.any fun p => p.2.engine = .partition && !p.2.done && p.2.wait.isNone && match s.team? p.2.team with
    | some t => t.grid = grid
    | none => false

/-- The larger of an optional number and a number. -/
def maxOpt (m : Option Nat) (n : Nat) : Option Nat := match m with
  | none => some n
  | some k => some (max k n)

/-- A context's demand on its partition; none without work. -/
def State.demand (s : State) (ctx : Nat) (r : Residency) : Option Nat :=
  let v := s.asResident ctx r
  let q := (s.enabledQueues.filter fun n => (s.queue n).ctx.toNat = ctx && (s.readyItem n).2.isSome).foldl
    (fun m n => maxOpt m (s.queue n).prio.toNat) none
  (s.launches.filter fun l => l.2.ctx = ctx && !l.2.done && l.2.packet.type != 3
    && (v.placeable l.1 || s.hasRunning l.1)).foldl (fun m l => maxOpt m (s.launchPrio l.2)) q

/-- The live contexts that share a partition. -/
def State.sharers (s : State) (part : BitVec 64) : List (Nat × Context) := s.contexts.filter fun c => c.2.part = part

/-- Does a context own a queue of priority 31? -/
def State.owns31 (s : State) (ctx : Nat) : Bool :=
  s.queues.any fun q => q.2.prio = 31#5 && q.2.ctx.toNat = ctx

/-! ## The choice (spec/15 R290, R291) -/

/-- A context that has gained or lost its work while it is not resident; one that has lost it is due no longer, and
keeps no rest of a quantum. -/
def State.noteWork (s : State) (r : Residency) : State :=
  (s.sharers r.part).foldl (fun (s : State) c =>
    if r.resident = some c.1 then s
    else match s.demand c.1 r with
      | none =>
        let s := s.modContext c.1 fun x => { x with gainedAt := 0, dueSince := none }
        { s with resid := s.resid.map fun x =>
          if x.part = r.part then { x with rest := x.rest.filter fun y => y.1 != c.1 } else x }
      | some _ => s.modContext c.1 fun x => { x with gainedAt := if x.gainedAt = 0 then max 1 s.ns else x.gainedAt }) s

/-- Is a due context in its quantum, with work? -/
def State.inQuantum (s : State) (r : Residency) : Bool := match r.resident, r.quantum with
  | some c, some e => s.ns < e && (s.demand c r).isSome
  | _, _ => false

/-- The due context that became due earliest, of those with work; one displaced in its quantum goes first. -/
def State.firstDue (s : State) (r : Residency) (but : Option Nat) : Option Nat :=
  let rest := match r.rest with
    | some (c, _) => if but != some c && (s.demand c r).isSome then some c else none
    | none => none
  match rest with
  | some c => some c
  | none => ((s.sharers r.part).foldl (fun (m : Option (Nat × Nat)) c => match c.2.dueSince with
      | none => m
      | some t =>
        if but = some c.1 || (s.demand c.1 r).isNone then m
        else match m with
          | none => some (c.1, t)
          | some (_, u) => if t < u then some (c.1, t) else m) none).map (·.1)

/-- The context of the highest demand; a tie keeps the resident, or goes to the lower number. -/
def State.highest (s : State) (r : Residency) : Option Nat :=
  ((s.sharers r.part).foldl (fun (m : Option (Nat × Nat)) c => match s.demand c.1 r with
    | none => m
    | some p => match m with
      | none => some (c.1, p)
      | some (_, q) => if q < p || (q = p && r.resident = some c.1) then some (c.1, p) else m) none).map (·.1)

/-- The context that R290 chooses: priority 31 with work, then the resident in its quantum, then the first due, then the
highest demand. -/
def State.choice (s : State) (r : Residency) : Option Nat :=
  match (s.sharers r.part).find? fun c => s.demand c.1 r = some 31 with
  | some c => some c.1
  | none =>
    if s.inQuantum r then r.resident
    else match s.firstDue r none with
      | some c => some c
      | none => s.highest r

/-- May the resident be displaced for a context now? -/
def State.mayDisplace (s : State) (r : Residency) (c : Nat) : Bool :=
  r.resident.isNone || r.sinceNs + 20000 ≤ s.ns || s.demand c r = some 31

/-- RESIDENT_CHOICE: the partition stops for a context other than its resident. -/
def State.residentChoice (s : State) (part : BitVec 64) : State :=
  match s.residOf part with
  | none => s
  | some r =>
    if r.chosen.isSome || s.fw.quiesced then s
    else
      let s := s.noteWork r
      let r := (s.residOf part).getD r
      match s.choice r with
      | none => s
      | some c =>
        if r.resident = some c || !s.mayDisplace r c then s
        else
          let rest := if s.inQuantum r then match r.resident, r.quantum with
              | some x, some e => some (x, e - s.ns)
              | _, _ => r.rest
            else r.rest
          s.setResid { r with chosen := some c, stopped := true, rest := rest }

/-- Has a stopped partition come to rest (spec/15 R292): no fixed-latency result in flight, no lane pipe occupied, and
no team in the middle of a save (spec/09 R227)? Accepted copies are not waited for: R293 (spec/15) lets them run to
their end while the context is out, R190 (spec/08) lets them run to their end first (log 83). -/
def State.atRest (s : State) (part : BitVec 64) : Bool :=
  s.ops.all (fun p => !(p.2.kind.fixed && !isOut p.2.group && homeKey p.2.group < 0x4000
    && part.getLsbD (clusterOf p.2.group)))
    && s.teams.all (fun t => match t.2.swap with
      | .saving _ => !(part.getLsbD (t.2.core / 4) && (s.residOf part).any fun r => r.resident = some t.2.ctx)
      | .resident | .out => true)
    && s.laneBusy.all fun p => !part.getLsbD (clusterOf (16 * p.1)) || p.2 ≤ s.now

/-- The cluster images of a context written to its save areas. -/
def State.saveImages (s : State) (part : BitVec 64) (ctx : Nat) : State := match s.context ctx with
  | some c => ((List.range 64).filter part.getLsbD).foldl (fun (s : State) cl => s.writeSave (c.saveArea cl) imageBytes) s
  | none => s

/-- IMAGE_SPILL: the standby image goes to its save area; one of a context that owns a queue of priority 31 stays. -/
def State.imageSpill (s : State) (part : BitVec 64) : State :=
  match s.residOf part with
  | some r => match r.standby with
    | some c => if s.owns31 c then s else (s.setResid { r with standby := none }).saveImages part c
    | none => s
  | none => s

/-- IMAGE_FILL: an image comes into the Crock when it has room. -/
def State.imageFill (s : State) (part : BitVec 64) (ctx : Nat) : State :=
  match s.residOf part with
  | some r => if r.standby.isNone && r.resident != some ctx && (s.sharers part).any (fun c => c.1 = ctx) then
      s.setResid { r with standby := some ctx } else s
  | none => s

/-- The resident's side of an exchange. A context that the exchange has only passed through, not being the chosen one, is
due as it was. -/
def State.leaveCores (s : State) (part : BitVec 64) (c : Nat) : State :=
  let keys := (s.residentGroups part).map (·.1)
  let s := keys.foldl State.stopWork s
  let s := keys.foldl (fun (s : State) k => s.modGroup k fun g => g.leaving s.ns) s
  let s : State := { s with victims := s.victims.map fun (v : Nat × List Victim) =>
    (v.1, if part.getLsbD (v.1 / 4) then v.2.filter fun x => x.ctx != c else v.2) }
  s.modContext c fun x => if x.dueSince.isSome || x.gainedAt != 0 then x else { x with leftAt := s.ns }

/-- The Churns of a partition as a context comes: cached scale bytes and reads of them are gone (spec/16 R307). -/
def State.coldScales (s : State) (part : BitVec 64) : State :=
  { s with clusters := s.clusters.map fun (p : Nat × Cluster) =>
    if p.1 < 0x1000 && part.getLsbD p.1 then (p.1, { p.2 with churn := { p.2.churn with scaleByte := [], scaleRead := [], stepByte := [] } }) else p }

/-- The quantum that a context has as it becomes resident: a due one's, or the rest of a displaced one's. -/
def quantumFor (r : Residency) (c : Nat) (due : Bool) : Option Nat :=
  match r.rest with
  | some (x, n) => if x = c then some n else if due then some 1000000 else none
  | none => if due then some 1000000 else none

/-- A context becomes resident in place of another, whose image becomes the standby. -/
def State.exchangeImages (s : State) (r : Residency) (c : Nat) : State :=
  let s := match r.resident with
    | some x => s.leaveCores r.part x
    | none => s
  let s := (s.exchangeKeys r.part r.resident (some c)).coldScales r.part
  let s := ((s.residentGroups r.part).map (·.1)).foldl State.comeBack s
  let due := match s.context c with
    | some x => x.dueSince.isSome
    | none => false
  let wasChosen := r.chosen = some c
  let q := if wasChosen then quantumFor r c due else none
  let s := s.modContext c fun x => { x with
    dueSince := if wasChosen then none else x.dueSince
    gainedAt := if wasChosen then 0 else x.gainedAt
    budFrom := []
    chkFrom := [] }
  s.setResid { r with
    resident := some c
    standby := r.resident
    sinceNs := s.ns
    quantum := q.map fun n => s.ns + n
    rest := match r.rest with
      | some (x, n) => if x = c && wasChosen then none else some (x, n)
      | none => none
    chosen := if wasChosen then none else r.chosen
    stopped := !wasChosen }

/-- After a due context has become resident, the next due one's image comes into the Crock (spec/15 R291). -/
def State.prefetchImage (s : State) (part : BitVec 64) : State :=
  match s.residOf part with
  | some r =>
    if r.quantum.isNone then s
    else match s.firstDue r r.resident with
      | some c => if r.standby = some c then s else (s.later (.imageSpill part)).later (.imageFill part c)
      | none => s
  | none => s

/-- The context whose image must take the standby's place now: one that has come to own a queue of priority 31 while
its image lay in its save area (spec/15 R290), or, in a quantum, the next due one when the standby has lost its work
(R291). -/
def State.wantsImage (s : State) (r : Residency) : Option Nat :=
  let held (c : Nat) : Bool := r.resident == some c || r.standby == some c
  if r.chosen.isSome then none
  else match (s.sharers r.part).find? fun c => s.owns31 c.1 && !held c.1 with
    | some c => some c.1
    | none =>
      if r.quantum.isNone || (r.standby.any fun c => (s.demand c r).isSome || s.owns31 c) then none
      else (s.firstDue r r.resident).filter fun c => !held c

/-- CROCK_EXCHANGE: once the partition is at rest, resident and standby change places, and the chosen context runs. A
chosen context that is neither has its image filled first. -/
def State.crockExchange (s : State) (part : BitVec 64) : State :=
  match s.residOf part with
  | none => s
  | some r => match r.chosen with
    | none => s
    | some c =>
      if !(s.sharers part).any fun x => x.1 = c then s.setResid { r with chosen := none, stopped := false }
      else if !r.stopped || !s.atRest part then s
      else match r.standby with
        | some x => if x = c || s.owns31 x then (s.exchangeImages r x).prefetchImage part else
            ((s.later (.imageSpill part)).later (.imageFill part c)).later (.crockExchange part)
        | none => (s.later (.imageFill part c)).later (.crockExchange part)

/-- CONTEXT_DUE (spec/15 R291). -/
def State.contextDue (s : State) (ctx : Nat) : State :=
  match s.context ctx with
  | none => s
  | some c => match s.residOf c.part with
    | none => s
    | some r =>
      if r.resident = some ctx || c.dueSince.isSome || c.gainedAt = 0 || s.ns < max c.leftAt c.gainedAt + 3000000
        || (s.demand ctx r).isNone then s
      else (s.modContext ctx fun x => { x with dueSince := some s.ns }).later (.residentChoice c.part)

/-- QUANTUM_EXPIRY (spec/15 R291). -/
def State.quantumExpiry (s : State) (part : BitVec 64) : State :=
  match s.residOf part with
  | some r => match r.quantum with
    | some e => if s.ns < e then s else (s.setResid { r with quantum := none }).later (.residentChoice part)
    | none => s
  | none => s

/-! ## Launches given up (spec/15 R296) -/

/-- Teams of a launch that its ranges still hold. -/
def State.unplaced (s : State) (grid : Nat) (l : Launch) : Nat :=
  let w := if l.packet.cwidth < 2 then 1 else l.packet.cwidth
  (s.ranges.filter fun r => r.grid = grid).foldl (fun n r => n + (r.hi - r.lo) * w) 0

/-- A launch's controller programs and script end, and their launch waits for them no longer. -/
def State.stopPrograms (s : State) (grid : Nat) : State :=
  let keys := (s.groups.filter fun p => (p.2.engine = .churn || p.2.engine = .circuit) && s.gridOf p.1 = grid).map (·.1)
  keys.foldl (fun (s : State) k => (if (s.group k).engine = .churn then s.dropMacros (churnIx k) else s).stopProgram k) s

/-- A launch given up: nothing of it is placed any more, its teams and programs end, and it completes with a code once
its copies have ended. -/
def State.abandonLaunch (s : State) (grid : Nat) (code : BitVec 16) : State :=
  match s.launch? grid with
  | none => s
  | some l =>
    let n := s.unplaced grid l
    let kids := (s.children.filter fun c => c.parent = grid).length
    let s : State := { s with
      ranges := s.ranges.filter fun r => r.grid != grid
      children := s.children.filter fun c => c.parent != grid }
    let s := s.launchError grid code
    let s := if n + kids = 0 then s else s.count grid (-((n + kids : Nat) : Int))
    (((s.discardRecords grid).haltTeams grid 0#16).stopPrograms grid).checkLaunch grid

/-- A context whose image is lost: its queues are disabled and its launches given up. -/
def State.loseContext (s : State) (ctx : Nat) (code : BitVec 16) : State :=
  let s := { s with
    queues := s.queues.map fun (q : Nat × Queue) => (q.1, if q.2.ctx.toNat = ctx then { q.2 with en := false } else q.2)
    scripts := s.scripts.filter fun x => (s.queue x.queue).ctx.toNat != ctx }
  ((s.launches.filter fun l => l.2.ctx = ctx).map (·.1)).foldl (fun (s : State) g => s.abandonLaunch g code) s

/-- CROCK_UNCORRECTABLE (spec/15 R296, spec/21 R365). -/
def State.crockUncorrectable (s : State) (hit : CrockHit) : State :=
  match hit with
  | .image ctx => s.loseContext ctx 0x0026#16
  | .team t => s.haltTeam t 0x0026#16

/-- RESIDENT_CHOICE (spec/15 R290). -/
def execResidentChoice (part : BitVec 64) (s : State) : Host.Outcome State Fault Refusal := .next (s.residentChoice part)
/-- CROCK_EXCHANGE (spec/15 R294). -/
def execCrockExchange (part : BitVec 64) (s : State) : Host.Outcome State Fault Refusal := .next (s.crockExchange part)
/-- IMAGE_SPILL (spec/15 R294). -/
def execImageSpill (part : BitVec 64) (s : State) : Host.Outcome State Fault Refusal := .next (s.imageSpill part)
/-- IMAGE_FILL (spec/15 R294). -/
def execImageFill (part : BitVec 64) (ctx : Nat) (s : State) : Host.Outcome State Fault Refusal := .next (s.imageFill part ctx)
/-- CONTEXT_DUE (spec/15 R291). -/
def execContextDue (ctx : Nat) (s : State) : Host.Outcome State Fault Refusal := .next (s.contextDue ctx)
/-- QUANTUM_EXPIRY (spec/15 R291). -/
def execQuantumExpiry (part : BitVec 64) (s : State) : Host.Outcome State Fault Refusal := .next (s.quantumExpiry part)
/-- CROCK_UNCORRECTABLE (spec/15 R296). -/
def execCrockUncorrectable (hit : CrockHit) (s : State) : Host.Outcome State Fault Refusal :=
  .next (s.crockUncorrectable hit)

end Sys2Proof.Machine
end

