-- ==== Sys2Proof/Machine/Migrate.lean ====
section
/-! DEFINITION. Changing mappings and migrating pages (spec/15 R299-R304). -/

namespace Sys2Proof.Machine

/-! ## Table entries -/

/-- The address of the entry of a level that a walk for an address reaches; none when it ends above. -/
def entryFrom (s : State) (va : VAddr) (goal : Nat) : Nat → Nat → Option Nat
  | lvl, pa =>
    let a := pa + 8 * walkIndex va lvl
    let e := s.entryAt a
    if lvl = goal then some a
    else if !e.getLsbD 0 || e.getLsbD 1 then none
    else match lvl with
      | 0 => none
      | l + 1 => entryFrom s va goal l (entryAddr e)

/-- The address of the entry of a level for an address of a context. -/
def State.entryOf (s : State) (ctx : Nat) (va : VAddr) (lvl : Nat) : Option Nat :=
  match s.context ctx with
  | some c => entryFrom s va lvl 3 c.ttbase.toNat
  | none => none

/-- A table entry written at its home. -/
def State.setEntry (s : State) (pa : Nat) (e : DWord) : State := { s with mem := memSetAll s.mem pa (leBytes 8 e.toNat) }

/-- Translations of a context's range invalidated in every unit. -/
def State.dropTlu (s : State) (ctx lo n : Nat) : State :=
  { s with tlb := s.tlb.filter fun e => !(e.ctx = ctx && overlaps e.page.toNat (if e.big then 2 ^ 33 else 2 ^ 18) lo n) }

/-- Lines of a context's virtual range: slice lines written back and dropped, L1 lines dropped. -/
def State.dropRange (s : State) (ctx lo n : Nat) : State :=
  let within (c : Nat) (v : BitVec 73) : Bool := c = ctx && lo ≤ lineVa v && lineVa v < lo + n
  let s := s.writeBackLines fun l => within l.ctx l.vline
  (s.dropL1Lines (fun _ => true) fun l => within l.ctx l.vline).dropSlices fun l => within l.ctx l.vline

/-- The page of a Cream window that a leaf maps and no leaf mapped there before, with its size. -/
def State.newCream (s : State) (old e : DWord) (lvl : Nat) : Option (Nat × Nat) :=
  let pa := entryAddr e
  if e.getLsbD 0 && e.getLsbD 1 && lvl ≤ 1 && placeOf s pa == .cream
      && !(old.getLsbD 0 && old.getLsbD 1 && entryAddr old = pa) then some (pa, levelSpan lvl) else none

/-- Firmware zeroes a page: nothing is left of it in the log, the queues of its home, a cache or its array, nor its poison
(spec/11 R251). -/
def State.zeroPage (s : State) (pa n : Nat) : State :=
  let mine (a : Nat) : Bool := pa ≤ a && a < pa + n
  State.sweepRemap { s with
    log := s.log.filter fun r => !mine r.pa
    reds := s.reds.filter fun r => !mine r.pa
    mem := s.mem.filter fun c => !mine c.1
    poisoned := s.poisoned.filter fun l => !mine (l * 128)
    l1 := s.l1.map fun (c, ls) => (c, ls.filter fun l => !mine (l.pline * 128)) }

/-- Does a run of addresses touch the save area of a live context, which is pinned (spec/15 R288)? -/
def State.pinned (s : State) (pa n : Nat) : Bool := s.contexts.any fun c => (List.range 64).any fun i =>
  c.2.part.getLsbD i && overlaps (c.2.saveArea i) c.2.saveSz pa n

/-- Does an entry of a level map a page of a save area, itself or in the tables below it? -/
def State.mapsSave (s : State) (e : DWord) : Nat → Bool
  | 0 => e.getLsbD 0 && e.getLsbD 1 && s.pinned (entryAddr e) (levelSpan 0)
  | lvl + 1 => e.getLsbD 0 && (if e.getLsbD 1 then lvl = 0 && s.pinned (entryAddr e) (levelSpan 1)
      else (List.range (2 ^ 15)).any fun i => s.mapsSave (s.entryAt (entryAddr e + 8 * i)) lvl)

/-- Would an entry unmap, or map anew, a page of a save area (spec/15 R288)? -/
def State.unmapsSave (s : State) (old e : DWord) (lvl : Nat) : Bool :=
  s.mapsSave old lvl && !(e.getLsbD 0 && e.getLsbD 1 == old.getLsbD 1 && entryAddr e = entryAddr old)

/-- MAPPING_CHANGE: no page of a save area is unmapped (spec/15 R288); a page of a Cream window is zeroed before it is
mapped (spec/11 R251); then the three steps of R301. Entries stand in memory, and the old translation goes with the
last step. -/
def State.mappingChange (s : State) (ctx : Nat) (va : VAddr) (lvl : Nat) (e : DWord) : State :=
  match s.entryOf ctx va lvl with
  | none => s
  | some a =>
    let n := levelSpan lvl
    let lo := va.toNat - va.toNat % n
    if s.unmapsSave (s.entryAt a) e lvl then s
    else
    let s := match s.newCream (s.entryAt a) e lvl with
      | some (pa, n) => s.zeroPage pa n
      | none => s
    ((s.setEntry a e).dropTlu ctx lo n).dropRange ctx lo n

/-! ## Migration (spec/15 R303, R304) -/

/-- MIG of a leaf. -/
def migBit : DWord := 0x80#64

/-- Is a physical address the start of a 256 KiB page of near or far memory that is not pinned? -/
def State.pageGood (s : State) (pa : Nat) : Bool :=
  pa % 2 ^ 18 = 0 && (placeOf s pa == .near || placeOf s pa == .far) && !s.pinned pa (2 ^ 18)

/-- A line of a page in a transaction's set. -/
def Tx.touchesPage (t : Tx) (pa : Nat) : Bool := t.lines.any fun l => l.2 * 128 / 2 ^ 18 = pa / 2 ^ 18

/-- A group's transactions that hold a line of a page marked. -/
def Group.freezeTx (g : Group) (pa : Nat) : Group :=
  let mark (x : Tx) : Tx := if x.touchesPage pa then { x with frozen := true } else x
  { g with tx := g.tx.map fun t => t.map mark }

/-- Step 1: MIG is set, the page leaves every translation unit, and transactions that hold a line of it are marked. -/
def State.freezePage (s : State) (ctx : Nat) (va : VAddr) (leaf : Nat) (dst : PAddr) : State :=
  let e := s.entryAt leaf
  let page := pageOf va false
  let s := (s.setEntry leaf (e ||| migBit)).dropTlu ctx page.toNat (2 ^ 18)
  let old := entryAddr e
  { s with
    migs := s.migs ++ [(⟨ctx, page, BitVec.ofNat 52 old, dst, false, s.ns, []⟩ : Migration)]
    groups := s.groups.map fun (p : Nat × Group) => (p.1, p.2.freezeTx old) }

/-- Is a GA store of a page held at its home for a lost acknowledgement? -/
def State.pageHeld (s : State) (pa : Nat) : Bool :=
  s.ops.any fun p => p.2.mask != 0#8 && p.2.toDo.any fun a => match a.pa with
    | some q => q.toNat / 2 ^ 18 == pa / 2 ^ 18
    | none => false

/-- A physical address of the old page as one of the new. -/
def movedPa (old new pa : Nat) : Nat := if pa / 2 ^ 18 = old / 2 ^ 18 then new + pa % 2 ^ 18 else pa

/-- Step 3: everything of the page is drained to its home, and every copy of it is dropped. -/
def State.drainPage (s : State) (pa : Nat) : State :=
  let mine (a : Nat) : Bool := a / 2 ^ 18 = pa / 2 ^ 18
  let s := s.showAll fun r => mine r.pa
  let s := (s.reds.filter fun r => mine r.pa).foldl State.drainRed s
  let s := s.showAll fun r => mine r.pa
  let s := (s.slices.filter fun l => l.modified && mine (l.pline * 128)).foldl (fun (s : State) l => s.writeBack l.pline) s
  State.sweepRemap { s with
    dirty := s.dirty.filter fun c => !mine c.1
    slices := s.slices.filter fun l => !mine (l.pline * 128)
    l1 := s.l1.map fun (c, ls) => (c, ls.filter fun l => !mine (l.pline * 128)) }

/-- Step 4: the page's bytes and its poison copied. -/
def State.copyPage (s : State) (old new : Nat) : State :=
  let cells := s.mem.filter fun c => c.1 / 2 ^ 18 = old / 2 ^ 18
  let clear := (s.mem.filter fun c => c.1 / 2 ^ 18 = new / 2 ^ 18).foldl (fun m c => mapDel m c.1) s.mem
  let stale := s.poisoned.filter fun l => l * 128 / 2 ^ 18 != new / 2 ^ 18
  { s with
    mem := cells.foldl (fun m c => memSet m (movedPa old new c.1) c.2) clear
    poisoned := (stale.filter fun l => l * 128 / 2 ^ 18 = old / 2 ^ 18).map (fun l => movedPa old new (l * 128) / 128)
      ++ stale }

/-- Accesses in flight that name the old page name the new one. -/
def forwardOps (old new : Nat) (ops : List (Nat × Op)) : List (Nat × Op) :=
  ops.map fun p => (p.1, { p.2 with acc := p.2.acc.map fun a =>
    { a with pa := a.pa.map fun q => BitVec.ofNat 52 (movedPa old new q.toNat) } })

/-- Steps 3 to 6 for a frozen page, once it can be drained: the leaf names the new page, and the held requests go there in
their order of arrival. -/
def State.movePage (s : State) (m : Migration) : State :=
  let old := m.oldPa.toNat
  let new := m.newPa.toNat
  if s.pageHeld old then s
  else match s.entryOf m.ctx m.page 0 with
    | none => s
    | some leaf =>
      let e := s.entryAt leaf
      let s := ((s.drainPage old).noteKey new (e.extractLsb' 52 8).toNat false).copyPage old new
      let e' := (e &&& 0xFFF000000003FF7F#64) ||| BitVec.ofNat 64 new
      let s := (s.setEntry leaf e').dropTlu m.ctx m.page.toNat (2 ^ 18)
      { s with
        ops := forwardOps old new s.ops
        migs := s.migs.map fun x => if x = m then { x with moved := true } else x }

/-- Has a forwarded request still to be served? -/
def State.stillHeld (s : State) (id : Nat) : Bool := match mapGet? s.ops id with
  | some o => !(o.acting.all (·.bound))
  | none => false

/-- The device's own stores that a migration has held are made again, in their order. -/
def State.serveHeld (s : State) : State :=
  s.heldStores.foldl (fun (s : State) x => (s.deviceStore x.1 x.2.1 x.2.2).getD s) { s with heldStores := [] }

/-- Migrations whose forwarded requests have all been served end. -/
def State.endMigrations (s : State) : State :=
  let ms := s.migs.map fun m => if m.moved then { m with heldOps := m.heldOps.filter s.stillHeld } else m
  let t : State := { s with migs := ms.filter fun m => !(m.moved && m.heldOps.isEmpty) }
  if t.migs.length = s.migs.length then t else t.serveHeld

/-- PAGE_MIGRATION: a page is frozen; at a later event of the same page it moves, as soon as its home has drained it.
A page moves between compute dies within near or within far memory, not from the one to the other: spec/15 R303's
'near or far memory between compute dies' is so read (DEDUCED, log 97). -/
def State.pageMigration (s : State) (ctx : Nat) (va : VAddr) (dst : PAddr) : State :=
  let s := s.endMigrations
  match s.migs.find? fun m => m.ctx = ctx && m.page = pageOf va false with
  | some m => if m.moved then s else s.movePage m
  | none =>
    match s.entryOf ctx va 0 with
    | none => s
    | some leaf =>
      let e := s.entryAt leaf
      if e.getLsbD 0 && e.getLsbD 1 && !e.getLsbD 7 && s.pageGood (entryAddr e) && s.pageGood dst.toNat
          && ownerOf dst.toNat != ownerOf (entryAddr e) && placeOf s dst.toNat == placeOf s (entryAddr e) then
        s.freezePage ctx va leaf dst else s

/-- MIGRATION_ABANDON: after 50 µs MIG falls with ADDR as it was, and the held requests are served at the old home. -/
def State.migrationAbandon (s : State) (ctx : Nat) (va : VAddr) : State :=
  match s.migs.find? fun m => m.ctx = ctx && m.page = pageOf va false && !m.moved with
  | none => s
  | some m =>
    if s.ns < m.startNs + 50000 then s
    else match s.entryOf ctx va 0 with
      | none => s
      | some leaf =>
        let s := s.setEntry leaf (s.entryAt leaf &&& ~~~migBit)
        { s with migs := s.migs.map fun x => if x = m then { x with moved := true, newPa := m.oldPa } else x }

/-- PAGE_MIGRATION (spec/15 R303). -/
def execPageMigration (ctx : Nat) (va : VAddr) (dst : PAddr) (s : State) : Host.Outcome State Fault Refusal :=
  .next (s.pageMigration ctx va dst)
/-- MIGRATION_ABANDON (spec/15 R304). -/
def execMigrationAbandon (ctx : Nat) (va : VAddr) (s : State) : Host.Outcome State Fault Refusal :=
  .next (s.migrationAbandon ctx va)
/-- MAPPING_CHANGE (spec/15 R301). -/
def execMappingChange (ctx : Nat) (va : VAddr) (level : Nat) (entry : DWord) (s : State) :
    Host.Outcome State Fault Refusal := .next (s.mappingChange ctx va level entry)

end Sys2Proof.Machine
end

