-- ==== Sys2Proof/Machine/HostSide.lean ====
section
/-! DEFINITION. What the host does to the package: its windows, the coherent window, and its link's error state
(spec/11 R253, R254, spec/15 R305, spec/21 R378). -/

namespace Sys2Proof.Machine

/-! ## BAR 2 (spec/15 R305) -/

/-- The entry of a context's table that takes in `n` bytes at a BAR 2 offset. -/
def State.windowAt (s : State) (ctx offset n : Nat) : Option HostWindow :=
  (s.hostWindows ctx).find? fun w => w.bar ≤ offset && offset < w.bar + w.len && offset + n ≤ w.bar + w.len

/-- What translating the parts of a host access comes to: their physical addresses, a wait, or no right. -/
def hostParts (s : State) (ctx : Nat) (need : Need) : List Access → Option (Option (List (Nat × Nat)))
  | [] => some (some [])
  | a :: t => match s.translate 0 ctx a.va need with
    | .fault _ _ => none
    | .hold => some none
    | .ok pa _ _ _ => match hostParts s ctx need t with
      | some (some ps) => if s.pageFrozen pa then some none else some (some ((pa, a.size) :: ps))
      | x => x

/-- A byte at its home, past every L1 and slice. -/
def State.atHome (s : State) (pa : Nat) : Byte := memGet s.mem pa

/-- A byte written at its home by the host: slices keep the copies they hold (spec/11 R254). -/
def State.hostByte (s : State) (pa : Nat) (b : Byte) : State :=
  let held := s.slices.any fun l => l.pline = lineOf pa
  { s with
    dirty := if held && (mapGet? s.dirty pa).isNone then mapSet s.dirty pa (memGet s.mem pa) else s.dirty
    mem := memSet s.mem pa b }

/-- Consecutive bytes written at their home by the host. -/
def State.hostBytes (s : State) : Nat → List Byte → State
  | _, [] => s
  | pa, b :: t => State.hostBytes (s.hostByte pa b) (pa + 1) t

/-- The key slots of the pages of a host access noted. -/
def hostNotes (ctx : Nat) (need : Need) : List Access → State → State
  | [], s => s
  | a :: t, s => match s.translate 0 ctx a.va need with
    | .ok pa k _ big => hostNotes ctx need t (s.noteKey pa k big)
    | _ => hostNotes ctx need t s

/-- One part of a host write: at its home, past every cache, or back to the host's own memory over its link. -/
def State.hostPut (s : State) (pa : Nat) (bytes : List Byte) : State :=
  match placeOf s pa with
  | .regs => s.writeRegs (offsetOf pa) bytes
  | .hostMem => s.storeHostMem pa bytes
  | .absent => s
  | .near | .far | .cream | .hostWindow => s.hostBytes pa bytes

/-- The bytes of a write put into its parts. -/
def hostPutParts : List (Nat × Nat) → List Byte → State → State
  | [], _, s => s
  | (pa, n) :: t, bs, s => hostPutParts t (bs.drop n) ((s.drainRedsAt pa n).hostPut pa (bs.take n))

/-- What one part of a host read gives. -/
def State.hostGet (s : State) (pa n : Nat) : List Byte :=
  match placeOf s pa with
  | .regs => readWith (fun a => s.devByte (offsetOf a)) pa n
  | _ => readWith s.atHome pa n

/-- Bytes a host access covers. -/
def HostAccess.size : HostAccess → Nat
  | .read n => n
  | .write bs => bs.length

/-- HOST_BAR2_ACCESS. One whose page is frozen for migration is tried again in the next cycle. -/
def State.hostBar2 (s : State) (ctx offset : Nat) (acc : HostAccess) : State :=
  let n := HostAccess.size acc
  match s.windowAt ctx offset n with
  | none => s.send .unsupported
  | some w =>
    let va := w.va + BitVec.ofNat 80 (offset - w.bar)
    let need : Need := match acc with
      | .read _ => .read
      | .write _ => .write
    let right : Bool := match acc with
      | .read _ => w.rd
      | .write _ => w.wr
    if !right then s.send .unsupported
    else match hostParts s ctx need (bufferAccesses 0 va n) with
      | none => s.send .unsupported
      | some none => { s with inputs := (s.now + 1, .hostBar2Access ctx offset acc) :: s.inputs }
      | some (some ps) => match acc with
        | .write bs => hostPutParts ps bs (hostNotes ctx need (bufferAccesses 0 va n) s)
        | .read _ =>
          let s := hostNotes ctx need (bufferAccesses 0 va n) s
          let s := ps.foldl (fun (s : State) p => s.drainRedsAt p.1 p.2) s
          let t := ps.foldl (fun (s : State) p => if placeOf s p.1 = .regs then s.readClears (offsetOf p.1) p.2 else s) s
          t.send (.hostRead (ps.flatMap fun p => s.hostGet p.1 p.2) (ps.any fun p => s.readsPoison p.1))

/-! ## The coherent window (spec/11 R253) -/

/-- The physical address of an offset of the coherent host window. -/
def windowPa (offset : Nat) : Nat := 9 * 2 ^ 48 + offset

/-- HOST_WINDOW_READ: the host takes a copy of a line and becomes a sharer. -/
def State.hostWindowRead (s : State) (offset : Nat) : State :=
  let pa := windowPa (offset - offset % 128)
  if 0x4000000 ≤ offset || s.hostErr then s
  else
    let s := s.drainRedsAt pa 128
    let s := { s with hostShares := if s.hostShares.contains (lineOf pa) then s.hostShares else lineOf pa :: s.hostShares }
    s.send (.hostRead (readWith s.latestByte pa 128) (s.poisonAt pa))

/-- HOST_WINDOW_WRITE: visible to every die at one point, after every store before it in its line's order. -/
def State.hostWindowWrite (s : State) (offset : Nat) (bytes : List Byte) : State :=
  if 0x4000000 < offset + bytes.length || s.hostErr then s
  else
    let pa := windowPa offset
    let s := (s.drainRedsAt pa bytes.length).showAll fun r => lineOf r.pa = lineOf pa
    s.storeGA 0 256 true 0 pa bytes

/-! ## The link's error state (spec/11 R253, spec/21 R378) -/

/-- The host link in its error state: no sharer is left. -/
def State.hostLinkError (s : State) : State := { s with hostErr := true, hostShares := [] }

/-- HOST_LINK_RESET: the link is trained again, and lines the host held are void. -/
def State.hostLinkReset (s : State) (requester : Nat) : State :=
  s.command requester fun s => { s with hostErr := false, hostShares := [] }

/-- HOST_BAR2_ACCESS (spec/15 R305). -/
def execHostBar2Access (ctx offset : Nat) (acc : HostAccess) (s : State) : Host.Outcome State Fault Refusal :=
  .next (s.hostBar2 ctx offset acc)
/-- HOST_WINDOW_READ (spec/11 R253). -/
def execHostWindowRead (offset : Nat) (s : State) : Host.Outcome State Fault Refusal := .next (s.hostWindowRead offset)
/-- HOST_WINDOW_WRITE (spec/11 R253). -/
def execHostWindowWrite (offset : Nat) (bytes : List Byte) (s : State) : Host.Outcome State Fault Refusal :=
  .next (s.hostWindowWrite offset bytes)
/-- HOST_SNOOP_TIMEOUT (spec/11 R253). -/
def execHostSnoopTimeout (s : State) : Host.Outcome State Fault Refusal := .next s.hostLinkError
/-- CXL_UNCORRECTABLE_ERROR (spec/21 R378). -/
def execCxlUncorrectableError (s : State) : Host.Outcome State Fault Refusal := .next s.hostLinkError
/-- HOST_LINK_RESET (spec/21 R378). -/
def execHostLinkReset (s : State) : Host.Outcome State Fault Refusal := .next (s.hostLinkReset s.asker)

end Sys2Proof.Machine
end

