-- ==== Sys2Proof/Machine/LinkLayer.lean ====
section
/-! DEFINITION. The die-to-die links: their flit layer, and the requests and responses that it carries (spec/18 R340-R345,
spec/19 R356-R358; what a payload is: log 34). -/

namespace Sys2Proof.Machine

/-! ## A flit's check (spec/18 R341) -/

/-- One bit of a CRC-64 with the ECMA-182 polynomial, most significant bit first. -/
def crcBit (c : BitVec 64) : BitVec 64 := if c.msb then (c <<< 1) ^^^ 0x42F0E1EBA9EA3693#64 else c <<< 1

/-- One byte of it (log 34): the register's first byte leaves, and with the byte chooses what the rest is summed with. -/
def crcByte (c : BitVec 64) (b : Byte) : BitVec 64 :=
  (c <<< 8) ^^^ (List.range 8).foldl (fun x _ => crcBit x) ((c.extractLsb' 56 8 ^^^ b).setWidth 64 <<< 56)

/-- A flit's bytes 0x00 to 0xF7. -/
def flitBytes (f : Flit) : List Byte :=
  leBytes 2 f.seq.toNat ++ leBytes 2 f.ack.toNat ++ [f.kind] ++ leBytes 3 f.rsv.toNat ++ f.payload

/-- Is a flit good: 240 bytes of payload, its CRC, a KIND that is not reserved, and zeros in its reserved bytes? -/
def flitGood (f : Flit) : Bool :=
  f.payload.length == 240 && f.kind.toNat ≤ 3 && f.rsv == 0#24 && (flitBytes f).foldl crcByte 0#64 == f.crc

/-- Is it a good flit of a KIND? -/
def flitIs (f : Flit) (k : Byte) : Bool := flitGood f && f.kind == k

/-- The last SEQ delivered that a link-state flit carries, in its payload's first two bytes (log 34). -/
def flitLast (f : Flit) : BitVec 16 := BitVec.ofNat 16 (leNat (f.payload.take 2))

/-- A link's state. -/
def State.link (s : State) (k : Nat) : Link := vget s.links k Link.reset
/-- A link's state set. -/
def State.setLink (s : State) (k : Nat) (l : Link) : State := { s with links := s.links.setIfInBounds k l }

/-- A direction of a link: `true` is from the lower-listed base die of R340's pair. -/
def Link.dir (l : Link) (d : Bool) : LinkDir := if d then l.up else l.down
/-- A direction of a link set. -/
def Link.setDir (l : Link) (d : Bool) (x : LinkDir) : Link := if d then { l with up := x } else { l with down := x }

/-- SEQ - x as a signed 16-bit number. -/
def seqDelta (a b : BitVec 16) : Int := (a - b).toInt

/-- Buffered flits up to an ACK freed. -/
def LinkDir.ack (x : LinkDir) (a : BitVec 16) : LinkDir := { x with
  buffer := x.buffer.filter fun b => 0 < seqDelta b.seq a
  again := x.again.filter fun q => 0 < seqDelta q a }

/-- Has every buffered flit been sent at least once? -/
def LinkDir.allSent (x : LinkDir) : Bool := x.buffer.all fun b => b.sent.isSome

/-- A resend round from a SEQ begins: its flits go out again, oldest first, and their number counts in REPLAYS. -/
def Link.beginRound (l : Link) (d : Bool) (first : BitVec 16) (ns : Nat) : Link :=
  let x := l.dir d
  let again := (x.buffer.filter fun b => 0 ≤ seqDelta b.seq first).map (·.seq)
  if again.isEmpty then l.setDir d { x with round := none }
  else
    let x := { x with round := none, again := again, rounds := (x.rounds.filter fun t => ns < t + 100000) ++ [ns] }
    { l.setDir d x with replays := min 65535 (l.replays + again.length) }

/-- A resend round is due: it begins once every buffered flit has been sent at least once. -/
def Link.resend (l : Link) (d : Bool) (first : BitVec 16) (ns : Nat) : Link :=
  if (l.dir d).allSent then l.beginRound d first ns else l.setDir d { l.dir d with round := some first }

/-- Does a link retrain for its rounds: 8 within 100 µs (spec/18 R344)? -/
def Link.manyRounds (l : Link) (ns : Nat) : Bool :=
  let many (x : LinkDir) : Bool := 8 ≤ (x.rounds.filter fun t => ns < t + 100000).length
  many l.up || many l.down

/-- The receiver of a direction owes a NAK for the SEQ it expects: it counts a failure, and sends the NAK at most once per
0.1 µs, or at the fourth failure starts retraining. The flag asks for that. -/
def Link.failure (l : Link) (d : Bool) (ns : Nat) : Link × Bool :=
  let x := l.dir d
  let due := match x.lastNak with
    | some t => t + 100 ≤ ns
    | none => true
  if !due then (l, false)
  else
    let n := x.failures + 1
    if 4 ≤ n then (l.setDir d { x with failures := n }, true)
    else (l.setDir d { x with failures := n, lastNak := some ns, nak := true }, false)

/-- A link's state put back, with retraining begun next when it is asked for, or when 8 rounds stand within 100 µs. -/
def State.afterFlit (s : State) (k : Nat) (l : Link) (retrain : Bool) : State :=
  let s := s.setLink k l
  if retrain || l.manyRounds s.ns then s.soon (.linkRetrain k) else s

/-- A flit that fails its check is discarded whole and counted. -/
def State.badFlit (s : State) (k : Nat) (l : Link) (d : Bool) : State :=
  let (l, again) := { l with crc := min 0xFFFFFFFF (l.crc + 1) }.failure d s.ns
  s.afterFlit k l again

/-! ## Messages (spec/18 R340, R343, R344, spec/19 R356) -/

/-- The base die that sends in a direction of a link, and the one that receives. -/
def linkFrom (k : Nat) (d : Bool) : Nat := ringBase (if d then k else k + 1)
def linkInto (k : Nat) (d : Bool) : Nat := ringBase (if d then k + 1 else k)

/-- Where a message is going. -/
def LinkMsg.target (m : LinkMsg) : Nat := if m.back then m.src else m.dst

/-- A message put in the queue of the next link on its way from a base die; round a link that is down and that has
told what it has delivered, it goes the other way, when that is open. -/
def State.putMsg (s : State) (here : Nat) (m : LinkMsg) : State :=
  let next (up : Bool) : Nat := if up then ringPos here else (ringPos here + 3) % 4
  let l := s.link (next m.up)
  let up := if l.state = 3 && (l.dir m.up).told && s.wayOpen here m.target (!m.up) then !m.up else m.up
  let k := next up
  let x := (s.link k).dir up
  s.setLink k ((s.link k).setDir up { x with queue := x.queue ++ [{ m with up := up }] })

/-- A message delivered at a base die: a request at its home, a response at the requester's base die, or one that goes
on. -/
def State.takeMsg (s : State) (here : Nat) (m : LinkMsg) : State :=
  let mine (r : Req) : Bool := r.op == m.op && r.lane == m.lane
  if here != m.target then s.putMsg here m
  else if m.back then { s with reqs := s.reqs.filter fun r => !(mine r && r.stage == .back) }
  else { s with reqs := s.reqs.filter (fun r => !(mine r && r.stage == .out))
      ++ (s.reqs.filter fun r => mine r && r.stage == .out).map fun r => { r with stage := .home } }

/-- LINK_DATA_FLIT: a good one with the SEQ expected delivers its messages, which the sender's replay buffer holds. -/
def State.dataFlit (s : State) (k : Nat) (d : Bool) (f : Flit) : State :=
  let l := s.link k
  if l.state != 1 then s
  else if !flitIs f 1#8 then s.badFlit k l d
  else
    let l := l.setDir (!d) ((l.dir !d).ack f.ack)
    let x := l.dir d
    let n := seqDelta f.seq x.expect
    if n = 0 then match x.buffer.find? fun b => b.seq == f.seq && b.sent.isSome with
      | some b => b.msgs.foldl (fun (s : State) m => s.takeMsg (linkInto k d) m)
          (s.afterFlit k (l.setDir d { x with expect := x.expect + 1#16, failures := 0 }) false)
      | none => s.afterFlit k l false
    else if n < 0 then s.afterFlit k l false
    else
      let (l, again) := l.failure d s.ns
      s.afterFlit k l again

/-- LINK_IDLE_FLIT. -/
def State.idleFlit (s : State) (k : Nat) (d : Bool) (f : Flit) : State :=
  let l := s.link k
  if l.state != 1 then s
  else if !flitIs f 0#8 then s.badFlit k l d
  else s.afterFlit k (l.setDir (!d) ((l.dir !d).ack f.ack)) false

/-- LINK_NAK. -/
def State.nakFlit (s : State) (k : Nat) (d : Bool) (f : Flit) : State :=
  let l := s.link k
  if l.state != 1 then s
  else if !flitIs f 2#8 then s.badFlit k l d
  else
    let l := l.setDir (!d) ((l.dir !d).ack f.ack)
    s.afterFlit k (l.resend (!d) (f.ack + 1#16) s.ns) false

/-- The link over which the link-state flit of a down link's sender comes in at the other end, the other way round the
ring. -/
def stateVia (k : Nat) (d : Bool) : Nat := if d then (k + 1) % 4 else (k + 3) % 4

/-- LINK_STATE_FLIT: around a down link each end learns what the other has delivered, and the rest goes the other way
round the ring, each message once. A bad one is counted at the link that brought it, and comes again (log 34). -/
def State.stateFlit (s : State) (k : Nat) (d : Bool) (f : Flit) : State :=
  let l := s.link k
  if l.state != 3 || (l.dir !d).told then s
  else if !flitIs f 3#8 then
    let v := s.link (stateVia k d)
    let s := s.setLink (stateVia k d) { v with crc := min 0xFFFFFFFF (v.crc + 1) }
    State.tookDelay (s.setLink k (l.setDir d { l.dir d with stateAt := some (s.now + s.nextDelay) }))
  else
    let x := (l.dir !d).ack (flitLast f)
    let msgs := x.buffer.flatMap (·.msgs) ++ x.queue
    let x := { x with buffer := [], queue := [], round := none, again := [], expect := x.nextSeq, failures := 0, told := true }
    msgs.foldl (fun (s : State) m => s.putMsg (linkFrom k !d) m) (s.setLink k (l.setDir (!d) x))

/-- Has the oldest buffered flit of a direction waited 2 µs for its ACK, with no round under way or due? -/
def Link.waited (l : Link) (d : Bool) (ns : Nat) : Bool :=
  let x := l.dir d
  l.state = 1 && x.again.isEmpty && x.round.isNone && match x.buffer with
    | b :: _ => b.sent.any fun t => t + 2000 ≤ ns
    | [] => false

/-- LINK_RESEND_TIMEOUT: a round from the oldest buffered flit. -/
def State.linkTimeout (s : State) (k : Nat) (d : Bool) : State :=
  let l := s.link k
  if !l.waited d s.ns then s
  else match (l.dir d).buffer with
    | b :: _ => s.afterFlit k (l.resend d b.seq s.ns) false
    | [] => s

/-- A link at a new state and width; LKSTEP has the time of the change. -/
def State.linkTo (s : State) (k state lanes : Nat) : State :=
  let l := s.link k
  if l.state = state && l.lanes = lanes then s
  else s.setLink k { l with state := state, lanes := lanes, step := BitVec.ofNat 32 (s.ns / 1000), sinceNs := s.ns }

/-- LINK_RETRAIN: after 8 rounds within 100 µs, or 4 failures of one SEQ. Traffic stops; what is on the way is not
received, and the replay buffers are kept. -/
def State.linkRetrain (s : State) (k : Nat) : State :=
  let l := s.link k
  if l.state != 1 || !(4 ≤ l.up.failures || 4 ≤ l.down.failures || l.manyRounds s.ns) then s
  else
    let calm (x : LinkDir) : LinkDir := { x with rounds := [], round := none, again := [], wire := [], nak := false, lastNak := none }
    (s.setLink k { l with up := calm l.up, down := calm l.down }).linkTo k 2 l.lanes

/-- Does every lane of a half pass? -/
def halfPasses (upper : Bool) (good : BitVec 64) : Bool := good.extractLsb' (if upper then 32 else 0) 32 = 0xFFFFFFFF#32

/-- The width on which a link resumes after its lanes are tested, 0 for none: one that has stepped down stays at 32. -/
def resumeLanes (before : Nat) (good : BitVec 64) : Nat :=
  if good = 0xFFFFFFFFFFFFFFFF#64 then (if before = 32 then 32 else 64)
  else if halfPasses false good || halfPasses true good then 32 else 0

/-- The lanes of a link that pass a test, in both directions. -/
def Link.passing (l : Link) : BitVec 64 := l.up.pass &&& l.down.pass

/-- Each end's whole replay buffer is resent, oldest first, as traffic resumes (spec/19 R357). -/
def Link.resume (l : Link) (ns : Nat) : Link :=
  let sent (x : LinkDir) : List (BitVec 16) := (x.buffer.filter fun b => b.sent.isSome).map (·.seq)
  let back (x : LinkDir) : LinkDir := { x with
    again := sent x
    buffer := x.buffer.map fun b => { b with sent := b.sent.map fun _ => ns }
    nextNs := ns, stateAt := none, told := false }
  { l with
    up := back l.up
    down := back l.down
    replays := min 65535 (l.replays + (sent l.up).length + (sent l.down).length) }

/-- A link goes down: each end's link-state flit is on its way round the ring. -/
def State.linkFails (s : State) (k : Nat) : State :=
  let s := s.linkTo k 3 (s.link k).lanes
  let l := s.link k
  let at_ := some (s.now + s.nextDelay)
  State.tookDelay ((s.setLink k { l with
    up := { l.up with stateAt := at_, told := false }
    down := { l.down with stateAt := at_, told := false } }).send (.management 3 [BitVec.ofNat 8 k]))

/-- What a test of a link's lanes comes to: traffic again, on the half that passes or the lower when both do, or a
link that is down; a change is reported (log 35). -/
def State.linkTested (s : State) (k : Nat) (good : BitVec 64) : State :=
  let l := s.link k
  let n := resumeLanes l.lanes good
  if n = 0 then (if l.state = 3 then s else s.linkFails k)
  else
    let t := (s.setLink k { l.resume s.ns with upper := n = 32 && !halfPasses false good }).linkTo k 1 n
    if l.state = 3 then t.send (.management 1 [BitVec.ofNat 8 k]) else t

/-- LINK_RETRAIN_END. -/
def State.linkRetrainEnd (s : State) (k : Nat) (good : BitVec 64) : State :=
  if (s.link k).state = 2 then s.linkTested k good else s

/-- LINK_DOWN_RETEST. -/
def State.linkRetest (s : State) (k : Nat) (good : BitVec 64) : State :=
  if (s.link k).state = 3 then s.linkTested k good else s

/-- LKCRC_READ. -/
def State.lkcrcRead (s : State) (k : Nat) : State := s.setLink k { s.link k with crc := 0 }

/-! ## The senders (spec/18 R342, spec/19 R356) -/

/-- A message in the payload of a flit (log 34). -/
def LinkMsg.bytes (m : LinkMsg) : List Byte :=
  leBytes 8 m.op ++ [BitVec.ofNat 8 m.lane, BitVec.ofNat 8 m.src, BitVec.ofNat 8 m.dst, if m.back then 1#8 else 0#8]
    ++ leBytes 4 0

/-- A flit as it goes out; a bad lane or a hit spoils its CRC. -/
def makeFlit (kind : Byte) (seq ack : BitVec 16) (payload : List Byte) (spoilt : Bool) : Flit :=
  let f : Flit := ⟨seq, ack, kind, 0#24, (payload ++ List.replicate 240 0#8).take 240, 0#64⟩
  let c := (flitBytes f).foldl crcByte 0#64
  { f with crc := if spoilt then ~~~c else c }

/-- May a message share a flit: 15 fit, of them one atomic's request and one atomic's response? -/
def LinkMsg.fits (m : LinkMsg) (b : LinkFlit) : Bool :=
  b.sent.isNone && b.msgs.length < 15 && !(m.atomic && b.msgs.any fun x => x.atomic && x.back == m.back)

/-- Waiting messages enter the replay buffer in their order, while it has room and no round is due or under way. -/
def fillFlits : Nat → LinkDir → LinkDir
  | 0, x => x
  | fuel + 1, x =>
    match x.queue with
    | [] => x
    | m :: rest =>
      if x.round.isSome || !x.again.isEmpty then x
      else match x.buffer.getLast? with
        | some b =>
          if m.fits b then
            fillFlits fuel { x with queue := rest, buffer := x.buffer.dropLast ++ [{ b with msgs := b.msgs ++ [m] }] }
          else if 512 ≤ x.buffer.length then x
          else fillFlits fuel { x with queue := rest, nextSeq := x.nextSeq + 1#16, buffer := x.buffer ++ [⟨x.nextSeq, [m], none⟩] }
        | none => fillFlits fuel { x with queue := rest, nextSeq := x.nextSeq + 1#16, buffer := [⟨x.nextSeq, [m], none⟩] }

/-- Is a lane in use bad in a direction, so that its flits fail their check? -/
def Link.spoils (l : Link) (d : Bool) : Bool :=
  let p := (l.dir d).pass
  if l.lanes = 64 then p != 0xFFFFFFFFFFFFFFFF#64 else !halfPasses l.upper p

/-- A flit of the replay buffer is sent now. -/
def LinkDir.sends (x : LinkDir) (q : BitVec 16) (ns : Nat) : LinkDir := { x with
  buffer := x.buffer.map fun b => if b.seq = q then { b with sent := some ns } else b
  again := x.again.filter (· != q) }

/-- The flit that an end sends in its flit time, with its link: a NAK first, then a data flit of a round or as traffic
resumes, then a new one; an idle flit when none is due. An idle flit that could neither free a flit nor fail its check is
left out: it would change nothing. -/
def Link.nextFlit (l : Link) (d : Bool) (ns : Nat) (spoilt : Bool) : Option (Flit × Link) :=
  let x := l.dir d
  let other := l.dir !d
  let ack := other.expect - 1#16
  let data (b : LinkFlit) : Flit × Link :=
    (makeFlit 1#8 b.seq ack (b.msgs.flatMap LinkMsg.bytes) spoilt, l.setDir d (x.sends b.seq ns))
  if other.nak then some (makeFlit 2#8 0#16 ack [] spoilt, l.setDir (!d) { other with nak := false })
  else match x.buffer.find? fun b => x.again.head? == some b.seq with
  | some b => some (data b)
  | none => match x.buffer.find? fun b => b.sent.isNone with
    | some b => some (data b)
    | none =>
      if !other.buffer.isEmpty || spoilt then some (makeFlit 0#8 0#16 ack [] spoilt, l) else none

/-- A flit time of a direction: 1 ns at 64 lanes, 2 ns at 32. -/
def Link.flitNs (l : Link) : Nat := if l.lanes = 64 then 1 else 2

/-- An end of a link that carries traffic sends the next flit due. How long a flit takes is free, but none passes another
(R342 calls its figures typical: log 2). -/
def State.sendLink (s : State) (k : Nat) (d : Bool) : State :=
  let l := s.link k
  if l.state != 1 || s.ns < (l.dir d).nextNs then s
  else
    let l := match (l.dir d).round with
      | some q => if (l.dir d).allSent then l.beginRound d q s.ns else l
      | none => l
    match l.nextFlit d s.ns (l.spoils d || s.nextHit) with
    | none => s.setLink k l
    | some (f, l) =>
      let x := l.dir d
      let at_ := max (s.now + s.nextDelay) ((x.wire.getLast?.map (·.1)).getD 0)
      let s := s.tookDelay.tookHit.setLink k (l.setDir d { x with nextNs := s.ns + l.flitNs, wire := x.wire ++ [(at_, f)] })
      if l.manyRounds s.ns then s.later (.linkRetrain k) else s

/-- The event that a flit is as it arrives. -/
def flitEvent (k : Nat) (d : Bool) (f : Flit) : Event :=
  if f.kind = 1#8 then .linkDataFlit k d f else if f.kind = 2#8 then .linkNak k d f
  else if f.kind = 3#8 then .linkStateFlit k d f else .linkIdleFlit k d f

/-- The flits of a direction that arrive now, and its waiting messages as far as they find a place; the messages that
wait at a down link go the other way once that is open. -/
def State.runDir (s : State) (k : Nat) (d : Bool) : State :=
  let l := s.link k
  let x := l.dir d
  let here := x.wire.filter fun w => w.1 ≤ s.now
  let x := { x with wire := x.wire.filter fun w => s.now < w.1 }
  let turn := if l.state = 3 && x.told then x.queue.filter fun m => s.wayOpen (linkFrom k d) m.target (!m.up) else []
  let x := { x with queue := x.queue.filter fun m => !turn.contains m }
  let x := if l.state = 1 || l.state = 2 then fillFlits x.queue.length x else x
  let s := turn.foldl (fun (s : State) m => s.putMsg (linkFrom k d) m) (s.setLink k (l.setDir d x))
  (here.foldl (fun (s : State) w => s.later (flitEvent k d w.2)) s).sendLink k d

/-- The link-state flit of an end of a down link comes out at the other end, while the other way round the ring carries
traffic. -/
def State.runState (s : State) (k : Nat) (d : Bool) : State :=
  let l := s.link k
  let way := ringWay (linkFrom k d) (linkInto k d) (!d)
  if l.state != 3 || !(l.dir d).stateAt.any (· ≤ s.now) || !way.all (fun j => s.linkState j == 1) then s
  else
    let f := makeFlit 3#8 0#16 0#16 (leBytes 2 ((l.dir !d).expect - 1#16).toNat) s.nextHit
    State.later (s.tookHit.setLink k (l.setDir d { l.dir d with stateAt := none })) (.linkStateFlit k d f)

/-! ## Requests and responses (spec/18 R343, R344, spec/19 R356) -/

/-- May a lane's access leave for its home over the links: nothing older of its lane keeps it back, no cache or queue
of its core serves it, and a route is open? -/
def State.mayRequest (s : State) (o : Op) (a : Access) : Bool :=
  (s.forwarded o a).isNone && !s.readsCache o a && (s.aheadOf o a.lane).all (fun p => !s.behind o a p)
    && (s.wayNow (baseOf (dieOf o.group)) (homeBase a.paNat)).isSome

/-- Is a message of an operation an atomic's? -/
def OpKind.linkAtomic : OpKind → Bool
  | .atom _ _ _ _ | .red _ _ _ _ => true
  | _ => false

/-- The requests of an operation that may leave, in increasing lane number: a lane's waits for those of lower lanes to the
same home (spec/19 R356). -/
def State.launchReqs (s : State) (id : Nat) (o : Op) : State :=
  let src := baseOf (dieOf o.group)
  let go (x : State × List Nat) (a : Access) : State × List Nat :=
    let dst := homeBase a.paNat
    let (s, shut) := x
    if dst = src || (s.reqOf o a.lane).isSome || s.readsCache o a then x
    else if shut.contains dst || !s.mayRequest o a then (s, dst :: shut)
    else match s.wayNow src dst with
      | none => (s, dst :: shut)
      | some up => (State.putMsg { s with reqs := s.reqs ++ [⟨id, a.lane, src, dst, .out⟩] } src
          ⟨id, a.lane, src, dst, false, up, o.kind.linkAtomic⟩, shut)
  (o.toDo.foldl go (s, [])).1

/-- Has an operation requests to make over the links? -/
def Op.crosses (o : Op) : Bool :=
  o.kind.byLane && o.walked && o.ackLost.isNone && (o.left || o.kind.need == .read)
    && o.toDo.any fun a => homeBase a.paNat != baseOf (dieOf o.group)

/-- The response of a request that has been served leaves its home, while a route is open. -/
def State.answerReq (s : State) (r : Req) : State :=
  let served := match mapGet? s.ops r.op with
    | some o => !o.toDo.any fun a => a.lane == r.lane
    | none => false
  match if r.stage == .home && served then s.wayNow r.dst r.src else none with
  | none => s
  | some up => State.putMsg { s with reqs := s.reqs.map fun x => if x == r then { x with stage := .back } else x } r.dst
      ⟨r.op, r.lane, r.src, r.dst, true, up, match mapGet? s.ops r.op with
        | some o => o.kind.linkAtomic
        | none => false⟩

/-- A core cycle of the links: responses and requests leave, flits arrive and go out. -/
def State.runLinks (s : State) : State :=
  let s : State := { s with reqs := s.reqs.filter fun r => (mapGet? s.ops r.op).isSome }
  let s := s.reqs.foldl State.answerReq s
  let s := (s.ops.filter fun p => p.2.crosses).foldl (fun (s : State) p =>
    if s.opFree p.2 && !(isImage p.2.group && p.2.kind.heldBack && !p.2.left) then s.launchReqs p.1 p.2 else s) s
  (List.range 4).foldl (fun (s : State) k =>
    ((((s.runDir k true).runDir k false).runState k true).runState k false)) s

/-- LINK_DATA_FLIT (spec/18 R342). -/
def execLinkDataFlit (link : Nat) (dir : Bool) (flit : Flit) (s : State) : Host.Outcome State Fault Refusal :=
  .next (s.dataFlit link dir flit)
/-- LINK_IDLE_FLIT (spec/18 R342). -/
def execLinkIdleFlit (link : Nat) (dir : Bool) (flit : Flit) (s : State) : Host.Outcome State Fault Refusal :=
  .next (s.idleFlit link dir flit)
/-- LINK_NAK (spec/18 R342). -/
def execLinkNak (link : Nat) (dir : Bool) (flit : Flit) (s : State) : Host.Outcome State Fault Refusal :=
  .next (s.nakFlit link dir flit)
/-- LINK_STATE_FLIT (spec/18 R344). -/
def execLinkStateFlit (link : Nat) (dir : Bool) (flit : Flit) (s : State) : Host.Outcome State Fault Refusal :=
  .next (s.stateFlit link dir flit)
/-- LINK_RESEND_TIMEOUT (spec/18 R342). -/
def execLinkResendTimeout (link : Nat) (dir : Bool) (s : State) : Host.Outcome State Fault Refusal :=
  .next (s.linkTimeout link dir)
/-- LINK_RETRAIN (spec/18 R344). -/
def execLinkRetrain (link : Nat) (s : State) : Host.Outcome State Fault Refusal := .next (s.linkRetrain link)
/-- LINK_RETRAIN_END (spec/18 R344). -/
def execLinkRetrainEnd (link : Nat) (good : BitVec 64) (s : State) : Host.Outcome State Fault Refusal :=
  .next (s.linkRetrainEnd link good)
/-- LINK_DOWN_RETEST (spec/18 R344). -/
def execLinkDownRetest (link : Nat) (good : BitVec 64) (s : State) : Host.Outcome State Fault Refusal :=
  .next (s.linkRetest link good)
/-- LKCRC_READ (spec/18 R345). -/
def execLkcrcRead (link : Nat) (s : State) : Host.Outcome State Fault Refusal := .next (s.lkcrcRead link)

end Sys2Proof.Machine
end

