-- ==== Sys2Proof/Machine/Ports.lean ====
section
/-! DEFINITION. Optical ports, lanes and laser modules, the fabric's flits, and the switch agents (spec/17 R311-R335,
spec/20 R361, R362). -/

namespace Sys2Proof.Machine

/-! ## Lanes (spec/17 R316-R319) -/

/-- A lane of a port. -/
def Port.lane (p : Port) (i : Nat) : OptLane := vget p.lanes i OptLane.reset
/-- A lane of a port set. -/
def Port.setLane (p : Port) (i : Nat) (l : OptLane) : Port := { p with lanes := p.lanes.setIfInBounds i l }
/-- A lane of a port changed. -/
def State.modLane (s : State) (n i : Nat) (f : OptLane → OptLane) : State :=
  s.setPort n ((s.port n).setLane i (f ((s.port n).lane i)))

/-- How far a temperature lies outside the modulator's window, in 0.01 °C. -/
def outside (t : BitVec 16) : Nat := (max (3500 - t.toInt) (t.toInt - 7000)).toNat

/-- How far outside the window a rate's band reaches. -/
def bandOf (rate : Nat) : Nat := (4 - rate) * 200

/-- The highest rate whose band holds a temperature, 0 for off. -/
def rateFor (t : BitVec 16) : Nat :=
  let d := outside t
  if d = 0 then 4 else if d ≤ 200 then 3 else if d ≤ 400 then 2 else if d ≤ 600 then 1 else 0

/-- Is a temperature 0.50 °C inside a rate's band? -/
def wellInside (t : BitVec 16) (rate : Nat) : Bool :=
  3500 - (bandOf rate : Int) + 50 ≤ t.toInt && t.toInt ≤ 7000 + (bandOf rate : Int) - 50

/-- Usable lanes of a port. -/
def Port.usable (p : Port) : Nat := (p.lanes.toList.filter OptLane.usable).length

/-- A port that has been trained and has fewer than two usable lanes goes dark (spec/17 R316); the stripe takes its
rate. -/
def State.checkLanes (s : State) (n : Nat) : State :=
  let p := s.port n
  if 2 ≤ p.state && p.usable < 2 then s.portDark n 0x05#8 else s

/-- A lane at a temperature: it steps down at once, to the rate whose band holds that, and up one step once the
temperature has stayed 0.50 °C inside the higher band for 10 ms; a rate change retrains it. -/
def OptLane.atTemp (l : OptLane) (ns : Nat) (t : BitVec 16) : OptLane :=
  let r := rateFor t
  let l := { l with temp := t, sampled := true }
  if r < l.rate then { l with rate := r, retraining := r != 0, highSince := none }
  else if 4 ≤ l.rate || !wellInside t (l.rate + 1) then { l with highSince := none }
  else match l.highSince with
    | none => { l with highSince := some ns }
    | some a => if ns < a + 10000000 then l else { l with rate := l.rate + 1, retraining := true, highSince := none }

/-- LANE_RATE_STEP_DOWN and LANE_RATE_STEP_UP: a lane's temperature sampled. -/
def State.laneTemp (s : State) (n i : Nat) (t : BitVec 16) : State :=
  (s.modLane n i fun l => l.atTemp s.ns t).checkLanes n

/-- LANE_RETRAIN_END. -/
def State.laneTrained (s : State) (n i : Nat) : State := s.modLane n i fun l => { l with retraining := false }

/-- Has a lane's bias reached 1.5 times its first (spec/17 R318)? -/
def OptLane.worn (l : OptLane) : Bool := l.noted && 3 * l.bias0.toNat ≤ 2 * l.bias.toNat

/-- LANE_RETIRE. -/
def State.laneRetire (s : State) (n i : Nat) : State :=
  (s.modLane n i fun l => if l.worn then { l with retire := true } else l).checkLanes n

/-- LSTAT_RETIRE_WRITE: RETIRE is set by writing one. -/
def State.lstatWrite (s : State) (n i : Nat) (v : Word) : State :=
  if v.getLsbD 31 then (s.modLane n i fun l => { l with retire := true }).checkLanes n else s

/-- A tap register whose MIN and MAX are its CUR. -/
def tapClear (t : BitVec 48) : BitVec 48 :=
  let c := t.extractLsb' 0 16
  c ++ c ++ c

/-- A tap register after a sample. -/
def tapSample (t : BitVec 48) (c : BitVec 16) : BitVec 48 :=
  let lo := t.extractLsb' 16 16
  let hi := t.extractLsb' 32 16
  (if hi.toInt < c.toInt then c else hi) ++ (if c.toInt < lo.toInt then c else lo) ++ c

/-- PCAP_WRITE. -/
def State.pcapWrite (s : State) (n : Nat) (v : Word) : State :=
  if v.getLsbD 0 then
    let clear (l : OptLane) : OptLane := { l with cpl := tapClear l.cpl, spl := tapClear l.spl, modTap := tapClear l.modTap }
    let p := s.port n
    s.setPort n { p with lanes := p.lanes.map clear }
  else s

/-- TAP_SAMPLE. -/
def State.tapSampled (s : State) (n i : Nat) (cpl spl mod : BitVec 16) : State :=
  s.modLane n i fun l => { l with
    cpl := tapSample l.cpl cpl
    spl := tapSample l.spl spl
    modTap := tapSample l.modTap mod }

/-! ## Laser modules (spec/17 R318, R320, R321) -/

/-- The ports that a module feeds. -/
def modulePorts (m : Nat) : List Nat := (List.range 16).map (16 * m + ·)

/-- What a lane keeps when its module is removed. -/
def OptLane.unfed (l : OptLane) : OptLane :=
  { l with retire := false, wear := false, bias0 := 0#16, noted := false, age := 0#32, ageAcc := 0, locked := false }

/-- LASER_MODULE_REMOVE. -/
def State.moduleRemove (s : State) (m : Nat) : State :=
  let s := (modulePorts m).foldl (fun (s : State) n => s.portDark n 0x04#8)
    { s with modules := s.modules.setIfInBounds m 0 }
  (modulePorts m).foldl (fun (s : State) n =>
    let p := s.port n
    s.setPort n { p with lanes := p.lanes.map OptLane.unfed }) s

/-- LASER_MODULE_INSERT: one that does not advertise 64 channels is refused, and its ports stay dark with cause 0x04. -/
def State.moduleInsert (s : State) (m channels : Nat) : State :=
  if channels = 64 then { s with modules := s.modules.setIfInBounds m 64 }
  else (modulePorts m).foldl (fun (s : State) n => s.setPort n { s.port n with cause := 0x04#8 }) s

/-- The weight of an hour at a module temperature in °C: doubled for every full 10 above 50 (spec/17 R317). -/
def ageWeight (t : Int) : Nat := 2 ^ ((t - 50) / 10).toNat

/-- A lane's monitors as a poll reads them; its age grows by the 10 ms since the last while its lasers are on. -/
def OptLane.polled (l : OptLane) (bias : BitVec 16) (on : Bool) (t : Int) : OptLane :=
  let acc := l.ageAcc + if on then 10 * ageWeight t else 0
  { l with
    bias := bias
    wear := l.noted && 13 * l.bias0.toNat ≤ 10 * bias.toNat
    age := satInc l.age (acc / 3600000)
    ageAcc := acc % 3600000 }

/-- MODULE_MONITOR_POLL. -/
def State.modulePoll (s : State) (m : Nat) (bias : List (BitVec 16)) (t : Int) : State :=
  if vget s.modules m 0 != 64 then s
  else (modulePorts m).foldl (fun (s : State) n =>
    (List.range 4).foldl (fun (s : State) i =>
      let on := (s.port n).lights || (s.port n).state != 0
      let s := s.modLane n i fun l => l.polled (bias.getD (4 * (n % 16) + i) 0#16) on t
      let l := (s.port n).lane i
      if l.worn && !l.retire then s.later (.laneRetire n i) else s) s) s

/-- LASER_CHANNEL_FAILURE (spec/17 R313). -/
def State.channelFails (s : State) (n i : Nat) : State :=
  (s.modLane n i fun l => { l with failed := true }).portDark n 0x04#8

/-! ## Bringing a port up (spec/17 R312, R334, R335, spec/20 R362) -/

/-- PORT_SETTLED: a port whose lasers are on enters locking; no lane of it has locked yet. -/
def State.portSettled (s : State) (n : Nat) : State :=
  let p := s.port n
  if p.state = 0 && p.lights then
    s.setPort n { p with state := 1, sinceNs := s.ns, lanes := p.lanes.map fun l => { l with locked := false } } else s

/-- A lane that locks, or does not: its bias at its first lock is BIAS0. -/
def OptLane.lock (l : OptLane) (ok : Bool) : OptLane :=
  if ok then { l with locked := true, noted := true, bias0 := if l.noted then l.bias0 else l.bias } else { l with locked := false }

/-- A lane as training leaves it: one that has trained runs at the highest rate its band allows, a lane whose temperature
has never been reported as one inside the window (log 37). -/
def OptLane.trained (l : OptLane) (locked trained : Bool) : OptLane :=
  let l := l.lock locked
  if locked && trained then { l with
    failed := false
    retraining := false
    rate := if l.sampled then rateFor l.temp else 4 }
  else { l with failed := true }

/-- May a lane lock: it is not retired, off for its temperature, or retraining (spec/17 R316, spec/20 R362)? -/
def OptLane.mayLock (l : OptLane) : Bool := !l.retire && !l.retraining && !(l.sampled && rateFor l.temp = 0)

/-! ### Keys (spec/17 R334, R335) -/

/-- The keys of a port or a session. -/
def State.keysOf (s : State) : KeyFor → Keys
  | .port n => (s.port n).keys
  | .session n => (s.session n).keys
/-- Those keys changed. -/
def State.setKeys (s : State) (who : KeyFor) (k : Keys) : State :=
  match who with
  | .port n => s.setPort n { s.port n with keys := k }
  | .session n => s.setSession n { s.session n with keys := k }

/-- What both sides of a key agreement know of its transcript beforehand (spec/17 R334): the plane and both ports with the
ticket's XID, or the session's number and open count; `low` says that this side's identity key is the lower, whose port
goes first (log 16). -/
def State.transcript (s : State) (low : Bool) : KeyFor → List Byte
  | .port n =>
    let p := s.port n
    let seq : BitVec 24 := match p.ticket with
      | some slot => (s.ticket slot).seq
      | none => 0#24
    let (a, b) : Nat × Nat := if low then (n, p.peerPort.toNat) else (p.peerPort.toNat, n)
    [BitVec.ofNat 8 (planeOf n), BitVec.ofNat 8 a, BitVec.ofNat 8 b, BitVec.ofNat 8 (p.ticket.getD 0)] ++ leBytes 3 seq.toNat
  | .session n => leBytes 2 n ++ leBytes 4 (s.session n).opens

/-- This package's identity public key. -/
def identityKey : List Byte := (List.range 57).map Config.identityByte
/-- The public key of an ephemeral key pair. -/
def ephemeralKey (draw : Nat) : List Byte := (List.range 56).map (Config.ephemeralByte draw)

/-- This side's message of a key agreement, with a new ephemeral key pair (steps 1 and 2): its ephemeral public key, its
identity public key and its signature, 56, 57 and 114 bytes. -/
def State.keyMessage (s : State) (who : KeyFor) : State :=
  let d := s.ident.draws
  let own := ephemeralKey d ++ identityKey
  let m := own ++ (List.range 114).map (Config.keySigByte d (own ++ s.transcript true who))
  let s := State.setKeys { s with ident := { s.ident with draws := d + 1 } } who { s.keysOf who with agree := some (d, s.ns) }
  match who with
  | .port n => s.send (.keyShare n m)
  | .session n => s.wheyPut n 3 0#32 m

/-- Does the pod roster hold an identity key (spec/17 R334)? -/
def Identity.peerKnown (x : Identity) (key : List Byte) : Bool :=
  if x.podSet then x.podRoster.contains key else Config.factoryPeer key

/-- The identity key that a peer's message brings. -/
def peerIdentity (m : List Byte) : List Byte := (m.drop 56).take 57

/-- Are bytes lower than others, the first that differ deciding? -/
def bytesLow : List Byte → List Byte → Bool
  | a :: s, b :: t => if a = b then bytesLow s t else a.toNat < b.toNat
  | [], t => !t.isEmpty
  | _, [] => false

/-- The keys that an agreement gives (step 4): 88 bytes of SHAKE256 over the shared secret and the transcript are the
key of the direction sent by the side with the lower identity key, the other's, and the two directions' IV bases. -/
def State.agreedKeys (s : State) (who : KeyFor) (draw : Nat) (m : List Byte) : KeyHalf × KeyHalf :=
  let peer := m.take 56
  let low := bytesLow identityKey (peerIdentity m)
  let z := (List.range 56).map (Config.sharedByte draw peer)
  let pair (a b : List Byte) : List Byte := if low then a ++ b else b ++ a
  let script := pair (ephemeralKey draw) peer ++ pair identityKey (peerIdentity m) ++ s.transcript low who
  let k := (List.range 88).map (Config.shakeByte (z ++ script))
  let iv (o : Nat) : BitVec 96 := BitVec.ofNat 96 (leNat ((k.drop o).take 12).reverse)
  let first : KeyHalf := ⟨k.take 32, iv 64⟩
  let second : KeyHalf := ⟨(k.drop 32).take 32, iv 76⟩
  if low then (first, second) else (second, first)

/-- Keys agreed for the first time, or anew: new ones are in use from the marked frame of each side (spec/17 R335). The
ephemeral key is gone with the agreement (step 5). -/
def Keys.with_ (k : Keys) (anew : Bool) (x : KeyHalf × KeyHalf) : Keys :=
  if anew then { k with send := x.1, next := some x.2, mark := true, agree := none } else ⟨x.1, x.2, none, false, none⟩

/-- The peer's marked frame has come: its new keys are in use. -/
def Keys.turned (k : Keys) : Keys := match k.next with
  | some r => { k with recv := r, next := none }
  | none => k

/-- PORT_TRAINED: the lanes that lock and train keep what that gives them, and with two usable lanes the port is
trained and its keys are agreed next; a port that does not train goes on trying. -/
def State.portTrained (s : State) (n : Nat) (up : LanesUp) : State :=
  let p := s.port n
  let q := { p with lanes := p.lanes.mapIdx fun (i : Nat) (l : OptLane) => l.trained (up.locked.getLsbD i) (up.trained.getLsbD i) }
  if p.state != 1 then s
  else if 2 ≤ q.usable then (s.setPort n { q with state := 2, sinceNs := s.ns }).keyMessage (.port n) else s.setPort n q

/-- PORT_LOCK_TIMEOUT: 0x02 when some lane the port could use is not locked, 0x03 otherwise. -/
def State.lockTimeout (s : State) (n : Nat) (unlocked : BitVec 4) : State :=
  let p := s.port n
  if p.state != 1 || s.ns < p.sinceNs + 2000000 then s
  else
    let open_ := (List.range 4).any fun i => unlocked.getLsbD i && (p.lane i).mayLock
    s.portDark n (if open_ then 0x02#8 else 0x03#8)

/-- Keys agreed. A port that was trained is live, or gated when its plane is drained, and its ticket is live; a session
opens. One that carried traffic already changes to them. -/
def State.keysAgreed (s : State) (who : KeyFor) (x : KeyHalf × KeyHalf) : State :=
  match who with
  | .port n =>
    let p := s.port n
    if 3 ≤ p.state then
      s.setPort n { p with keyNs := s.ns, frames := 0, sent := 0, keyGen := p.keyGen + 1, keys := p.keys.with_ true x }
    else
      let s := s.setPort n { p with
        state := if s.drained.getLsbD (planeOf n) then 4 else 3
        sinceNs := s.ns, lastNs := s.ns, keyNs := s.ns, frames := 0, sent := 0, badAuth := 0, keyGen := p.keyGen + 1
        keys := p.keys.with_ false x }
      let s := match p.ticket with
        | some slot => s.ticketTo slot 4 0#8
        | none => s
      s.restripe
  | .session n =>
    let y := s.session n
    let y := { y with openNs := s.ns, frames := 0, sent := 0, keyGen := y.keyGen + 1, keys := y.keys.with_ (y.state == 2) x }
    s.setSession n (if y.state = 2 then y else { y with state := 2, lastAck := s.ns })

/-- A session closed: a WRECV that waits on it ends at its next test. -/
def State.closeSession (s : State) (n : Nat) : State :=
  s.setSession n { s.session n with state := 0, unacked := [], inbox := [], keys := .off }

/-- Is a key agreement under way: a port is trained or a session opening, or either has begun to renew its keys? -/
def State.agreeing (s : State) (who : KeyFor) : Bool :=
  (s.keysOf who).agree.isSome || match who with
    | .port n => (s.port n).state == 2
    | .session n => (s.session n).state == 1

/-- KEY_AGREEMENT_TIMEOUT: a failed agreement, or one over 1 ms. -/
def State.keysFailed (s : State) (who : KeyFor) : State :=
  if !s.agreeing who then s
  else match who with
    | .port n => s.portDark n 0x06#8
    | .session n => s.closeSession n

/-- May a port or a session agree keys: it is trained or opening, or carries traffic under keys? -/
def State.mayAgree (s : State) : KeyFor → Bool
  | .port n => 2 ≤ (s.port n).state
  | .session n => n != 0 && (s.session n).state != 0

/-- KEY_AGREEMENT_COMPLETE: the peer's message has come (steps 3 to 5); this side's goes out first when the peer has
begun. The agreement fails unless the peer's identity key is in the roster and the signature verifies. -/
def State.keysEnd (s : State) (who : KeyFor) (m : List Byte) (verified : Bool) : State :=
  if !s.mayAgree who then s
  else
    let s := if (s.keysOf who).agree.isSome then s else s.keyMessage who
    match (s.keysOf who).agree with
    | none => s
    | some (draw, _) =>
      if m.length = 227 && s.ident.peerKnown (peerIdentity m) && verified then s.keysAgreed who (s.agreedKeys who draw m)
      else s.keysFailed who

/-- Are fresh keys due: after 2^32 frames in a direction, or an hour (spec/17 R335)? -/
def rekeyDue (received sent since now : Nat) : Bool := 2 ^ 32 ≤ received || 2 ^ 32 ≤ sent || since + 3600000000000 ≤ now

/-- Are the keys of a port or session that carries traffic due, with no agreement of new ones under way or awaiting the
peer's marked frame? -/
def State.keysDue (s : State) (who : KeyFor) : Bool :=
  (s.keysOf who).agree.isNone && (s.keysOf who).next.isNone && match who with
    | .port n => 3 ≤ (s.port n).state && rekeyDue (s.port n).frames (s.port n).sent (s.port n).keyNs s.ns
    | .session n => (s.session n).state == 2 && n != 0
        && rekeyDue (s.session n).frames (s.session n).sent (s.session n).openNs s.ns

/-- REKEY: after 2^32 frames in a direction or an hour the agreement of fresh keys begins, while traffic goes on. -/
def State.rekey (s : State) (who : KeyFor) : State := if s.keysDue who then s.keyMessage who else s

/-- PEER_LOST: no frame for 100 µs. -/
def State.peerLost (s : State) (n : Nat) : State :=
  let p := s.port n
  if 3 ≤ p.state && p.lastNs + 100000 ≤ s.ns then s.portDark n 0x08#8 else s

/-- AUTH_FAILURE_DARK. -/
def State.authDark (s : State) (n : Nat) : State := if 16 ≤ (s.port n).badAuth then s.portDark n 0x07#8 else s

/-! ## A peer's requests (spec/07 R161-R163, spec/08 R186, spec/11 R252, spec/17 R325) -/

/-- Bytes a request covers. -/
def askBytes : PeerAsk → Nat
  | .load n => n
  | .store bs _ => bs.length
  | .atom _ ty _ => atBytes ty
  | .reduce _ ty xs _ => redBytes ty * xs.length

/-- What a request needs of its page. -/
def askNeed : PeerAsk → Need
  | .load _ => .read
  | .store _ _ => .write
  | .atom _ _ _ | .reduce _ _ _ _ => .both

/-- Where a peer's request goes, with its page's key slot: `none` refuses it, `some none` lets it wait for a page that
is frozen or its turn at a line that is held. It is translated in the context of this package that the session with
the peer joins; a request that no aligned 128-byte unit holds is refused (log 91). -/
def State.askPlace (s : State) (peer : Nat) (r : PeerReq) : Option (Option (Nat × Nat × Bool)) :=
  if (s.bindingOf r.ctx peer).isNone || askBytes r.ask = 0 || 128 < r.va.toNat % 128 + askBytes r.ask then none
  else match s.walk r.ctx r.va (askNeed r.ask) with
    | .fault _ _ => none
    | .hold => some none
    | .ok pa k _ big => if s.pageFrozen pa || !s.lineTurn 8 (lineOf pa) (askToken peer r.tag) then some none
        else some (some (pa, k, big))

/-- A peer's request kept until it can be served; at a held line it has its place among those that wait there (spec/11
R262). -/
def State.keepAsk (s : State) (peer : Nat) (r : PeerReq) : State :=
  let s : State := if s.peerAsks.contains (peer, r) then s else { s with peerAsks := s.peerAsks ++ [(peer, r)] }
  match s.walk r.ctx r.va (askNeed r.ask) with
  | .ok pa _ _ _ => if s.pageFrozen pa then s else s.joinLine (lineOf pa) (askToken peer r.tag)
  | .hold | .fault _ _ => s

/-- An answer to a peer, which is the acknowledgement of its request. -/
def State.answerPeer (s : State) (peer tag : Nat) (accept poison : Bool) (bytes : List Byte) : State :=
  (s.sendFlit peer).send (.peerAnswer peer tag accept poison bytes)

/-- The reductions of a peer's piece merged at their homes; a poisoned word discards its own (spec/21 R366). -/
def State.reduceFor (s : State) (r : PeerReq) (op : AtomOp) (ty pa : Nat) (scale : Option VAddr) (xs : List (BitVec 64)) : State :=
  let kd : Byte := match scale.map fun v => s.walk r.ctx v .read with
    | some (.ok p _ _ _) => (s.latestBytes p 1).headD 0#8
    | _ => 0#8
  (xs.zipIdx).foldl (fun (s : State) x =>
    let at_ := pa + redBytes ty * x.2
    if s.poisonAt at_ then s.countUE (homeBase at_)
    else s.mergeRed op ty .ga 0 256 at_ (if scale.isSome then x.1 + BitVec.ofNat 64 (65536 * kd.toNat) else x.1)) s

/-- A peer's request applied at its home: a store as a GA store, an atomic as an ATOM at package scope; then it is
answered. -/
def State.applyAsk (s : State) (peer : Nat) (r : PeerReq) (pa : Nat) : State :=
  let n := askBytes r.ask
  match r.ask with
  | .load _ =>
    let s := s.drainRedsAt pa n
    s.answerPeer peer r.tag true (s.readsPoison pa) (s.latestBytes pa n)
  | .store bs poison =>
    let s := s.drainRedsAt pa n
    let s := if n = 128 then s.unpoison (lineOf pa) else s
    let s := s.homeStore .ga 0 256 0 pa bs
    (if poison then s.poison (lineOf pa) else s).answerPeer peer r.tag true false []
  | .atom op ty x =>
    let s := s.drainRedsAt pa n
    let old := BitVec.ofNat 128 (leNat (s.latestBytes pa n))
    if s.readsPoison pa then s.answerPeer peer r.tag true true []
    else
      let s := match atomNew op ty old x with
        | some v => s.homeStore .ga 0 256 0 pa (leBytes n v.toNat)
        | none => s
      s.answerPeer peer r.tag true false (leBytes n old.toNat)
  | .reduce op ty xs scale => (s.reduceFor r op ty pa scale xs).answerPeer peer r.tag true false []

/-- A peer's request served, refused, or kept until it can be served. -/
def State.serveAsk (s : State) (peer : Nat) (r : PeerReq) : State :=
  let t : State := { s with peerAsks := s.peerAsks.erase (peer, r) }
  match s.askPlace peer r with
  | none => t.answerPeer peer r.tag false false []
  | some none => s.keepAsk peer r
  | some (some (pa, k, big)) => (t.noteKey pa k big).applyAsk peer r pa

/-- Peers' requests that waited tried again, in the order in which they came. -/
def State.serveAsks (s : State) : State :=
  s.peerAsks.foldl (fun (s : State) x => s.serveAsk x.1 x.2) s

/-! ## Flits (spec/17 R322, R323, R335) -/

/-- A peer's flits delivered in sequence as far as they have come, with the requests they bring. -/
def takeEarly : Nat → PeerLink → PeerLink × List PeerReq
  | 0, l => (l, [])
  | n + 1, l =>
    match l.early.find? fun e => e.1 = l.nextRecv with
    | none => (l, [])
    | some e =>
      let (l, asks) := takeEarly n { l with nextRecv := l.nextRecv + 1#32, early := l.early.filter fun x => x.1 != e.1 }
      (l, e.2 ++ asks)

/-- A good flit from a peer: delivered in sequence, kept while it is early, discarded when it is a duplicate. -/
def PeerLink.receive (l : PeerLink) (seq : Word) (payload : List PeerReq) : PeerLink × List PeerReq :=
  if seq = l.nextRecv then
    let (l, asks) := takeEarly (l.early.length + 1) { l with nextRecv := l.nextRecv + 1#32 }
    (l, payload ++ asks)
  else if (seq - l.nextRecv).toInt < 0 || l.early.any fun e => e.1 = seq then (l, [])
  else ({ l with early := l.early ++ [(seq, payload)] }, [])

/-- A frame received on a port, counted under its keys, which the marked one brings into use (spec/17 R335). -/
def State.portHears (s : State) (n : Nat) (mark : Bool) : State :=
  let p := s.port n
  s.setPort n { p with badAuth := 0, lastNs := s.ns, frames := p.frames + 1, keys := if mark then p.keys.turned else p.keys }

/-- FABRIC_FLIT_RECEIVE: a flit is acknowledged, and the requests it brings in sequence are served. A gated port
carries no traffic. -/
def State.flitReceive (s : State) (n : Nat) (seq : Word) (auth : FlitSeal) (payload : List PeerReq) : State :=
  let p := s.port n
  if p.state < 3 then s
  else if auth = .bad then
    let s := s.setPort n { p with badAuth := p.badAuth + 1 }
    if 16 ≤ p.badAuth + 1 then s.soon (.authFailureDark n) else s
  else
    let s := s.portHears n (auth == .marked)
    if p.state != 3 then s
    else
      let peer := p.peerPkg.toNat
      let (l, asks) := (s.peerLink peer).receive seq payload
      let s := State.serveAsks { s with peerLinks := mapSet s.peerLinks peer l }
      ((asks.foldl (fun (s : State) r => s.serveAsk peer r) s).portSends n).send (.fabricAck peer (l.nextRecv - 1#32))

/-- FABRIC_FLIT_ACK: the peer has taken every flit up to one, and the pieces of copies that they brought (spec/08
R189). The frame that says so is counted on the first port of its stripe (log 91). -/
def State.flitAck (s : State) (peer : Nat) (seq : Word) : State :=
  let l := s.peerLink peer
  let s := match l.stripe with
    | n :: _ => s.portHears n false
    | [] => s
  let gone := (l.unacked.filter fun u => (u.seq - seq).toInt ≤ 0).map (·.seq)
  gone.foldl (fun (s : State) q => s.piecesTaken fun p => p.peer == peer && p.seq == q)
    { s with peerLinks := mapSet s.peerLinks peer { l with unacked := l.unacked.filter fun u => 0 < (u.seq - seq).toInt } }

/-- FABRIC_RESEND_TIMEOUT: after 20 µs the flit goes out again on another port of the stripe, when it has one. -/
def State.flitResend (s : State) (peer : Nat) (seq : Word) : State :=
  let l := s.peerLink peer
  match l.unacked.find? fun u => u.seq = seq with
  | none => s
  | some u =>
    if s.ns < u.ns + 20000 then s
    else
      let others := l.stripe.filter (· != u.port)
      let l' := { l with stripe := if others.isEmpty then l.stripe else others, turn := 0, deficit := [] }
      match nextPort (fun n => (s.port n).rate) (l'.stripe.length + 1) l' with
      | none => s
      | some (q, _) => State.tookHit (State.portSends { s with peerLinks := mapSet s.peerLinks peer { l with
          unacked := l.unacked.map fun u => if u.seq = seq then ⟨seq, q, s.ns, s.nextHit⟩ else u } } q)

/-- STRIPE_RECOMPUTE. -/
def State.stripeAgain (s : State) (peer : Nat) : State :=
  let l : PeerLink := { s.peerLink peer with stripe := s.stripeTo peer, turn := 0, deficit := [] }
  { s with peerLinks := mapSet s.peerLinks peer l }

/-! ## Switch agents (spec/17 R328-R330, spec/20 R361) -/

/-- Does a message of a TYPE name the present ticket of a slot? -/
def State.names (s : State) (m : SwitchMsg) (kind : Nat) : Bool :=
  msgIs m kind && m.slot.toNat < 64 && (s.ticket m.slot.toNat).seq == m.seq

/-- CONNECTED: the ticket is connecting, and the port's lasers come on, when it has light. -/
def State.onConnected (s : State) (m : SwitchMsg) : State := s.hears m fun s =>
  let t := s.ticket m.slot.toNat
  if !s.names m 2 || t.state != 2 || t.firstRel != 0 then s
  else
    let s := s.setTicket m.slot.toNat { t with state := 3, swus := BitVec.ofNat 16 (min 0xFFFF m.value.toNat) }
    let p := s.port t.port
    let s := s.setPort t.port { p with
      lights := true
      sinceNs := s.ns
      peerPkg := BitVec.ofNat 6 t.peerPkg
      peerPort := BitVec.ofNat 6 t.peerPort }
    if vget s.modules (t.port / 16) 0 = 64 then s else s.portDark t.port 0x04#8

/-- REFUSED. -/
def State.onRefused (s : State) (m : SwitchMsg) : State := s.hears m fun s =>
  let t := s.ticket m.slot.toNat
  if !s.names m 3 || t.state != 2 || t.firstRel != 0 then s else s.ticketTo m.slot.toNat 5 (m.value.setWidth 8)

/-- RELEASED: the slot is free again for a CREL; an end that has not released keeps its ticket. -/
def State.onReleased (s : State) (m : SwitchMsg) : State := s.hears m fun s =>
  if s.names m 5 && (s.ticket m.slot.toNat).firstRel != 0 then s.freeTicket m.slot.toNat else s

/-- BROKEN. -/
def State.onBroken (s : State) (m : SwitchMsg) : State := s.hears m fun s =>
  let t := s.ticket m.slot.toNat
  if s.names m 6 && (t.state = 3 || t.state = 4) && t.firstRel = 0 then s.portDark t.port 0x09#8 else s

/-- HELLO: the switch of the plane is heard. -/
def State.onHello (s : State) (m : SwitchMsg) : State := s.hears m fun s =>
  if msgIs m 7 && m.plane.toNat < 16 then { s with
    hellos := s.hellos.setIfInBounds m.plane.toNat s.ns
    silent := s.silent &&& ~~~(1#16 <<< m.plane.toNat) } else s

/-- The HELLO to the switch of a plane: XID 0, and the package's first switch port (log 92). -/
def State.helloMsg (s : State) (plane : Nat) : SwitchMsg :=
  { ver := 1#8, kind := 7#8, len := 32#16, slot := 0#8, seq := 0#24, plane := BitVec.ofNat 8 plane, rsv := 0#56
    pkg := BitVec.ofNat 8 s.package, swPort := BitVec.ofNat 8 (switchPort s.package 0), peerPkg := 0#8, peerPort := 0#8
    value := 0#32, rsv2 := 0#64 }

/-- HELLO_SEND: one to each switch. -/
def State.helloSend (s : State) : State :=
  (List.range 16).foldl (fun (s : State) p => s.wheySend 0 (switchBytes (s.helloMsg p))) s

/-- SWITCH_SILENT: three HELLOs missed. -/
def State.switchSilent (s : State) (p : Nat) : State :=
  if s.ns < vget s.hellos p 0 + 300000000 then s else { s with silent := s.silent ||| (1#16 <<< p) }

/-- CONNECT_RETRY: an unanswered CONNECT or RELEASE goes out again every 10 ms. -/
def State.connectRetry (s : State) (n : Nat) : State :=
  let t := s.ticket n
  if s.ns < t.sentNs + 10000000 then s
  else if t.firstRel != 0 then (s.setTicket n { t with sentNs := s.ns }).tellSwitch 4 n
  else if t.state = 2 then (s.setTicket n { t with sentNs := s.ns }).tellSwitch 1 n
  else s

/-- RELEASE_TIMEOUT: 10 ms after the first RELEASE the switch, unless it is silent, frees the circuit and sends RELEASED,
which session 0 delivers and the CREL waits for. -/
def State.releaseTimeout (s : State) (n : Nat) : State :=
  let t := s.ticket n
  if t.firstRel = 0 || s.ns < t.firstRel + 10000000 || s.silent.getLsbD (planeOf t.port) then s
  else s.wheyTakes 0 (s.session 0).nextRecv (switchBytes { s.agentMsg 5 n with pkg := 0xFF#8 })

/-- FABRIC_FLIT_RECEIVE (spec/17 R322). -/
def execFabricFlitReceive (port : Nat) (seq : Word) (auth : FlitSeal) (payload : List PeerReq) (s : State) :
    Host.Outcome State Fault Refusal := .next (s.flitReceive port seq auth payload)
/-- FABRIC_FLIT_ACK (spec/17 R323). -/
def execFabricFlitAck (peer : Nat) (seq : Word) (s : State) : Host.Outcome State Fault Refusal := .next (s.flitAck peer seq)
/-- FABRIC_RESEND_TIMEOUT (spec/17 R323). -/
def execFabricResendTimeout (peer : Nat) (seq : Word) (s : State) : Host.Outcome State Fault Refusal :=
  .next (s.flitResend peer seq)
/-- STRIPE_RECOMPUTE (spec/17 R322). -/
def execStripeRecompute (peer : Nat) (s : State) : Host.Outcome State Fault Refusal := .next (s.stripeAgain peer)
/-- CONNECTED (spec/17 R329). -/
def execConnected (msg : SwitchMsg) (s : State) : Host.Outcome State Fault Refusal := .next (s.onConnected msg)
/-- REFUSED (spec/17 R329). -/
def execRefused (msg : SwitchMsg) (s : State) : Host.Outcome State Fault Refusal := .next (s.onRefused msg)
/-- RELEASED (spec/20 R361). -/
def execReleased (msg : SwitchMsg) (s : State) : Host.Outcome State Fault Refusal := .next (s.onReleased msg)
/-- BROKEN (spec/17 R329). -/
def execBroken (msg : SwitchMsg) (s : State) : Host.Outcome State Fault Refusal := .next (s.onBroken msg)
/-- HELLO (spec/17 R329). -/
def execHello (msg : SwitchMsg) (s : State) : Host.Outcome State Fault Refusal := .next (s.onHello msg)
/-- HELLO_SEND (spec/17 R329). -/
def execHelloSend (s : State) : Host.Outcome State Fault Refusal := .next s.helloSend
/-- SWITCH_SILENT (spec/17 R330). -/
def execSwitchSilent (plane : Nat) (s : State) : Host.Outcome State Fault Refusal := .next (s.switchSilent plane)
/-- CONNECT_RETRY (spec/17 R330). -/
def execConnectRetry (slot : Nat) (s : State) : Host.Outcome State Fault Refusal := .next (s.connectRetry slot)
/-- RELEASE_TIMEOUT (spec/20 R361). -/
def execReleaseTimeout (slot : Nat) (s : State) : Host.Outcome State Fault Refusal := .next (s.releaseTimeout slot)
/-- PORT_SETTLED (spec/17 R312). -/
def execPortSettled (port : Nat) (s : State) : Host.Outcome State Fault Refusal := .next (s.portSettled port)
/-- PORT_TRAINED (spec/17 R312). -/
def execPortTrained (port : Nat) (usable : LanesUp) (s : State) : Host.Outcome State Fault Refusal :=
  .next (s.portTrained port usable)
/-- PORT_LOCK_TIMEOUT (spec/20 R362). -/
def execPortLockTimeout (port : Nat) (unlocked : BitVec 4) (s : State) : Host.Outcome State Fault Refusal :=
  .next (s.lockTimeout port unlocked)
/-- KEY_AGREEMENT_COMPLETE (spec/17 R334). -/
def execKeyAgreementComplete (keys : KeysEnd) (s : State) : Host.Outcome State Fault Refusal :=
  .next (s.keysEnd keys.who keys.message keys.verified)
/-- KEY_AGREEMENT_TIMEOUT (spec/17 R335). -/
def execKeyAgreementTimeout (who : KeyFor) (s : State) : Host.Outcome State Fault Refusal := .next (s.keysFailed who)
/-- REKEY (spec/17 R335). -/
def execRekey (who : KeyFor) (s : State) : Host.Outcome State Fault Refusal := .next (s.rekey who)
/-- PEER_LOST (spec/17 R313). -/
def execPeerLost (port : Nat) (s : State) : Host.Outcome State Fault Refusal := .next (s.peerLost port)
/-- AUTH_FAILURE_DARK (spec/17 R313). -/
def execAuthFailureDark (port : Nat) (s : State) : Host.Outcome State Fault Refusal := .next (s.authDark port)
/-- LASER_MODULE_REMOVE (spec/17 R321). -/
def execLaserModuleRemove (module : Nat) (s : State) : Host.Outcome State Fault Refusal := .next (s.moduleRemove module)
/-- LASER_MODULE_INSERT (spec/17 R320). -/
def execLaserModuleInsert (module channels : Nat) (s : State) : Host.Outcome State Fault Refusal :=
  .next (s.moduleInsert module channels)
/-- MODULE_MONITOR_POLL (spec/17 R317, R320). -/
def execModuleMonitorPoll (module : Nat) (bias : List (BitVec 16)) (moduleTemp : Int) (s : State) :
    Host.Outcome State Fault Refusal := .next (s.modulePoll module bias moduleTemp)
/-- LANE_RATE_STEP_DOWN (spec/17 R316). -/
def execLaneRateStepDown (port lane : Nat) (temp : BitVec 16) (s : State) : Host.Outcome State Fault Refusal :=
  .next (s.laneTemp port lane temp)
/-- LANE_RATE_STEP_UP (spec/17 R316). -/
def execLaneRateStepUp (port lane : Nat) (temp : BitVec 16) (s : State) : Host.Outcome State Fault Refusal :=
  .next (s.laneTemp port lane temp)
/-- LANE_RETIRE (spec/17 R318). -/
def execLaneRetire (port lane : Nat) (s : State) : Host.Outcome State Fault Refusal := .next (s.laneRetire port lane)
/-- LSTAT_RETIRE_WRITE (spec/17 R317). -/
def execLstatRetireWrite (port lane : Nat) (value : Word) (s : State) : Host.Outcome State Fault Refusal :=
  .next (s.lstatWrite port lane value)
/-- PCAP_WRITE (spec/17 R314). -/
def execPcapWrite (port : Nat) (value : Word) (s : State) : Host.Outcome State Fault Refusal := .next (s.pcapWrite port value)
/-- TAP_SAMPLE (spec/17 R319). -/
def execTapSample (port lane : Nat) (cpl spl mod : BitVec 16) (s : State) : Host.Outcome State Fault Refusal :=
  .next (s.tapSampled port lane cpl spl mod)
/-- LASER_CHANNEL_FAILURE (spec/17 R313). -/
def execLaserChannelFailure (port lane : Nat) (s : State) : Host.Outcome State Fault Refusal := .next (s.channelFails port lane)
/-- LANE_RETRAIN_END (spec/17 R316). -/
def execLaneRetrainEnd (port lane : Nat) (s : State) : Host.Outcome State Fault Refusal := .next (s.laneTrained port lane)

end Sys2Proof.Machine
end

