-- ==== Sys2Proof/Machine/Whey.lean ====
section
/-! DEFINITION. The Whey plane (spec/17 R336-R339), and the ends of the circuit processor's timed waits (spec/08 R204,
R208). -/

namespace Sys2Proof.Machine

/-! ## Opening (spec/17 R338) -/

/-- A record's reserved bytes are 0 and its fields in their ranges. -/
def sessionGood (r : List Byte) : Bool :=
  r.length = 48 && fieldOf r 3 1 = 0 && fieldOf r 0x0E 2 = 0 && fieldOf r 0x24 12 = 0 && fieldOf r 0 1 ≤ 2
    && (fieldOf r 0 1 = 0 || (1 ≤ fieldOf r 4 4 && fieldOf r 4 4 ≤ 60000))
    && (fieldOf r 0 1 = 2 || fieldOf r 0x10 16 = 0)

/-- WHEY_SESSION_OPEN: keys are agreed next. A record of KIND 0 closes the session. -/
def State.openSession (s : State) (n : Nat) (r : List Byte) : State :=
  let x := s.session n
  if n = 0 || 1024 ≤ n || !sessionGood r then s
  else if fieldOf r 0 1 = 0 then s.closeSession n
  else if x.state != 0 || (s.context (fieldOf r 1 1)).isNone then s
  else (s.setSession n { Session.closed with
    kind := fieldOf r 0 1
    ctx := fieldOf r 1 1
    ports := BitVec.ofNat 8 (fieldOf r 2 1)
    tmoMs := fieldOf r 4 4
    peerMac := BitVec.ofNat 48 (fieldOf r 8 6)
    peerIp := BitVec.ofNat 128 (fieldOf r 0x10 16)
    lport := BitVec.ofNat 16 (fieldOf r 0x20 2)
    rport := BitVec.ofNat 16 (fieldOf r 0x22 2)
    state := 1
    openNs := s.ns
    opens := x.opens + 1
    keyGen := x.keyGen }).keyMessage (.session n)

/-! ## Frames (spec/17 R336, R337, R339) -/

/-- Is a sequence number at or below another, around 2^32? -/
def seqLe (a b : Word) : Bool := 0 ≤ (b - a).toInt

/-- An acknowledgement: what it covers is acknowledged, and a message sent once gives a round trip. -/
def Session.acked (x : Session) (ns : Nat) (ack : Word) : Session :=
  let gone := x.unacked.filter fun u => seqLe u.1 ack
  let srtt := gone.foldl (fun (t : Nat) u => if u.2.2.2 = 0 then Config.smoothRtt t (ns - u.2.2.1) else t) x.srttNs
  { x with unacked := x.unacked.filter fun u => !seqLe u.1 ack, lastAck := ns, srttNs := srtt }

/-- Does a frame travel as its session's KIND has it (spec/17 R336): a local one with EtherType 0x88B5; a wide-area one as
UDP in IPv6 without extension headers, with hop limit 64, the session's port pair and a checksum that holds? -/
def Session.outerGood (x : Session) (f : WheyFrame) : Bool := match f.outer with
  | .ether e => x.kind != 2 && e == 0x88B5#16
  | .udp next hops src dst sum => x.kind == 2 && next == 17#8 && hops == 64#8 && src == x.rport && dst == x.lport && sum

/-- Is a frame's transport header one of R337: VER 1, a TYPE that exists, the message's length, and zeros in its reserved
bytes? -/
def wheyHeaderGood (f : WheyFrame) : Bool :=
  f.ver == 1#8 && 1 ≤ f.kind.toNat && f.kind.toNat ≤ 3 && f.len.toNat ≤ 1024 && f.message.length == f.len.toNat && f.rsv == 0#144

/-- WHEY_FRAME_RECEIVE: a frame that breaks a rule of framing is discarded and counted, one that fails authentication
discarded; a message is acknowledged, in order or not, and a key agreement's ends the agreement. -/
def State.wheyFrame (s : State) (f : WheyFrame) : State :=
  let n := f.session.toNat
  let x := s.session n
  if !s.wheyPort f.port || !wheyHeaderGood f || !x.outerGood f then { s with wheyDrops := s.wheyDrops + 1 }
  else if !x.ports.getLsbD f.port then s
  else if x.state = 1 && f.kind = 3#8 then s.keysEnd (.session n) f.message f.auth
  else if x.state != 2 || !f.auth then s
  else
    let s := s.setSession n { x.acked s.ns f.ack with
      frames := x.frames + 1
      keys := if f.mark then x.keys.turned else x.keys }
    if f.kind = 1#8 then (s.wheyTakes n f.seq f.message).wheyPut n 2 0#32 []
    else if f.kind = 3#8 then s.keysEnd (.session n) f.message true
    else s

/-- The interval after which a message goes out again: max(1 ms, twice the smoothed round trip), doubled at each resend,
up to 8 s. -/
def Session.interval (x : Session) (resends : Nat) : Nat := min 8000000000 (max 1000000 (2 * x.srttNs) * 2 ^ min resends 13)

/-- WHEY_RETRANSMIT_TIMEOUT. -/
def State.wheyResend (s : State) (n : Nat) (seq : Word) : State :=
  let x := s.session n
  match x.unacked.find? fun u => u.1 = seq with
  | none => s
  | some (_, m, t, k) =>
    if x.state != 2 || s.ns < t + x.interval k then s
    else
      let again (u : Word × List Byte × Nat × Nat) : Word × List Byte × Nat × Nat :=
        if u.1 = seq then (seq, m, s.ns, k + 1) else u
      (s.setSession n { x with unacked := x.unacked.map again }).wheyPut n 1 seq m

/-- WHEY_SESSION_TIMEOUT: messages wait, and no acknowledgement has arrived for TMO. -/
def State.wheyTimeout (s : State) (n : Nat) : State :=
  let x := s.session n
  if n != 0 && x.state = 2 && !x.unacked.isEmpty && x.lastAck + x.tmoMs * 1000000 ≤ s.ns then s.closeSession n else s

/-! ## Timed waits (spec/08 R204, R208, R388) -/

/-- CAWAIT_TIMEOUT. -/
def State.cawaitTimeout (s : State) (id : Nat) : State :=
  match mapGet? s.ops id with
  | some o => match o.kind with
    | .cawait slot seq untilNs => if s.caExpired untilNs then s.cawaitStep id o slot seq untilNs else s
    | _ => s
  | none => s

/-- TIMER_EXPIRY: the timer is unarmed, its waits end, and the timer's event is posted (spec/14 R275). -/
def State.timerExpiry (s : State) (ctx n : Nat) : State :=
  match (s.context ctx).bind fun c => vget c.timers n none with
  | none => s
  | some t =>
    if s.ns < t then s
    else
      let s := s.setTimer ctx n none
      State.endTimerWaits (s.postEvent
        (BitVec.ofNat 64 (0x06 * 2 ^ 56 + (Config.freeValue s.freeCtr).toNat % 2 ^ 56))).tookFree ctx n

/-- WHEY_SESSION_OPEN (spec/17 R338). -/
def execWheySessionOpen (session : Nat) (record : List Byte) (s : State) : Host.Outcome State Fault Refusal :=
  .next (s.openSession session record)
/-- WHEY_FRAME_RECEIVE (spec/17 R336). -/
def execWheyFrameReceive (frame : WheyFrame) (s : State) : Host.Outcome State Fault Refusal := .next (s.wheyFrame frame)
/-- WHEY_RETRANSMIT_TIMEOUT (spec/17 R339). -/
def execWheyRetransmitTimeout (session : Nat) (seq : Word) (s : State) : Host.Outcome State Fault Refusal :=
  .next (s.wheyResend session seq)
/-- WHEY_SESSION_TIMEOUT (spec/17 R339). -/
def execWheySessionTimeout (session : Nat) (s : State) : Host.Outcome State Fault Refusal := .next (s.wheyTimeout session)
/-- CAWAIT_TIMEOUT (spec/08 R204). -/
def execCawaitTimeout (op : Nat) (s : State) : Host.Outcome State Fault Refusal := .next (s.cawaitTimeout op)
/-- TIMER_EXPIRY (spec/08 R208). -/
def execTimerExpiry (ctx timer : Nat) (s : State) : Host.Outcome State Fault Refusal := .next (s.timerExpiry ctx timer)

end Sys2Proof.Machine
end

