-- ==== Sys2Proof/Machine/Repairs.lean ====
section
/-! DEFINITION. Soft errors, patrol scrub and the error log (spec/21 R365-R367). -/

namespace Sys2Proof.Machine

/-! ## The error log (spec/21 R367) -/

/-- A corrected error counted. -/
def State.countCE (s : State) (b : Nat) : State :=
  let r := s.rasOf b
  { s with ras := s.ras.setIfInBounds b { r with ce := satInc r.ce 1 } }

/-- An uncorrectable line logged: counted, with its address and the row of its storage. -/
def State.logLine (s : State) (b row pa : Nat) : State :=
  let s := s.countUE b
  let r := s.rasOf b
  { s with ras := s.ras.setIfInBounds b { r with addr := BitVec.ofNat 64 (row % 16 * 2 ^ 52 + pa % 2 ^ 52) } }

/-- The row of spec/21 R365 that a memory place has. -/
def memoryRow (s : State) (pa : Nat) : Nat := match placeOf s pa with
  | .near => 7
  | .far => 8
  | _ => 5

/-- A line found uncorrectable in memory: poisoned and logged. -/
def State.memoryError (s : State) (pa : Nat) : State :=
  (s.poison (lineOf pa)).logLine (homeBase pa) (memoryRow s pa) (pa - pa % 128)

/-- PATROL_SCRUB: a corrected line's value is what it was. -/
def State.patrolScrub (s : State) (pa : Nat) (r : ScrubResult) : State :=
  match placeOf s pa with
  | .near | .far | .cream | .hostWindow => match r with
    | .clean => s
    | .corrected => s.countCE (homeBase pa)
    | .uncorrectable => s.memoryError pa
  | .hostMem | .regs | .absent => s

/-! ## Uncorrectable errors (spec/21 R365) -/

/-- A main-file register poisoned. -/
def Group.poisonMain (g : Group) (n : Nat) : Group :=
  { g with x := g.x.map fun (x : Nat × MapEntry) => if x.1 = n then (x.1, { x.2 with poison := true }) else x }

/-- Registers or entries added to those that hold poison. -/
def Group.addPoison (g : Group) (rs : List PoisonReg) : Group :=
  { g with poison := rs.filter (fun r => !g.poison.contains r) ++ g.poison }

/-- The transactions on a core whose stores lie in a line abort with code 8. -/
def State.abortLine (s : State) (core pline : Nat) : State :=
  (s.coreGroups core).foldl (fun (s : State) p =>
    (List.range 32).foldl (fun (s : State) lane =>
      match laneOf (s.group p.1).tx lane with
      | some t => if t.storesTo pline then s.abortTx p.1 lane 8 0 else s
      | none => s) s) s

/-- The modified copy of a line lost with its slice: the line is poisoned at its home; a clean copy is dropped. -/
def State.sliceError (s : State) (base pa : Nat) : State :=
  let pline := lineOf pa
  if s.slices.any fun l => l.base = base && l.pline = pline && l.modified then s.poison pline
  else State.sweepRemap { s with slices := s.slices.filter fun l => !(l.base = base && l.pline = pline) }

/-- An error in a cluster's Churn: its macro-operation ends and its controller traps. -/
def State.churnError (s : State) (cl : Nat) : State :=
  match (s.churn cl).macros with
  | m :: _ => s.macroTrap cl m 0x30#8 0#32
  | [] =>
    match mapGet? s.groups (churnKey cl) with
    | some g => (s.takeTrap (churnKey cl) ((g.table.map (·.pc)).headD 0#64) 1#32 0x30#8 0#32).freeController cl
    | none => s

/-- UNCORRECTABLE_ERROR. Every error is counted in the log of the base die under or beside the storage; RASADDR takes the
errors that strike a line. -/
def State.uncorrectable (s : State) (hit : ErrorSite) : State :=
  match hit with
  | .mainReg k n => (s.modGroup k fun g => g.poisonMain n).countUE (baseOf (dieOf k))
  | .operReg k n => (s.modGroup k fun g => g.addPoison [.oper n]).countUE (baseOf (dieOf k))
  | .laneLatch k => (s.modGroup k fun g => { g with lat := g.lat.map fun l => { l with poison := true } }).countUE
      (baseOf (dieOf k))
  | .uniLatch k => (s.modGroup k fun g => { g with ulat := { g.ulat with poison := true } }).countUE (baseOf (dieOf k))
  | .deepEntry k e => (s.modGroup k fun g => g.addPoison ((List.range 32).map fun l => .deep e l)).countUE (baseOf (dieOf k))
  | .crock ctx => (s.crockUncorrectable (.image ctx)).countUE
      (((List.range 64).find? fun c => (s.partitionOf ctx).getLsbD c).getD 0 / 16)
  | .l1Line core pa =>
    let s := s.abortLine core (lineOf pa.toNat)
    let s := State.sweepRemap { s with l1 := mapSet s.l1 core ((s.l1Of core).filter fun l => l.pline != lineOf pa.toNat) }
    s.logLine (baseOf (core / 32)) 2 (pa.toNat - pa.toNat % 128)
  | .victim core place => State.countUE
      { s with victims := mapSet s.victims core ((mapGet s.victims core []).eraseIdx place) } (baseOf (core / 32))
  | .tlu unit place =>
    let mine := s.tlb.filter fun e => e.tlu = unit
    State.countUE { s with tlb := mine.eraseIdx place ++ s.tlb.filter fun e => e.tlu != unit } (unit / 4)
  | .slice base pa => (s.sliceError base pa.toNat).logLine base 4 (pa.toNat - pa.toNat % 128)
  | .creamOrWindow pa => s.memoryError pa.toNat
  | .churn cl => (s.churnError cl).countUE (baseOf (cl / 8))
  | .stackedDram pa => s.memoryError pa.toNat
  | .lpddr6 pa => s.memoryError pa.toNat

/-- PATROL_SCRUB (spec/21 R367). -/
def execPatrolScrub (line : PAddr) (result : ScrubResult) (s : State) : Host.Outcome State Fault Refusal :=
  .next (s.patrolScrub line.toNat result)
/-- UNCORRECTABLE_ERROR (spec/21 R365). -/
def execUncorrectableError (hit : ErrorSite) (s : State) : Host.Outcome State Fault Refusal := .next (s.uncorrectable hit)
/-- RASCE_READ (spec/21 R367). -/
def execRasceRead (base : Nat) (s : State) : Host.Outcome State Fault Refusal := .next (s.rasceRead base)
/-- RASUE_READ (spec/21 R367). -/
def execRasueRead (base : Nat) (s : State) : Host.Outcome State Fault Refusal := .next (s.rasueRead base)

end Sys2Proof.Machine
end

