-- ==== Sys2Proof/Machine/Power.lean ====
section
/-! DEFINITION. Power, cooling and the thermal halt (spec/21 R376). -/

namespace Sys2Proof.Machine

/-- The core clock's steps of 25 MHz at 1.2 GHz and at 2.4 GHz (spec/01 R20). -/
def slowClk : BitVec 8 := 48#8
/-- The fastest core clock. -/
def fastClk : BitVec 8 := 96#8

/-- Since when a condition has held: unchanged while it holds, none when it does not. -/
def heldSince (now : Nat) (old : Option Nat) (holds : Bool) : Option Nat :=
  if holds then (match old with
    | some t => some t
    | none => some now) else none

/-- Has a condition held for a time? -/
def heldFor (now n : Nat) (since : Option Nat) : Bool := match since with
  | some t => t + n ≤ now
  | none => false

/-- The registers and the clock after a sample: 25 MHz down while a limit is exceeded, up once neither has been for
10 ms. -/
def Power.sampled (p : Power) (ns : Nat) (pwr : BitVec 16) (tcp : BitVec 8) : Power :=
  let above := p.plimit.toNat < pwr.toNat || p.tlimit.toNat < tcp.toNat
  let under := heldSince ns p.underNs (!above)
  let clk := if above then (if p.clk.toNat ≤ slowClk.toNat then p.clk else p.clk - 1#8)
    else if heldFor ns 10000000 under && p.clk.toNat < fastClk.toNat then p.clk + 1#8 else p.clk
  { p with
    pwr := pwr
    tcp := tcp
    clk := clk
    underNs := under
    hotNs := heldSince ns p.hotNs (p.tlimit.toNat + 15 < tcp.toNat)
    coolNs := heldSince ns p.coolNs (tcp.toNat ≤ p.tlimit.toNat) }

/-- Must the compute dies halt? -/
def Power.mustHalt (p : Power) (ns : Nat) : Bool := p.halted.isNone && heldFor ns 100000000 p.hotNs
/-- May they run again? -/
def Power.mayResume (p : Power) (ns : Nat) : Bool := p.halted.isSome && heldFor ns 1000000000 p.coolNs

/-- POWER_SAMPLE. -/
def State.powerSample (s : State) (pwr : BitVec 16) (tcp : BitVec 8) : State :=
  let p := s.power.sampled s.ns pwr tcp
  let s := { s with power := p }
  if p.mustHalt s.ns then s.later .thermalHalt else if p.mayResume s.ns then s.later .thermalHaltEnd else s

/-- The groups on a compute die's cores go on with a new epoch, and its die barriers may complete (spec/07 R174, spec/21
R381). -/
def State.advanceDie (s : State) (d : Nat) : State :=
  let keys := (s.groups.filter fun p => p.2.engine = .partition && !isOut p.1 && dieOf p.1 = d).map (·.1)
  let s := keys.foldl (fun (s : State) k => s.modGroup k Group.nextEpoch) s
  (s.die d).dieBar.foldl (fun (s : State) b => s.barCheck (.die d b.1)) s

/-- THERMAL_HALT: management reports the cause. -/
def State.thermalHalt (s : State) : State :=
  if !s.power.mustHalt s.ns then s
  else
    let s := (List.range 8).foldl (fun (s : State) d => s.setDie d { s.die d with thermHalt := true }) s
    State.send { s with power := { s.power with halted := some s.ns } } (.management 5 [])

/-- THERMAL_HALT_END: the dies go on at 1.2 GHz, and management reports the halt's duration. -/
def State.thermalHaltEnd (s : State) : State :=
  match s.power.halted with
  | none => s
  | some t =>
    if !s.power.mayResume s.ns then s
    else
      let s := (List.range 8).foldl (fun (s : State) d =>
        (s.setDie d { s.die d with thermHalt := false }).advanceDie d) s
      let p : Power := { s.power with halted := none, clk := slowClk, underNs := none }
      State.send { s with power := p } (.management 6 (leBytes 8 (s.ns - t)))

/-- PWRCTL after a write: a limit outside its range stays. -/
def Power.written (p : Power) (v : Word) : Power :=
  let pl := v.extractLsb' 16 16
  let tl := v.extractLsb' 8 8
  { p with
    plimit := if 1200 ≤ pl.toNat && pl.toNat ≤ 2400 then pl else p.plimit
    tlimit := if 20 ≤ tl.toNat && tl.toNat ≤ 60 then tl else p.tlimit }

/-- PWRCTL_WRITE. -/
def State.pwrctlWrite (s : State) (v : Word) : State := { s with power := s.power.written v }

/-- POWER_SAMPLE (spec/21 R376). -/
def execPowerSample (pwr : BitVec 16) (tcp : BitVec 8) (s : State) : Host.Outcome State Fault Refusal :=
  .next (s.powerSample pwr tcp)
/-- THERMAL_HALT (spec/21 R376). -/
def execThermalHalt (s : State) : Host.Outcome State Fault Refusal := .next s.thermalHalt
/-- THERMAL_HALT_END (spec/21 R376). -/
def execThermalHaltEnd (s : State) : Host.Outcome State Fault Refusal := .next s.thermalHaltEnd
/-- PWRCTL_WRITE (spec/21 R376). -/
def execPwrctlWrite (value : Word) (s : State) : Host.Outcome State Fault Refusal := .next (s.pwrctlWrite value)

end Sys2Proof.Machine
end

