-- ==== Sys2Proof/Machine/Firmware.lean ====
section
/-! DEFINITION. The package's start and its boot-step record (spec/21 R369-R371), and the live update of the scheduler
firmware (spec/21 R372-R374). -/

namespace Sys2Proof.Machine

/-! ## Start (spec/21 R369-R371) -/

/-- May a step be skipped or take an alternative? -/
def stepYields (n : Nat) : Bool := n == 1 || n == 3 || n == 4 || n == 5 || n == 9 || n == 10 || n == 11
/-- Is a step skipped when its ALT bit is set? -/
def stepSkips (n : Nat) : Bool := n == 5 || n == 10

/-- The record's first 64 bytes (spec/21 R370). -/
def Boot.head (b : Boot) : List Byte :=
  leBytes 2 1 ++ leBytes 2 b.starts.toNat ++ leBytes 1 b.step ++ leBytes 1 b.state ++ leBytes 2 b.reason.toNat
    ++ leBytes 4 b.alt.toNat ++ leBytes 4 b.fails.toNat ++ b.spare.take 48

/-- The record's 192 bytes, with the signature under the boot key (log 47). -/
def Boot.bytes (b : Boot) : List Byte := b.head ++ (Config.bootSign b.signed).take 114 ++ (b.spare.drop 48).take 14

/-- Is the record one: its signature is of its bytes, and its reserved bytes are 0? -/
def Boot.good (b : Boot) : Bool := b.signed == b.head && b.spare.all (· == 0#8)

/-- The record as the ROM writes it. -/
def Boot.write (b : Boot) : Boot :=
  let b := { b with spare := List.replicate 62 0#8 }
  { b with signed := b.head }

/-- The record as a start finds it, or none's fields. -/
def Boot.found (b : Boot) : Boot :=
  if b.good then b else { b with starts := 0#16, step := 0, state := 0, reason := 0#16, alt := 0#32, fails := 0#32 }

/-- What a start makes of the record it finds: a step in progress or failed is routed around when it may be, and counts a
failed start; three of them, or a step that failed in spite of its ALT bit, leave the package in recovery. -/
def Boot.begin (b : Boot) : Boot :=
  let b := { b.found with
    starts := b.found.starts + 1#16, recovery := false, ready := false, at_ := 0, failsAt := b.found.step }
  Boot.write <| if b.state = 0 then b
  else
    let again := b.state = 2 && b.alt.getLsbD b.step
    let b := { b with
      fails := b.fails + 1#32
      alt := if stepYields b.step then b.alt ||| (1#32 <<< b.step) else b.alt }
    { b with recovery := again || 3 ≤ b.fails.toNat }

/-- Cream windows as R13 (spec/01) lets firmware set them; any other leaves the least. -/
def creamGood (b n : Nat) : Bool := n % 64 = 0 && n ≤ (if b = 0 then 384 else 448)

/-- A measurement index extended with a digest (spec/21 R372, R375). -/
def State.measure (s : State) (i : Nat) (d : List Byte) : State :=
  { s with ident := { s.ident with measured := s.ident.measured.setIfInBounds (i - 1) (vget s.ident.measured (i - 1) [] ++ [d]) } }

/-- A link that has trained, whose lanes are what they were. -/
def Link.started (l : Link) (lanes : Nat) : Link := { Link.reset with
  state := 1
  lanes := lanes
  up := { LinkDir.reset with pass := l.up.pass }
  down := { LinkDir.reset with pass := l.down.pass } }

/-- The effect of a step that has passed, or of its alternative. -/
def State.stepDone (s : State) (n : Nat) (cream : List Nat) : State :=
  let alt := s.boot.alt.getLsbD n
  match n with
  | 2 => { s with cream := Vector.ofFn fun (b : Fin 4) =>
      if creamGood b.val (cream.getD b.val 0) then cream.getD b.val 0 else 0 }
  | 3 => { s with links := s.links.map fun l => l.started (if alt then 32 else 64) }
  | 5 => { s with boot := { s.boot with sweepOk := true } }
  | 7 =>
    let id := s.ident
    let s := if id.keyMade then s else { s with ident := { id with keyMade := true, draws := id.draws + 1 } }
    let image := Config.imageDigest (if s.boot.alt.getLsbD 1 then 3 else 2)
    ((s.measure 1 (Config.imageDigest 1)).measure 2 image).measure 4 (Config.digest s.boot.bytes)
  | 11 =>
    let f := s.fw
    let s : State := match alt, f.staged with
      | true, some x => { s with fw := { f with slot := !f.slot, running := x, staged := some f.running, hbeat := false } }
      | _, _ => { s with fw := { f with hbeat := false } }
    s.startCores.measure 3 s.fw.running.digest
  | _ => s

/-- The start runs on from a step: it stands at the first that does not pass. FAILS counts failed starts at STEP:
beyond the step at which they failed there are none (log 105). -/
def runSteps (pass : BitVec 16) (cream : List Nat) : Nat → Nat → State → State
  | 0, _, s => s
  | fuel + 1, n, s =>
    if 11 < n then
      { s with boot := { s.boot with step := 0, state := 0, fails := 0#32, at_ := 0, ready := true }.write }
    else
      let b := { s.boot with at_ := n }
      let s : State := { s with boot := if 3 ≤ n then Boot.write { b with
        step := n, state := 1, fails := if b.failsAt < n then 0#32 else b.fails } else b }
      if stepSkips n && s.boot.alt.getLsbD n then runSteps pass cream fuel (n + 1) s
      else if !pass.getLsbD n then s
      else runSteps pass cream fuel (n + 1) (s.stepDone n cream)

/-- The slots as a start finds them: FWSLOT has its reset value, so slot A is the active one. -/
def FwSlots.cold (f : FwSlots) : FwSlots :=
  let f := { f with hbeat := false, rollback := false, rolledAt := none, quiesced := false, armed := none }
  match f.slot, f.staged with
  | true, some x => { f with slot := false, running := x, staged := some f.running }
  | _, _ => { f with slot := false }

/-- The programs of the command cores, from flash: they stand still until step 11 starts them (log 95). -/
def State.firmwareGroups (s : State) : List (Nat × Group) :=
  (s.groups.filter fun p => p.2.engine = .command).map fun p => (p.1, { Group.blank with
    engine := .command, ctx := p.2.ctx, codeSpace := p.2.codeSpace, trap := { Group.blank.trap with vec := p.2.trap.vec }
    halted := true })

/-- What outlives a start: flash, fuses and roster, the laser modules, other packages' memory and the host's, and what
the model itself keeps. -/
def State.cold (s : State) : State :=
  { State.reset with
    inputs := s.inputs
    asker := s.asker
    delays := s.delays
    hits := s.hits
    freeCtr := s.freeCtr
    nextId := s.nextId
    groups := s.firmwareGroups
    mem := s.mem.filter fun c => placeOf s c.1 = .hostMem
    peers := s.peers
    package := s.package
    modules := s.modules
    links := s.links.map fun l => { l.started 0 with state := 0 }
    boot := s.boot
    fw := s.fw.cold
    ident := { s.ident with measured := Vector.replicate 4 [], exchanged := [], secure := [] }
    outbox := s.outbox }

/-- PACKAGE_START. In recovery the start stops after step 1. -/
def State.packageStart (s : State) (pass : BitVec 16) (cream : List Nat) : State :=
  let s := s.cold
  let s := { s with boot := s.boot.begin }
  if s.boot.recovery then s else runSteps pass cream 12 1 s

/-- A step's limit in milliseconds (spec/21 R369). -/
def stepLimit (n : Nat) : Nat := [0, 50, 200, 10, 500, 2000, 300, 50, 1000, 500, 3000, 100].getD n 0

/-- START_STEP_TIMEOUT: the step has not ended within its limit; the record says so, and the next start begins. -/
def State.stepTimeout (s : State) (reason pass : BitVec 16) : State :=
  if s.boot.ready || s.boot.at_ = 0 || s.ns < stepLimit s.boot.at_ * 1000000 then s
  else
    let b : Boot := { s.boot with step := s.boot.at_, state := 2, reason := reason }.write
    State.packageStart { s with boot := b } pass (s.cream.toList)

/-! ## The firmware's slots (spec/21 R372-R374) -/

/-- FWSLOT written in a cycle: HBEAT is set by a 1 of the running image, ROLLBACK cleared by one, but not when
hardware sets it in the same cycle (spec/00 R6). -/
def FwSlots.written (f : FwSlots) (now : Nat) (beat clear : Bool) : FwSlots :=
  { f with
    hbeat := f.hbeat || beat
    rollback := f.rollback && !(clear && f.rolledAt != some now) }

/-- Where a table of the handover structure stands in near DRAM of die 0 (log 90). -/
def handoverTableAt (i : Nat) : Nat := Config.handoverTable i % 2 ^ 29 * 128

/-- The handover structure's 64 bytes (R373): the version, its size, the addresses of its tables, which the spec does
not give, and reserved zeros (log 90). -/
def FwSlots.handover (f : FwSlots) : List Byte :=
  [Config.handoverMinor, f.running.major] ++ leBytes 2 0 ++ leBytes 4 64
    ++ (List.range 5).flatMap (fun i => leBytes 8 (handoverTableAt i)) ++ leBytes 16 0

/-- A context's 128-byte record (spec/15 R288). -/
def Context.record (c : Context) : List Byte :=
  (leBytes 8 c.ttbase.toNat ++ leBytes 4 c.icw.toNat ++ leBytes 2 c.wthresh ++ leBytes 1 c.keySlot
    ++ leBytes 1 (if c.attached.isSome then 3 else 1) ++ leBytes 8 c.part.toNat ++ leBytes 8 c.saveOff
    ++ leBytes 4 c.saveSz ++ leBytes 4 c.teamSave ++ leBytes 8 c.fhDesc.toNat ++ leBytes 2 c.fhSpace.toNat
    ++ leBytes 1 c.frLog ++ leBytes 1 c.arLog ++ leBytes 4 0 ++ leBytes 8 c.fring.toNat ++ leBytes 8 c.aring.toNat
    ++ leBytes 8 c.hwTab.toNat ++ leBytes 1 c.hwCnt ++ List.replicate 47 0#8)

/-- The bytes of a table of the handover structure: the 256 context records, and of each of the other four, whose
layouts the spec does not give, free ones (log 90). -/
def State.handoverBytes (s : State) (i : Nat) : List Byte :=
  if i = 1 then (List.range 256).flatMap fun n =>
    ((s.context n).map Context.record).getD (List.replicate 128 0#8)
  else (List.range (Config.handoverSize i)).map (Config.handoverByte i s.freeCtr)

/-- Firmware writes the tables and then the structure, to near DRAM of die 0. -/
def State.writeHandover (s : State) (at_ : Nat) : State :=
  let s := (List.range 5).foldl (fun (s : State) i => s.storeGA 0 256 true 0 (handoverTableAt i) (s.handoverBytes i)) s
  ({ s with freeCtr := s.freeCtr + 1 } : State).storeGA 0 256 true 0 at_ s.fw.handover

/-- Where firmware writes it: in near DRAM of die 0, at a place that the spec does not give (log 90). -/
def handoverPlace : Nat := Config.handoverAt % 2 ^ 29 * 128

/-- Does the running image accept the structure it finds: its major version, and zeros in every reserved byte (R373)? -/
def State.handoverGood (s : State) : Bool :=
  let r := readWith s.latestByte s.fw.handed 64
  fieldOf r 1 1 == s.fw.running.major.toNat && fieldOf r 2 2 == 0 && fieldOf r 0x30 16 == 0

/-- Dispatch resumes with what was held: launches that ended meanwhile, fault handlers, choices of residents. -/
def State.resumeDispatch (s : State) : State :=
  let s := (s.launches.map (·.1)).foldl (fun (s : State) g => s.checkLaunch g)
    { s with fw := { s.fw with quiesced := false, armed := none } }
  let s := (s.contexts.map (·.1)).foldl (fun (s : State) c => s.later (.faultResolution c)) s
  (s.resid.map (·.part)).foldl (fun (s : State) p => s.later (.residentChoice p)) s

/-- A write of FWSLOT: the heartbeat of an image that accepts the handover structure ends the update; one that does not
accept it writes none (R373). -/
def State.fwslotWrite (s : State) (v : Word) : State :=
  let beat := v.getLsbD 31 && !(s.fw.quiesced && !s.handoverGood)
  let s := { s with fw := s.fw.written s.now beat (v.getLsbD 30) }
  if beat && s.fw.quiesced then s.resumeDispatch else s

/-- A command that a package in recovery takes too (spec/21 R371): its messages load images and clear the record. -/
def State.recovers (s : State) (requester : Nat) : Bool := (s.boot.ready || s.boot.recovery) && s.accepts requester

/-- FIRMWARE_STAGE. -/
def State.firmwareStage (s : State) (requester : Nat) (x : FirmwareImage) : State :=
  if !s.recovers requester || s.fw.quiesced then s.send (.refusedCmd 0)
  else State.mgmtEvent { s with fw := { s.fw with staged := some x } }

/-- The image that an update hands over to, when it passes its check. -/
def FwSlots.candidate (f : FwSlots) : Option FirmwareImage :=
  f.staged.bind fun x => if x.signed && f.minVer ≤ x.version then some x else none

/-- FIRMWARE_UPDATE: dispatch ends at a packet boundary, the image is checked and measured, and the other slot starts. -/
def State.firmwareUpdate (s : State) (requester : Nat) : State :=
  if !(s.boot.ready && s.accepts requester) || s.fw.quiesced then s.send (.refusedCmd 0)
  else if s.front.isSome then { s with inputs := (s.now + 1, .firmwareUpdate requester) :: s.inputs }
  else
    let s := s.mgmtEvent
    match s.fw.candidate with
    | none => s
    | some x =>
      let f := s.fw
      let s := s.startCores.writeHandover handoverPlace
      State.measure { s with fw := { f with
        slot := !f.slot
        running := x
        staged := some f.running
        hbeat := false
        quiesced := true
        armed := some (s.ns + 50000000)
        handed := handoverPlace } } 3 x.digest

/-- HEARTBEAT_TIMEOUT: the old slot starts again. -/
def State.heartbeatTimeout (s : State) : State :=
  match s.fw.armed, s.fw.staged with
  | some t, some x =>
    let f := s.fw
    if s.ns < t || f.hbeat then s
    else State.startCores (State.measure { s with fw := { f with
      slot := !f.slot
      running := x
      staged := some f.running
      hbeat := false
      rollback := true
      rolledAt := some s.now
      armed := none } } 3 x.digest)
  | _, _ => s

/-- RECORD_CLEAR. -/
def State.recordClear (s : State) (requester : Nat) : State :=
  if !s.recovers requester then s.send (.refusedCmd 0)
  else State.mgmtEvent { s with boot := { s.boot with alt := 0#32, fails := 0#32, state := 0 }.write }

/-- PACKAGE_START (spec/21 R369). -/
def execPackageStart (pass : BitVec 16) (cream : List Nat) (s : State) : Host.Outcome State Fault Refusal :=
  .next (s.packageStart pass cream)
/-- START_STEP_TIMEOUT (spec/21 R369). -/
def execStartStepTimeout (reason pass : BitVec 16) (s : State) : Host.Outcome State Fault Refusal :=
  .next (s.stepTimeout reason pass)
/-- HEARTBEAT_TIMEOUT (spec/21 R374). -/
def execHeartbeatTimeout (s : State) : Host.Outcome State Fault Refusal := .next s.heartbeatTimeout
/-- HBEAT_WRITE (spec/21 R374). -/
def execHbeatWrite (value : Word) (s : State) : Host.Outcome State Fault Refusal := .next (s.fwslotWrite value)
/-- ROLLBACK_CLEAR (spec/21 R374). -/
def execRollbackClear (value : Word) (s : State) : Host.Outcome State Fault Refusal := .next (s.fwslotWrite value)
/-- FIRMWARE_STAGE (spec/21 R377). -/
def execFirmwareStage (image : FirmwareImage) (s : State) : Host.Outcome State Fault Refusal :=
  .next (s.firmwareStage s.asker image)
/-- FIRMWARE_UPDATE (spec/21 R372). -/
def execFirmwareUpdate (s : State) : Host.Outcome State Fault Refusal := .next (s.firmwareUpdate s.asker)
/-- RECORD_CLEAR (spec/21 R377). -/
def execRecordClear (s : State) : Host.Outcome State Fault Refusal := .next (s.recordClear s.asker)

end Sys2Proof.Machine
end

