-- ==== Sys2Proof/Machine/Manage.lean ====
section
/-! DEFINITION. Management's commands about contexts, bindings, rosters, the error log and power (spec/15 R286-R288, R305,
R306, spec/17 R325, spec/21 R377). -/

namespace Sys2Proof.Machine

/-! ## Creating a context (spec/15 R287, R288) -/

/-- The bytes and values of a context record that R288 requires. -/
def contextGood (r : List Byte) : Bool :=
  let icw : Word := BitVec.ofNat 32 (fieldOf r 8 4)
  let saveSz := fieldOf r 0x20 4
  let teamSave := fieldOf r 0x24 4
  let part : BitVec 64 := BitVec.ofNat 64 (fieldOf r 0x10 8)
  let top := (List.range 64).foldl (fun m c => if part.getLsbD c then max m (c % 8 + 1) else m) 0
  r.length = 128 && fieldOf r 0 8 % 2 ^ 20 = 0 && fieldOf r 0 8 < 2 ^ 52
    && (icw &&& 0x7FFFE000#32) = 0#32 && 1 ≤ icwBudget icw && icwBudget icw ≤ 4096
    && 1 ≤ fieldOf r 0x0C 2 && fieldOf r 0x0C 2 ≤ 1000 && 1 ≤ fieldOf r 0x0E 1 && (fieldOf r 0x0F 1 = 1 || fieldOf r 0x0F 1 = 3)
    && part != 0#64 && fieldOf r 0x18 8 % 2 ^ 20 = 0 && saveSz % 2 ^ 20 = 0 && teamSave % 2 ^ 12 = 0
    && 6 * 2 ^ 20 + 64 * teamSave ≤ saveSz && fieldOf r 0x18 8 + top * saveSz ≤ 0x1000000000
    && 4 ≤ fieldOf r 0x32 1 && fieldOf r 0x32 1 ≤ 12 && 4 ≤ fieldOf r 0x33 1 && fieldOf r 0x33 1 ≤ 12
    && fieldOf r 0x34 4 = 0 && fieldOf r 0x38 8 % 64 = 0 && fieldOf r 0x40 8 % 64 = 0
    && fieldOf r 0x48 8 % 64 = 0 && fieldOf r 0x48 8 < 2 ^ 52 && fieldOf r 0x50 1 ≤ 16 && (r.drop 0x51).all (· = 0#8)

/-- The debugger that a record's CFLAGS[1] names: none of the requesters that management numbers (log 49). -/
def recordDebugger : Nat := 2 ^ 32

/-- The context that a record describes. -/
def contextOf (r : List Byte) (res : ContextResources) (keyGen ns : Nat) : Context where
  ttbase := BitVec.ofNat 52 (fieldOf r 0 8)
  icw := BitVec.ofNat 32 (fieldOf r 8 4)
  wthresh := fieldOf r 0x0C 2
  keySlot := fieldOf r 0x0E 1
  attached := if bitAt r 0x0F 1 then some recordDebugger else none
  part := BitVec.ofNat 64 (fieldOf r 0x10 8)
  saveOff := fieldOf r 0x18 8
  saveSz := fieldOf r 0x20 4
  teamSave := fieldOf r 0x24 4
  fhDesc := BitVec.ofNat 64 (fieldOf r 0x28 8)
  fhSpace := BitVec.ofNat 16 (fieldOf r 0x30 2)
  frLog := fieldOf r 0x32 1
  arLog := fieldOf r 0x33 1
  fring := BitVec.ofNat 64 (fieldOf r 0x38 8)
  aring := BitVec.ofNat 64 (fieldOf r 0x40 8)
  hwTab := BitVec.ofNat 52 (fieldOf r 0x48 8)
  hwCnt := fieldOf r 0x50 1
  frIndex := 0
  arIndex := 0
  unresF := []
  unresA := []
  binds := res.binds
  ports := res.ports
  slots := res.slots
  barriers := res.barriers
  timers := Vector.replicate 8 none
  keyGen := keyGen
  dueSince := none
  leftAt := ns
  gainedAt := ns
  chkFrom := []
  budFrom := []

/-- An entry of a host window table as R305 requires. -/
def windowGood (r : List Byte) : Bool :=
  fieldOf r 0 8 % 2 ^ 18 = 0 && fieldOf r 8 8 % 2 ^ 18 = 0 && fieldOf r 0x12 1 < 4 && fieldOf r 0x13 5 = 0
    && fieldOf r 0x18 8 % 2 ^ 18 = 0

/-- A host window table that firmware accepts: its entries are good and no two overlap in BAR 2; an entry with LEN 0
inside another's range overlaps it (DESIGN CHOICE, log 108). -/
def State.windowsGood (s : State) (c : Context) : Bool :=
  let rs := if c.hwTab = 0#52 then [] else (List.range c.hwCnt).map fun i =>
    readWith (s.viewByte 0) (c.hwTab.toNat + 32 * i) 32
  let ws := rs.map hostWindowOf
  rs.all windowGood && (List.range ws.length).all fun i => (List.range i).all fun j =>
    match ws[i]?, ws[j]? with
    | some v, some w => v.bar + v.len ≤ w.bar || w.bar + w.len ≤ v.bar
    | _, _ => true

/-- May a context be created beside the live ones (spec/15 R287, R306)? -/
def State.mayCreate (s : State) (ctx : Nat) (c : Context) : Bool :=
  1 ≤ ctx && ctx ≤ 255 && (s.context ctx).isNone
    && s.contexts.all (fun x => x.2.part = c.part || x.2.part &&& c.part = 0#64)
    && (s.sharers c.part).length < 16
    && !(s.owns31 ctx && (s.sharers c.part).any fun x => s.owns31 x.1)
    && s.contexts.all (fun x => x.2.keySlot != c.keySlot) && s.windowsGood c

/-- A context takes its place on its partition: resident when it is the first, the standby when it is the second. -/
def State.joinPartition (s : State) (ctx : Nat) (part : BitVec 64) : State :=
  match s.residOf part with
  | none => { s with resid := s.resid ++ [⟨part, some ctx, none, s.ns, none, none, none, false⟩] }
  | some r =>
    if r.resident.isNone && r.chosen.isNone then s.setResid { r with resident := some ctx, sinceNs := s.ns, quantum := none }
    else if r.standby.isNone then s.setResid { r with standby := some ctx }
    else s

/-- CONTEXT_CREATE: its key pair is generated and loaded into its slot (spec/15 R306). -/
def State.contextCreate (s : State) (requester ctx : Nat) (r : List Byte) (res : ContextResources) : State :=
  let gen := s.ident.draws
  let c := contextOf r res gen s.ns
  if !contextGood r || !s.mayCreate ctx c then s.send (.refusedCmd 0)
  else s.command requester fun s =>
    let s := s.rekeySlot c.keySlot gen
    let s := { s with
      contexts := mapSet s.contexts ctx c
      ident := { s.ident with draws := gen + 1 }
      keySlots := mapSet s.keySlots c.keySlot gen }
    s.joinPartition ctx c.part

/-! ## Destroying a context (spec/15 R306, spec/17 R313) -/

/-- A key slot zeroised: what it encrypted decrypts to free bytes (spec/15 R306). -/
def State.zeroise (s : State) (slot : Nat) : State :=
  let s := s.rekeySlot slot (2 ^ 64)
  { s with keySlots := mapDel s.keySlots slot }

/-- Everything a destroyed context ran is gone (log 39): its groups, teams, launches, copies and what waits for them. -/
def State.purge (s : State) (ctx : Nat) : State :=
  let grids := (s.launches.filter fun l => l.2.ctx = ctx).map (·.1)
  let keys := (s.groups.filter fun g => g.2.ctx = ctx).map (·.1)
    ++ (s.teams.filter fun t => t.2.ctx = ctx).flatMap fun t => t.2.saved.map (·.1)
  let parts := (keys.filter fun k => !isOut k && k < 0x4000).map partOf
  let ofGrid (g : Nat) : Bool := grids.contains g
  let cleanDie (x : Nat × Die) : Nat × Die := (x.1, { x.2 with
    queues := x.2.queues.filter fun q => !ofGrid q.grid
    heldRecs := x.2.heldRecs.filter fun r => !ofGrid r.grid
    toPlace := x.2.toPlace.filter fun t => !ofGrid t.grid
    dieBar := x.2.dieBar.filter fun b => !ofGrid b.1 })
  let cleanCluster (x : Nat × Cluster) : Nat × Cluster := (x.1, {
    churn := if (match x.2.churn.grid with
      | some g => ofGrid g
      | none => false) then Churn.idle else x.2.churn
    cluBar := x.2.cluBar.filter fun b => !ofGrid b.1 })
  let cleanQueue (x : Nat × Queue) : Nat × Queue :=
    if x.2.ctx.toNat = ctx then (x.1, { x.2 with en := false, inFlight := [], complete := [] }) else x
  let s : State := { s with
    scripts := s.scripts.filter fun x => (s.queue x.queue).ctx.toNat != ctx
    children := s.children.filter fun c => !ofGrid c.parent
    front := s.front.filter fun x => (s.queue x.queue).ctx.toNat != ctx
    queues := s.queues.map cleanQueue
    groups := s.groups.filter fun g => g.2.ctx != ctx
    ops := s.ops.filter fun o => !keys.contains o.2.group
    teams := s.teams.filter fun t => t.2.ctx != ctx
    launches := s.launches.filter fun l => l.2.ctx != ctx
    ranges := s.ranges.filter fun r => !ofGrid r.grid
    copies := s.copies.filter fun c => c.2.ctx != ctx
    orphans := s.orphans.filter fun o => !ofGrid o.grid
    dies := s.dies.map cleanDie
    clusters := s.clusters.map cleanCluster
    migs := s.migs.filter fun m => m.ctx != ctx
    tlb := s.tlb.filter fun e => e.ctx != ctx }
  parts.eraseDups.foldl (fun (s : State) p => s.syncPool p) s

/-- The context's lines leave every cache, written back. -/
def State.leaveCaches (s : State) (ctx : Nat) : State :=
  let s := (s.foldLog).writeBackLines fun l => l.ctx = ctx
  let s := (s.dropL1Lines (fun _ => true) fun l => l.ctx = ctx).dropSlices fun l => l.ctx = ctx
  { s with victims := s.victims.map fun (v : Nat × List Victim) => (v.1, v.2.filter fun x => x.ctx != ctx) }

/-- The context's circuits: their ports go dark with cause 0x0A, and each is released. -/
def State.dropCircuits (s : State) (ctx : Nat) : State :=
  (s.tickets.filter fun t => t.2.ctx = ctx && t.2.state != 0).foldl (fun (s : State) t =>
    let s := if (s.port t.2.port).ticket = some t.1 then s.portDark t.2.port 0x0A#8 else s
    if (s.ticket t.1).state ≤ 1 || (s.ticket t.1).state = 5 then s.freeTicket t.1 else s.startRelease t.1) s

/-- A destroyed context leaves its partition; its Whey sessions close. -/
def State.leavePartition (s : State) (ctx : Nat) : State :=
  let gone (o : Option Nat) : Option Nat := if o = some ctx then none else o
  let out (r : Residency) : Residency := { r with
    resident := gone r.resident
    standby := gone r.standby
    chosen := gone r.chosen
    rest := r.rest.filter fun x => x.1 != ctx
    quantum := if r.resident = some ctx then none else r.quantum
    stopped := r.stopped && r.chosen != some ctx }
  let live := (s.contexts.filter fun c => c.1 != ctx).map fun c => c.2.part
  let s : State := { s with
    resid := (s.resid.filter fun r => live.contains r.part).map out
    contexts := mapDel s.contexts ctx }
  (s.sessions.filter fun x => x.2.ctx = ctx && x.2.state != 0).foldl (fun (s : State) x => s.closeSession x.1) s

/-! ### What a debugger stopped goes on (spec/21 R379, R381) -/

/-- Do all of a die's clusters lie in a partition? -/
def wholeDie (part : BitVec 64) (d : Nat) : Bool := d < 8 && (List.range 8).all fun i => part.getLsbD (8 * d + i)

/-- Such a group changed. -/
def State.modAny (s : State) (key : Nat) (f : Group → Group) : State :=
  match mapGet? s.groups key with
  | some g => s.setGroup key (f g)
  | none =>
    let put (p : Nat × Group) : Nat × Group := if p.1 = key then (p.1, f p.2) else p
    { s with teams := s.teams.map fun (t : Nat × Team) => (t.1, { t.2 with saved := t.2.saved.map put }) }

/-- A group resumed at its stop address, as one path of its stop mask, with a new epoch. -/
def Group.resumed (g : Group) : Group :=
  match g.stop with
  | none => g
  | some p =>
    let g := { (g.pullLanes p.lanes).placeAll [(p.pc, p.lanes)] with stop := none }
    g.nextEpoch

/-- A stopped group resumed; one that the wait-swap has saved returns as R228 (spec/09) sets. -/
def State.resumeStopped (s : State) (key : Nat) : State :=
  if (mapGet? s.groups key).isSome then (s.modGroup key Group.resumed).endWait key
  else s.modAny key fun g => { g.resumed with wait := none }

/-- A halted die issues again. -/
def State.resumeDie (s : State) (d : Nat) : State := (s.setDie d { s.die d with dbgHalt := [] }).advanceDie d

/-- A die that a debugger halted issues again, unless another keeps it halted (log 96). -/
def State.freeDie (s : State) (d by_ : Nat) : State :=
  let rest := (s.die d).dbgHalt.filter (· != by_)
  if rest.isEmpty then s.resumeDie d else s.setDie d { s.die d with dbgHalt := rest }

/-- Everything that its debugger stopped in a context goes on, and the dies that it halted. -/
def State.releaseStops (s : State) (ctx by_ : Nat) : State :=
  let part := s.partitionOf ctx
  let keys := (s.groups.filter fun g => g.2.ctx = ctx && g.2.stop.isSome).map (·.1)
  let saved := (s.teams.filter fun t => t.2.ctx = ctx).flatMap fun t => (t.2.saved.filter fun p => p.2.stop.isSome).map (·.1)
  let s := (keys ++ saved).foldl (fun (s : State) k => s.resumeStopped k) s
  ((List.range 8).filter fun d => (s.die d).dbgHalt.contains by_ && wholeDie part d).foldl
    (fun (s : State) d => s.freeDie d by_) s

/-- The debugger of a context detached. -/
def State.detach (s : State) (ctx : Nat) : State := match (s.context ctx).bind (·.attached) with
  | some r => (s.releaseStops ctx r).modContext ctx fun c => { c with attached := none }
  | none => s

/-- A context destroyed, with its key slot zeroised; its debugger is detached, and what it had stopped goes on. -/
def State.dropContext (s : State) (ctx : Nat) (c : Context) : State :=
  let s := (((((s.detach ctx).dropCircuits ctx).purge ctx).leaveCaches ctx).leavePartition ctx).zeroise c.keySlot
  s.later (.residentChoice c.part)

/-- CONTEXT_DESTROY. -/
def State.contextDestroy (s : State) (requester ctx : Nat) : State := match s.context ctx with
  | some c => s.command requester fun s => s.dropContext ctx c
  | none => s.send (.refusedCmd 0)

/-! ## Other commands (spec/17 R325, spec/21 R377) -/

/-- FABRIC_BIND. -/
def State.fabricBind (s : State) (requester ctx peer : Nat) (bound : Option Nat) : State :=
  s.command requester fun s => s.modContext ctx fun c => { c with binds := match bound with
    | some x => mapSet c.binds peer x
    | none => mapDel c.binds peer }

/-- ROSTER_SET. -/
def State.rosterSet (s : State) (requester : Nat) (pod : Bool) (keys : List (List Byte)) : State :=
  s.command requester fun s => { s with ident :=
    if pod then { s.ident with podSet := true, podRoster := keys } else { s.ident with opSet := true, opRoster := keys } }

/-- RAS_READ: the log's registers are answered, and its counts, which a read clears, are cleared. -/
def State.rasReadAll (s : State) (requester b : Nat) : State :=
  s.command requester fun s =>
    let r := s.rasOf b
    ((s.send (.management 7 (leBytes 4 r.ce.toNat ++ leBytes 4 r.ue.toNat ++ leBytes 8 r.addr.toNat))).rasceRead b).rasueRead b

/-- POWER_SET. -/
def State.powerSet (s : State) (requester : Nat) (v : Word) : State := s.command requester fun s => s.pwrctlWrite v

/-- CONTEXT_CREATE (spec/15 R287). -/
def execContextCreate (ctx : Nat) (record : List Byte) (res : ContextResources) (s : State) :
    Host.Outcome State Fault Refusal := .next (s.contextCreate s.asker ctx record res)
/-- CONTEXT_DESTROY (spec/15 R306). -/
def execContextDestroy (ctx : Nat) (s : State) : Host.Outcome State Fault Refusal := .next (s.contextDestroy s.asker ctx)
/-- FABRIC_BIND (spec/17 R325). -/
def execFabricBind (ctx peer : Nat) (peerCtx : Option Nat) (s : State) : Host.Outcome State Fault Refusal :=
  .next (s.fabricBind s.asker ctx peer peerCtx)
/-- ROSTER_SET (spec/21 R377). -/
def execRosterSet (pod : Bool) (keys : List (List Byte)) (s : State) : Host.Outcome State Fault Refusal :=
  .next (s.rosterSet s.asker pod keys)
/-- RAS_READ (spec/21 R377). -/
def execRasRead (base : Nat) (s : State) : Host.Outcome State Fault Refusal := .next (s.rasReadAll s.asker base)
/-- POWER_SET (spec/21 R377). -/
def execPowerSet (value : Word) (s : State) : Host.Outcome State Fault Refusal := .next (s.powerSet s.asker value)

end Sys2Proof.Machine
end

