-- ==== Sys2Proof/Machine/Debug.lean ====
section
/-! DEFINITION. The debugger (spec/21 R379-R382, spec/18 R355). -/

namespace Sys2Proof.Machine

/-! ## Who may debug what -/

/-- A refused request of the debugger. -/
def State.refuse (s : State) : State := s.send (.refusedCmd 1)

/-- A command of the debugger, refused unless management accepts its requester (spec/21 R377, R379). -/
def State.debugger (s : State) (requester : Nat) (f : State → State) : State :=
  if s.boot.ready && s.accepts requester then f s else s.refuse

/-- Is a requester attached to a context? -/
def State.attachedBy (s : State) (requester ctx : Nat) : Bool := match s.context ctx with
  | some c => c.attached = some requester
  | none => false

/-- Is the requester attached to a context whose partition holds a die? -/
def State.ownsDie (s : State) (requester d : Nat) : Bool :=
  s.contexts.any fun c => c.2.attached = some requester && wholeDie c.2.part d

/-- A group by its key, in its slot, in an image, or saved by the wait-swap. -/
def State.anyGroup (s : State) (key : Nat) : Option Group :=
  match mapGet? s.groups key with
  | some g => some g
  | none => (s.teams.findSome? fun t => t.2.saved.find? fun p => p.1 = key).map (·.2)

/-- Is a group stopped, or its die halted, so that the requester may look at it? -/
def State.mayInspect (s : State) (requester key : Nat) (g : Group) : Bool :=
  s.attachedBy requester g.ctx
    && (g.stop.isSome || (g.engine == .partition && !isOut key && key < 0x4000 && !(s.die (dieOf key)).dbgHalt.isEmpty))

/-! ## Attach, detach, halt, resume (spec/21 R379-R381) -/

/-- DEBUG_ATTACH. -/
def State.debugAttach (s : State) (requester ctx : Nat) : State :=
  match s.context ctx with
  | some c =>
    if c.attached.isSome then s.refuse
    else (s.modContext ctx fun c => { c with attached := some requester }).mgmtEvent
  | none => s.refuse

/-- The stops of a halted die reported, a report for each path of a group at its next program counter, parked ones and the
lanes that wait at a JOIN or a barrier among them (log 96). -/
def State.reportHalt (s : State) (d : Nat) : State :=
  let here := s.groups.filter fun p => p.2.engine = .partition && !isOut p.1 && dieOf p.1 = d
  let paths (g : Group) : List (DWord × LaneMask) :=
    g.table.map (fun e => (e.pc, e.lanes)) ++ g.parked.map (fun e => (e.pc, e.lanes)) ++ g.waiting.map fun e => (e.pc, e.lanes)
  (here.flatMap fun p => (paths p.2).map fun e => (p, e)).foldl (fun (s : State) x =>
    (s.send (.stopReport (recordCore x.1.2 x.1.1) (x.1.1 % 64) x.2.1 x.2.2)).mgmtEvent) s

/-- DEBUG_HALT. -/
def State.debugHalt (s : State) (requester d : Nat) : State :=
  if !s.ownsDie requester d then s.refuse
  else
    let by_ := (s.die d).dbgHalt
    let s := if by_.isEmpty then s.reportHalt d else s
    (s.setDie d { s.die d with dbgHalt := if by_.contains requester then by_ else by_ ++ [requester] }).mgmtEvent

/-- Has HALT stopped the engine that a group runs on, a command core or the circuit processor (spec/08 R214)? -/
def State.engineHalted (s : State) (g : Group) : Bool := match g.engine with
  | .command => g.halted
  | .circuit => s.cpHalt
  | .partition | .churn => false

/-- An engine that HALT has stopped runs again (spec/08 R214; log 93). -/
def State.restartEngine (s : State) (key : Nat) (g : Group) : State := match g.engine with
  | .command => s.modGroup key fun g => { g with halted := false }
  | .circuit => { s with cpHalt := false }
  | .partition | .churn => s

/-- DEBUG_RESUME. -/
def State.debugResume (s : State) (requester : Nat) (target : DebugTarget) : State :=
  match target with
  | .group key => match s.anyGroup key with
    | some g =>
      if !s.attachedBy requester g.ctx then s.refuse
      else if g.stop.isSome then (s.resumeStopped key).mgmtEvent
      else if s.engineHalted g then (s.restartEngine key g).mgmtEvent else s.refuse
    | none => s.refuse
  | .die d => if !(s.die d).dbgHalt.isEmpty && s.ownsDie requester d then (s.resumeDie d).mgmtEvent else s.refuse

/-- DEBUG_DETACH. -/
def State.debugDetach (s : State) (requester ctx : Nat) : State :=
  if s.attachedBy requester ctx then (s.detach ctx).mgmtEvent else s.refuse

/-- SPDM_SESSION_END: the requester is in no session, and detached from every context it had attached. -/
def State.spdmSessionEnd (s : State) (requester : Nat) : State :=
  let s := { s with ident := { s.ident with
    exchanged := s.ident.exchanged.filter (· != requester)
    secure := mapDel s.ident.secure requester } }
  ((s.contexts.filter fun c => c.2.attached = some requester).map (·.1)).foldl (fun (s : State) c => s.detach c) s

/-! ## Reading (spec/21 R382) -/

/-- A 32-bit value as the debugger sees it. -/
def seen (w : Nat) : BitVec 128 := BitVec.ofNat 128 w

/-- A path's lanes and their address, as the debugger sees them. -/
def seenPath (pc : DWord) (lanes : LaneMask) (age : Nat) : BitVec 128 := seen (pc.toNat + lanes.toNat * 2 ^ 64 + age % 2 ^ 32 * 2 ^ 96)

/-- What a group's state reads as; none for what cannot be read. -/
def readObj (deepSize : Nat) (g : Group) (obj : DebugObj) : Option (List (BitVec 128)) :=
  match obj with
  | .main n m =>
    if 256 ≤ n then none
    else some ((lanesOf m).map fun l => match mapGet? g.x n with
      | some e => seen (laneOf e.vals l).toNat
      | none => 0#128)
  | .oper n m => (g.o[n]?).map fun v => (lanesOf m).map fun l => seen (laneOf v l).toNat
  | .pred n m => (g.k[n]?).map fun v => (lanesOf m).map fun l => boolVal (v.getLsbD l)
  | .deep e m => if e < deepSize then some ((lanesOf m).map fun l => seen (g.bankWord e l).toNat) else none
  | .uni n => (g.q[n]?).map fun w => [seen w.toNat]
  | .upred n => (g.h[n]?).map fun b => [boolVal b]
  | .space n => (g.s[n]?).map fun w => [seen w.toNat]
  | .rejoin n => (g.j[n]?).map fun r => [seen (r.mask.toNat + r.arrived.toNat * 2 ^ 32)]
  | .flag n => (g.f[n]?).map fun c => [seen c.toNat]
  | .latches => some []
  | .paths => some (g.table.map (fun e => seenPath e.pc e.lanes e.age) ++ g.parked.map (fun p => seenPath p.pc p.lanes 0)
      ++ g.waiting.map (fun p => seenPath p.pc p.lanes 0)
      ++ g.ret.toList.flatMap fun r => r.entries.map (fun e => seen e.toNat) ++ [seen r.spilled])
  | .stopAddress => g.stop.map fun p => [seen p.pc.toNat]
  | .lease => some [seen (if g.lease.mode = .declared then 1 else 0), seen g.lease.declared, seen g.lease.measured,
      seen g.lease.boost]
  | .special _ => none
  | .mem _ _ => none

/-- What an access of the debugger to memory comes to: a fault, a wait, or its parts' places. -/
def debugParts (s : State) (die ctx : Nat) (need : Need) : List Access → Option (Option (List (Nat × Nat)))
  | [] => some (some [])
  | a :: t => match s.translate die ctx a.va need with
    | .fault _ _ => none
    | .hold => some none
    | .ok pa _ _ _ =>
      if need == .read && s.readsPoison pa then none
      else match debugParts s die ctx need t with
        | some (some ps) => some (some ((pa, a.size) :: ps))
        | x => x

/-- Bytes cut in values of up to 16. -/
def chunks16 : Nat → List Byte → List (BitVec 128)
  | 0, _ => []
  | n + 1, bs => if bs.isEmpty then [] else seen (leNat (bs.take 16)) :: chunks16 n (bs.drop 16)

/-- The size of the deep window of a group's team. -/
def State.deepSizeOf (s : State) (g : Group) : Nat := match s.team? g.team with
  | some t => t.deepSize
  | none => 0

/-- Memory read for the debugger: what the group's die sees; a frozen page is tried again. -/
def State.debugReadMem (s : State) (requester key : Nat) (g : Group) (va : VAddr) (n : Nat) : State :=
  match debugParts s (dieOf key) g.ctx .read (bufferAccesses 0 va n) with
  | none => s.refuse
  | some none => { s with inputs := (s.now + 1, .debugRead requester key (.mem va n)) :: s.inputs }
  | some (some ps) =>
    let s := ps.foldl (fun (s : State) p => s.drainRedsAt p.1 p.2) s
    s.send (.debugValue (chunks16 n (ps.flatMap fun p => readWith (s.viewByte (dieOf key)) p.1 p.2)))

/-- DEBUG_READ. -/
def State.debugRead (s : State) (requester key : Nat) (obj : DebugObj) : State :=
  match s.anyGroup key with
  | none => s.refuse
  | some g =>
    if !s.mayInspect requester key g then s.refuse
    else match obj with
      | .mem va n => (s.debugReadMem requester key g va n).mgmtEvent
      | _ => match readObj (s.deepSizeOf g) g obj with
        | some vs => (s.send (.debugValue vs)).mgmtEvent
        | none => s.refuse

/-! ## Writing (spec/21 R382) -/

/-- Every write empties the group's latches and advances its epoch. -/
def Group.debugged (g : Group) : Group :=
  let g := g.nextEpoch
  { g with lat := Vector.replicate 32 Latch.empty, ulat := Latch.empty }

/-- A lane mask's bits of a predicate replaced by one value. -/
def putBits (old m : LaneMask) (b : Bool) : LaneMask := (old &&& ~~~m) ||| (if b then m else 0#32)

/-- A register outside the rename map, or another part of a group, written; none for what refuses writes. -/
def writeObj (deepSize : Nat) (g : Group) (obj : DebugObj) (v : DebugVal) : Option Group :=
  let w : Word := v.value.setWidth 32
  match obj with
  | .oper n m => if n < 16 then some { g with
      o := g.o.setIfInBounds n (mergeLanes m (Vector.replicate 32 w) (vget g.o n (Vector.replicate 32 0#32)))
      poison := g.poison.filter fun p => !(p == .oper n && m = 0xFFFFFFFF#32) } else none
  | .pred n m => if n < 7 then some { g with k := g.k.setIfInBounds n (putBits (vget g.k n 0#32) m (v.value.getLsbD 0)) }
      else none
  | .deep e m => if e < deepSize then
      let g := (lanesOf m).foldl (fun (g : Group) l => g.setDeep e l w) g
      some { g with
        poison := g.poison.filter fun p => !((lanesOf m).any fun l => p == .deep e l)
        landed := g.landed.filter fun x => !((lanesOf m).any fun l => x.entry == e && x.lane == l) } else none
  | .uni n => if n < 64 then some { g with q := g.q.setIfInBounds n w } else none
  | .upred n => if n < 4 then some { g with h := g.h.setIfInBounds n (v.value.getLsbD 0) } else none
  | .space n => if n < 8 then some { g with s := g.s.setIfInBounds n (v.value.setWidth 16) } else none
  | .rejoin n => if n < 16 then some (g.setRejoin n ⟨w, v.value.extractLsb' 32 32⟩) else none
  | .stopAddress => g.stop.map fun p => { g with stop := some { p with pc := wordAddr (v.value.setWidth 64) } }
  | .lease => if w.toNat ≤ 4096 then some { g with lease := { g.lease with
      mode := if v.declared then .declared else .measured, declared := w.toNat } } else none
  | .main _ _ | .flag _ | .latches | .paths | .special _ | .mem _ _ => none

/-- A main-file name written as the group's own write would be (spec/03 R66); none when it would hold or trap. -/
def State.writeName (s : State) (key n : Nat) (m : LaneMask) (w : Word) : Option State :=
  let g := s.group key
  match s.grant key (if s.mirrored g n then 2 else 1) g.seq with
  | .hold | .trap => none
  | .take =>
    let (s, ps) := s.allocName key n g.seq m
    let put (g : Group) : Group := ps.foldl (fun (g : Group) p => g.writePhys p m (Vector.replicate 32 w)) g
    some ((s.modGroup key fun g => (put g).debugged).settle key)

/-- The registers of a group's image as they were on its partition (spec/15 R289). -/
def State.imageHome (s : State) (g : Group) : State := { s with
  groups := (s.groups.filter fun p => isOut p.1 && p.2.ctx = g.ctx).map fun p => (homeKey p.1, p.2) }

/-- A name written in a group that the wait-swap has saved: its indices are given anew when it returns (spec/09 R228), so
only its budget can refuse the write (spec/03 R72). -/
def Group.writeSaved (g : Group) (need n : Nat) (m : LaneMask) (w : Word) : Option Group :=
  if g.budget < g.regCount + need then none
  else
    let e := (mapGet? g.x n).getD ⟨List.replicate need 0, Vector.replicate 32 0#32, false, g.seq⟩
    some { g with x := mapSet g.x n { e with
      vals := mergeLanes m (Vector.replicate 32 w) e.vals, poison := e.poison && m != 0xFFFFFFFF#32 } }.debugged

/-- A main-file name written for the debugger, in its slot, in its image or where the wait-swap has saved its group. -/
def State.debugWriteMain (s : State) (key n : Nat) (m : LaneMask) (w : Word) : Option State :=
  if 256 ≤ n || m = 0#32 then none
  else match mapGet? s.groups key, s.anyGroup key with
    | some g, _ =>
      if !isOut key then s.writeName key n m w
      else
        let home := homeKey key
        (((s.imageHome g).syncPool (partOf home)).writeName home n m w).map fun t => s.setGroup key (t.group home)
    | none, some g => (g.writeSaved (if s.mirrored g n then 2 else 1) n m w).map fun g => s.modAny key fun _ => g
    | none, none => none

/-- Memory written for the debugger as a GA store. -/
def State.debugWriteMem (s : State) (requester key : Nat) (g : Group) (va : VAddr) (n : Nat) (v : DebugVal) : State :=
  match debugParts s (dieOf key) g.ctx .write (bufferAccesses 0 va n) with
  | none => s.refuse
  | some none => { s with inputs := (s.now + 1, .debugWrite requester key (.mem va n) v) :: s.inputs }
  | some (some ps) =>
    let put (x : State × List Byte) (p : Nat × Nat) : State × List Byte :=
      ((x.1.drainRedsAt p.1 p.2).plainStore .ga key 0 p.1 (x.2.take p.2), x.2.drop p.2)
    ((ps.foldl put (s, leBytes n v.value.toNat)).1.modAny key Group.debugged).mgmtEvent

/-- DEBUG_WRITE. -/
def State.debugWrite (s : State) (requester key : Nat) (obj : DebugObj) (v : DebugVal) : State :=
  match s.anyGroup key with
  | none => s.refuse
  | some g =>
    if !s.mayInspect requester key g then s.refuse
    else match obj with
      | .mem va n => if n ≤ 16 then s.debugWriteMem requester key g va n v else s.refuse
      | .main n m => match s.debugWriteMain key n m (v.value.setWidth 32) with
        | some t => t.mgmtEvent
        | none => s.refuse
      | _ => match writeObj (s.deepSizeOf g) g obj v with
        | some g' => (s.modAny key fun _ => g'.debugged).mgmtEvent
        | none => s.refuse

/-- DEBUG_ATTACH (spec/21 R379). -/
def execDebugAttach (requester ctx : Nat) (s : State) : Host.Outcome State Fault Refusal :=
  .next (s.debugger requester fun s => s.debugAttach requester ctx)
/-- DEBUG_DETACH (spec/21 R379). -/
def execDebugDetach (requester ctx : Nat) (s : State) : Host.Outcome State Fault Refusal :=
  .next (s.debugger requester fun s => s.debugDetach requester ctx)
/-- DEBUG_HALT (spec/21 R380). -/
def execDebugHalt (requester die : Nat) (s : State) : Host.Outcome State Fault Refusal :=
  .next (s.debugger requester fun s => s.debugHalt requester die)
/-- DEBUG_RESUME (spec/21 R381). -/
def execDebugResume (requester : Nat) (target : DebugTarget) (s : State) : Host.Outcome State Fault Refusal :=
  .next (s.debugger requester fun s => s.debugResume requester target)
/-- DEBUG_READ (spec/21 R382). -/
def execDebugRead (requester group : Nat) (obj : DebugObj) (s : State) : Host.Outcome State Fault Refusal :=
  .next (s.debugger requester fun s => s.debugRead requester group obj)
/-- DEBUG_WRITE (spec/21 R382). -/
def execDebugWrite (requester group : Nat) (obj : DebugObj) (value : DebugVal) (s : State) :
    Host.Outcome State Fault Refusal := .next (s.debugger requester fun s => s.debugWrite requester group obj value)
/-- SPDM_SESSION_END (spec/21 R379). -/
def execSpdmSessionEnd (requester : Nat) (s : State) : Host.Outcome State Fault Refusal := .next (s.spdmSessionEnd requester)

end Sys2Proof.Machine
end

