-- ==== Sys2Proof/Machine/Spdm.lean ====
section
/-! DEFINITION. The SPDM responder (spec/21 R375), and writes of device registers that have no row of their own
(spec/00 R6, spec/14 R267, spec/17 R314, R317, spec/21 R374, R376). -/

namespace Sys2Proof.Machine

/-! ## SPDM (spec/21 R375) -/

/-- A message that management answers, once the package is ready or in recovery (spec/21 R369, R371). -/
def State.answering (s : State) (f : State → State) : State := if s.boot.ready || s.boot.recovery then f s else s

/-- An answer whose body the SPDM standard lays out (log 16); one that needs random bits takes a draw. -/
def State.spdmAnswer (s : State) (code : Nat) (msg : List Byte) (signed : Bool) : State :=
  let body := Config.spdmBody code msg s.ident.draws
  let bytes := if signed then body ++ Config.sign 0 body else body
  State.send { s with ident := { s.ident with draws := s.ident.draws + 1 } } (.spdm code bytes)

/-- The digests of the measurement indices, in order. -/
def Identity.report (x : Identity) : List Byte := x.measured.toList.flatMap fun ds => ds.flatMap fun d => d

/-- GET_MEASUREMENTS: the report of the four indices, signed with the identity key. -/
def State.spdmMeasurements (s : State) (msg : List Byte) : State :=
  let body := Config.spdmBody 0xE0 msg s.ident.draws ++ s.ident.report
  State.send { s with ident := { s.ident with draws := s.ident.draws + 1 } } (.spdm 0xE0 (body ++ Config.sign 0 body))

/-- KEY_EXCHANGE: its answer is signed, and the requester's FINISH may follow. -/
def State.spdmKeyExchange (s : State) (requester : Nat) (msg : List Byte) : State :=
  let s := s.spdmAnswer 0xE4 msg true
  { s with ident := { s.ident with exchanged := requester :: s.ident.exchanged.filter (· != requester) } }

/-- FINISH: the secure session of a requester that has exchanged keys stands, with the certificate it has shown. -/
def State.spdmFinish (s : State) (requester : Nat) (cert msg : List Byte) : State :=
  let s := s.spdmAnswer 0xE5 msg false
  if !s.ident.exchanged.contains requester then s
  else { s with ident := { s.ident with
    exchanged := s.ident.exchanged.filter (· != requester)
    secure := mapSet s.ident.secure requester cert } }

/-! ## Registers written (spec/00 R6) -/

/-- Byte `i` of a write's bytes at an offset, as it falls on a register's byte; none where it does not. -/
def writtenByte (off size : Nat) (v : DWord) (reg : Nat) : Option Byte :=
  if off ≤ reg && reg < off + size then some (v.extractLsb' (8 * (reg - off)) 8) else none

/-- A register's bytes after a write at an offset: bytes not written keep `old`. -/
def mergeReg (off size : Nat) (v : DWord) (reg n old : Nat) : Nat :=
  leNat ((List.range n).map fun i => (writtenByte off size v (reg + i)).getD (BitVec.ofNat 8 (old / 256 ^ i)))

/-- Does a write fall on a register? -/
def hitsReg (off size reg n : Nat) : Bool := overlaps off size reg n

/-- A write within a queue's block. -/
def State.queueWrite (s : State) (n off size : Nat) (v : DWord) : State :=
  let q := s.queue n
  let base := 0x100000 + 0x40 * n
  let now (r len old : Nat) : Nat := mergeReg off size v (base + r) len old
  let hit (r len : Nat) : Bool := hitsReg off size (base + r) len
  if hit 0x00 4 then s.qctlWrite n (BitVec.ofNat 32 (now 0x00 4 q.ctl))
  else if hit 0x20 8 then s.doorbell n (BitVec.ofNat 64 (now 0x20 8 q.wptr.toNat))
  else if q.en then s
  else if hit 0x08 8 then s.setQueue n { q with qbase := BitVec.ofNat 64 (now 0x08 8 q.qbase.toNat) }
  else if hit 0x10 2 then s.setQueue n { q with qspace := BitVec.ofNat 16 (now 0x10 2 q.qspace.toNat) }
  else if hit 0x18 8 then s.setQueue n { q with qcbase := BitVec.ofNat 64 (now 0x18 8 q.qcbase.toNat) }
  else if hit 0x30 8 then s.setQueue n { q with tlv := BitVec.ofNat 64 (now 0x30 8 q.tlv.toNat) }
  else if hit 0x38 2 then s.setQueue n { q with ph := BitVec.ofNat 16 (now 0x38 2 q.ph.toNat) }
  else s

/-- A write within a port's block: PCAP and each lane's LSTAT act on the bits written as 1. -/
def State.portWrite (s : State) (n off size : Nat) (v : DWord) : State :=
  let base := 0x200000 + 0x200 * n
  let now (r : Nat) : Word := BitVec.ofNat 32 (mergeReg off size v (base + r) 4 0)
  let s := if hitsReg off size (base + 0x08) 4 then s.pcapWrite n (now 0x08) else s
  (List.range 4).foldl (fun (s : State) i =>
    if hitsReg off size (base + 0x40 + 0x40 * i) 4 then s.lstatWrite n i (now (0x40 + 0x40 * i)) else s) s

/-- REGISTER_WRITE: within the 8 bytes at an 8-byte-aligned offset. A read-only register ignores it. -/
def State.registerWrite (s : State) (off size : Nat) (v : DWord) : State :=
  if 0x100000 ≤ off && off < 0x104000 then s.queueWrite ((off - 0x100000) / 0x40) off size v
  else if 0x200000 ≤ off && off < 0x208000 then s.portWrite ((off - 0x200000) / 0x200) off size v
  else if hitsReg off size 0x500000 4 then
    s.pwrctlWrite (BitVec.ofNat 32 (mergeReg off size v 0x500000 4 (s.power.plimit.toNat * 2 ^ 16 + s.power.tlimit.toNat * 2 ^ 8)))
  else if hitsReg off size 0x500100 4 then s.fwslotWrite (BitVec.ofNat 32 (mergeReg off size v 0x500100 4 0))
  else s

/-- GET_VERSION (spec/21 R375). -/
def execGetVersion (msg : List Byte) (s : State) : Host.Outcome State Fault Refusal :=
  .next (s.answering fun s => s.spdmAnswer 0x84 msg false)
/-- GET_CAPABILITIES (spec/21 R375). -/
def execGetCapabilities (msg : List Byte) (s : State) : Host.Outcome State Fault Refusal :=
  .next (s.answering fun s => s.spdmAnswer 0xE1 msg false)
/-- NEGOTIATE_ALGORITHMS (spec/21 R375). -/
def execNegotiateAlgorithms (msg : List Byte) (s : State) : Host.Outcome State Fault Refusal :=
  .next (s.answering fun s => s.spdmAnswer 0xE3 msg false)
/-- GET_DIGESTS (spec/21 R375). -/
def execGetDigests (msg : List Byte) (s : State) : Host.Outcome State Fault Refusal :=
  .next (s.answering fun s => s.spdmAnswer 0x81 msg false)
/-- GET_CERTIFICATE (spec/21 R375). -/
def execGetCertificate (msg : List Byte) (s : State) : Host.Outcome State Fault Refusal :=
  .next (s.answering fun s => s.spdmAnswer 0x82 msg false)
/-- CHALLENGE (spec/21 R375). -/
def execChallenge (msg : List Byte) (s : State) : Host.Outcome State Fault Refusal :=
  .next (s.answering fun s => s.spdmAnswer 0x83 msg true)
/-- GET_MEASUREMENTS (spec/21 R375). -/
def execGetMeasurements (msg : List Byte) (s : State) : Host.Outcome State Fault Refusal :=
  .next (s.answering fun s => s.spdmMeasurements msg)
/-- KEY_EXCHANGE (spec/21 R375). -/
def execKeyExchange (msg : List Byte) (s : State) : Host.Outcome State Fault Refusal :=
  .next (s.answering fun s => s.spdmKeyExchange s.asker msg)
/-- FINISH (spec/21 R375). -/
def execFinish (msg : FinishMsg) (s : State) : Host.Outcome State Fault Refusal :=
  .next (s.answering fun s => s.spdmFinish s.asker msg.cert msg.bytes)
/-- REGISTER_WRITE (spec/00 R6). -/
def execRegisterWrite (offset size : Nat) (value : DWord) (s : State) : Host.Outcome State Fault Refusal :=
  .next (s.registerWrite offset size value)

end Sys2Proof.Machine
end

