-- ==== Sys2Proof/Machine/Select.lean ====
section
/-! DEFINITION. The choice of what issues (spec/02 R34, spec/05 R109, spec/09 R223, spec/10 R243, spec/17 R333). -/

namespace Sys2Proof.Machine

/-- How a path stands with respect to issue. -/
inductive PathReady where
  /-- not ready -/
  | no
  /-- its next instruction's translation is to be walked -/
  | walk
  /-- its next instruction cannot be fetched: a fault or poison -/
  | unfetched
  /-- ready: the pipe of its next instruction, its stall count, and whether the undo buffer or the register pool holds
  it -/
  | ready (uniform : Bool) (st : Nat) (held : Bool)
  deriving DecidableEq, Repr

/-- A path of a group tested (spec/09 R223). A word that would trap is ready; so is one that the undo buffer or the
register pool holds, which is chosen and issues nothing (spec/03 R70, R72; log 52). -/
def State.pathReady (s : State) (key : Nat) (e : PathEntry) : PathReady :=
  let g := s.group key
  let s' : State := { s with cur := ⟨key, e.pc, e.lanes, 0⟩ }
  let fails : PathReady := if s.olderFault key g.seq then .no else .unfetched
  if !(s.mayRun key && g.hasPath e.pc e.lanes && s.stallOver key) then .no
  else match s.fetchWord key e.pc with
    | .walk => .walk
    | .fault _ _ | .poison => fails
    | .wait => .no
    | .word w =>
      match decode g.engine w with
      | .error _ => if s.olderFault key g.seq then .no else .ready (w.getLsbD 127) 0 false
      | .ok i =>
        match i.info with
        | none => .no
        | some info =>
          let c := s'.ctx info
          if gate s' c != .hold then .ready info.uniform info.fields.st.toNat false
          else if g.trapPend.isNone && readyGate s' c = .pass then .ready info.uniform info.fields.st.toNat true
          else .no

/-- Does a full record store hold an EMIT that a group's path would issue next (spec/08 R201, spec/14 R280)? -/
def State.emitHeld (s : State) (key : Nat) : Bool := (s.group key).table.any fun e =>
  match s.fetchWord key e.pc with
  | .word w => match decode (s.group key).engine w with
    | .ok (.emit f) => match (Instr.emit f).info with
      | some info =>
        let c := State.ctx { s with cur := ⟨key, e.pc, e.lanes, 0⟩ } info
        c.active != 0#32 && opHold s c
      | none => false
    | _ => false
  | _ => false

/-- Is an EMIT of a launch held: its records wait to be accepted, or it waits to issue? -/
def State.launchHeld (s : State) (grid : Nat) : Bool :=
  s.dies.any fun d => (d.2.heldRecs.any fun h => h.grid = grid)
    || ((524288 ≤ d.2.storeBytes || !d.2.heldRecs.isEmpty) && s.groups.any fun g =>
      g.2.engine == .partition && !isOut g.1 && dieOf g.1 == d.1 && s.gridOf g.1 == grid && s.emitHeld g.1)

/-- RENNET_STALL_END: a launch whose Rennets have stood still for 1 s with an EMIT held ends with 0x0024. -/
def State.rennetStall (s : State) (grid : Nat) : State :=
  match s.launch? grid with
  | none => s
  | some l =>
    if s.ns < l.moveNs + 1000000000 || !s.launchHeld grid then s
    else (((s.launchError grid 0x0024#16).haltTeams grid 0#16).discardRecords grid).checkLaunch grid

/-- A group as the issue stage sees it: its key, and each path with how it stands. -/
structure Offer where
  key   : Nat
  paths : List (PathEntry × PathReady)
  deriving DecidableEq, Repr

/-- What a group offers. -/
def State.offer (s : State) (key : Nat) : Offer := ⟨key, (s.group key).table.map fun e => (e, s.pathReady key e)⟩

/-- A path taken: its entry, its stall count, and whether it is held. -/
abbrev Pick := PathEntry × Nat × Bool

/-- The ready paths of a pipe. -/
def Offer.on (o : Offer) (uniform : Bool) : List Pick :=
  o.paths.filterMap fun p => match p.2 with
    | .ready u st held => if u = uniform then some (p.1, st, held) else none
    | _ => none

/-- Is any path ready? A path that needs the lane pipe is not while that pipe is occupied (spec/09 R223). -/
def Offer.any (o : Offer) (laneFree : Bool) : Bool := laneFree && !(o.on false).isEmpty || !(o.on true).isEmpty

/-- The order in which paths of a group are taken: forced ones first, in decreasing age; then those of most lanes; ties
to the lower program counter. -/
def pathFirst (a b : Pick) : Bool :=
  let fa := 64 ≤ a.1.age
  let fb := 64 ≤ b.1.age
  if fa != fb then fa
  else if fa && a.1.age != b.1.age then b.1.age < a.1.age
  else
    let na := (lanesOf a.1.lanes).length
    let nb := (lanesOf b.1.lanes).length
    if !fa && na != nb then nb < na else a.1.pc.toNat ≤ b.1.pc.toNat

/-- The first group of a list, oldest first, with the largest skip count. -/
def mostSkipped (skip : Nat → Nat) : List Offer → Option Offer
  | [] => none
  | o :: t =>
    match mostSkipped skip t with
    | none => some o
    | some p => if skip o.key < skip p.key then some p else some o

/-- The paths a pipe takes of a group: two on the lane pipe, one on the uniform pipe. Those that issue together do so
in the order of their program counters (spec/02 R37, spec/03 R66, R78, spec/07 R145). -/
def Offer.take (o : Offer) (uniform : Bool) : List Pick :=
  sortBy ((sortBy (o.on uniform) pathFirst).take (if uniform then 1 else 2)) fun a b => a.1.pc.toNat ≤ b.1.pc.toNat

/-- Skip counts after a choice among groups that had a ready path for the pipe. -/
def State.countSkips (s : State) (uniform : Bool) (os : List Offer) (chosen : Nat) : State :=
  os.foldl (fun (s : State) o => s.modGroup o.key fun g =>
    if uniform then { g with uniSkip := if o.key = chosen then 0 else g.uniSkip + 1 }
    else { g with laneSkip := if o.key = chosen then 0 else g.laneSkip + 1 }) s

/-- Ages of a group's ready lane-pipe paths at an issue opportunity: each grows older, and the entry of a path that
issues is emptied and placed again with age 0 (spec/09 R221, R223). -/
def Group.grow (g : Group) (ready : List Pick) : Group :=
  { g with table := g.table.map fun e => if ready.any fun t => t.1.pc = e.pc then { e with age := e.age + 1 } else e }

/-- The choice of both pipes among groups' offers, oldest group first. -/
def State.choose (s : State) (laneFree : Bool) (os : List Offer) : State :=
  let lanes := if laneFree then os.filter fun o => !(o.on false).isEmpty else []
  let unis := os.filter fun o => !(o.on true).isEmpty
  let lane := mostSkipped (fun k => (s.group k).laneSkip) lanes
  let uni := mostSkipped (fun k => (s.group k).uniSkip) unis
  let takenBy (o : Option Offer) (u : Bool) : List (Nat × Pick) := match o with
    | some o => (o.take u).filterMap fun p => if p.2.2 then none else some (o.key, p)
    | none => []
  let picks := takenBy lane false ++ takenBy uni true
  let until_ (key : Nat) : Nat := picks.foldl (fun n p => if p.1 = key then max n (s.timeOf p.1 + p.2.2.1 + 1) else n) 0
  let s := match lane with
    | some o => (s.countSkips false lanes o.key).modGroup o.key fun g =>
        if (takenBy lane false).isEmpty then g else g.grow (o.on false)
    | none => s
  let s := match uni with
    | some o => s.countSkips true unis o.key
    | none => s
  let curs : List Cur := picks.map fun p => ⟨p.1, p.2.1.pc, p.2.1.lanes, until_ p.1⟩
  { s with chosen := s.chosen ++ curs }

/-- Walks asked for, and paths whose fetch fails taken at once, whatever the pipes do. -/
def State.fetchWork (s : State) (os : List Offer) : State :=
  let s := os.foldl (fun (s : State) o => (o.paths.filter fun p => p.2 = .walk).foldl
    (fun (s : State) p => s.later (.pageWalk (.fetch o.key p.1.pc))) s) s
  let bad : List Cur := os.flatMap fun o => (o.paths.filter fun p => p.2 = .unfetched).map fun p =>
    ⟨o.key, p.1.pc, p.1.lanes, 0⟩
  { s with chosen := s.chosen ++ bad }

/-- A yield's one pass: the groups that take part in this cycle's choice (spec/02 R34). -/
def State.passYields (s : State) (laneFree : Bool) (os : List Offer) : State × List Offer :=
  let yields (o : Offer) : Bool := (s.group o.key).yieldPass
  let stays := os.filter fun o => !(yields o && os.any fun p => p.key != o.key && p.any laneFree)
  (os.foldl (fun (s : State) o => s.modGroup o.key fun g => { g with yieldPass := false }) s, stays)

/-- The groups of a partition, oldest first. -/
def State.partByAge (s : State) (part : Nat) : List Nat :=
  ((s.coreByAge (part / 4)).filter fun p => partOf p.1 = part).map (·.1)

/-- The scripts that run, earliest dispatched first. -/
def State.scriptsByAge (s : State) : List Nat :=
  sortBy (((List.range 16).map scriptKey).filter fun k => (mapGet? s.groups k).isSome)
    fun a b => (s.group a).occ ≤ (s.group b).occ

/-- The keys that one issue stage chooses among: a partition's groups, the circuit processor's scripts (0x4040), or
the one program of a churn controller or a command core. -/
def State.stageKeys (s : State) (part : Nat) : List Nat :=
  if part < 1024 then s.partByAge part
  else if part = scriptKey 0 then s.scriptsByAge
  else if (mapGet? s.groups part).isSome then [part] else []

/-- Does a partition's lane pipe accept an instruction (spec/05 R109)? -/
def State.laneFree (s : State) (part : Nat) : Bool := mapGet s.laneBusy part 0 ≤ s.now

/-- The registers that a group's held requests would take, taken for the tests of younger teams: of the requests of
one cycle the oldest team's are tried first (spec/03 R72). -/
def State.reserve (s : State) (o : Offer) : State :=
  (o.on false).foldl (fun (s : State) p =>
    let s' : State := { s with cur := ⟨o.key, p.1.pc, p.1.lanes, 0⟩ }
    match s.fetchWord o.key p.1.pc with
    | .word w => match decode (s.group o.key).engine w with
      | .ok i => match i.info with
        | some info =>
          if p.2.2 || gate s' (s'.ctx info) != .pass then s
          else (s.allocResult o.key (s.group o.key).seq ⟨info.dest, info.dBits, Vector.replicate 32 0#128, 0#32, [],
            info.uniform, false⟩).1
        | none => s
      | .error _ => s
    | _ => s) s

/-- What the groups of a stage offer, oldest first, each tested with the requests of older teams granted. -/
def State.offers (s : State) : List Nat → State → List Offer
  | [], _ => []
  | k :: t, u =>
    let o := u.offer k
    o :: s.offers t (if (s.group k).poolHeld then u.reserve o else u)

/-- Whether the register pool or the undo buffer holds a ready path of each group, noted for the next cycle. -/
def State.noteHeld (s : State) (os : List Offer) : State :=
  os.foldl (fun (s : State) o => s.modGroup o.key fun g => { g with poolHeld := (o.on false).any fun p => p.2.2 }) s

/-- ISSUE_SELECT. -/
def State.issueSelect (s : State) (part : Nat) : State :=
  let os := s.offers (s.stageKeys part) s
  let (s, os) := ((s.fetchWork os).noteHeld os).passYields (s.laneFree part) os
  s.choose (s.laneFree part) os

/-- RENNET_STALL_END (spec/14 R280). -/
def execRennetStallEnd (grid : Nat) (s : State) : Host.Outcome State Fault Refusal := .next (s.rennetStall grid)
/-- ISSUE_SELECT (spec/10 R243). -/
def execIssueSelect (part : Nat) (s : State) : Host.Outcome State Fault Refusal := .next (s.issueSelect part)

end Sys2Proof.Machine
end

