-- ==== Sys2Proof/Machine/Clock.lean ====
section
/-! DEFINITION. The clocks (spec/01 R18, spec/03 R384): a core cycle passes, stores become visible, and what falls due in
the cycle is put on the agenda; the base-die cycles that it ends follow it, for the circuit processor and the command cores
(log 1, log 2, log 3). -/

namespace Sys2Proof.Machine

/-! ## Time and visibility -/

/-- The cycle counter and the package timer one core cycle on: a cycle takes 40/CLK ns (spec/21 R376), and a base-die
cycle 5/8 ns. -/
def State.passTime (s : State) : State :=
  let n := s.timerAcc + 40
  let k := s.power.clk.toNat
  { s with
    cycle := s.cycle + 1#64
    timer := s.timer + BitVec.ofNat 64 (n / k)
    timerAcc := n % k
    baseDue := s.baseDue + (s.baseAcc + 64) / k
    baseAcc := (s.baseAcc + 64) % k }

/-- The dies that come to see a store by a cycle. -/
def LogStore.dueDies (r : LogStore) (now : Nat) : List Nat := (r.due.filter fun d => d.2 ≤ now).map (·.1)

/-- Stores whose time has come are seen by the dies that wait for them. -/
def State.showDue (s : State) : State :=
  let l1 := s.log.foldl (fun l1 r =>
    if r.inL1 then (r.dueDies s.now).foldl (fun l1 d => l1AfterStore l1 d none r.pa r.bytes) l1 else l1) s.l1
  let see (r : LogStore) : LogStore :=
    { (r.dueDies s.now).foldl LogStore.seenBy r with due := r.due.filter fun d => s.now < d.2 }
  State.foldLog { s with l1 := l1, log := s.log.map see }

/-! ## Operations in flight -/

/-- Does a down link keep traffic from passing between two base dies? One that retrains only delays it (spec/18 R343). -/
def State.routeDown (s : State) (a b : Nat) : Bool :=
  let r := linkRoute a b
  a != b && (r.1.any fun k => s.linkState k == 3) && r.2.any fun k => s.linkState k == 3

/-- Does a store that has not performed wait for a home out of its group's reach, or behind a held line (spec/07 R156,
spec/11 R262)? -/
def State.unreached (s : State) (id : Nat) (o : Op) : Bool :=
  s.storeWaits id || o.toDo.any fun a => s.routeDown (baseOf (dieOf o.group)) (homeBase a.paNat)
    || !s.lineServes o (lineOf a.paNat)

/-- Has a store that has performed in every lane no route for its response (spec/07 R156)? -/
def State.answerCut (s : State) (id : Nat) (o : Op) : Bool :=
  o.toDo.isEmpty && !s.storeWaits id && s.reqs.any fun r => r.op == id && s.routeDown r.src r.dst

/-- Is an operation a TFEED that fills a slot? It is completed in an image as what has left the core is (spec/16 R308). -/
def OpKind.isTfeed : OpKind → Bool
  | .tfeed _ => true
  | _ => false

/-- What an operation that is not of fixed latency does next, when its time has come. -/
def State.opDue (s : State) (id : Nat) (o : Op) : Option Event :=
  if o.ackLost.isSome || o.kind.fixed || (isImage o.group && o.kind.heldBack && !o.left && !o.kind.isTfeed) then none
  else if s.now < o.due then
    match o.kind with
    | .wwait _ _ => if o.walked && s.wwaitStirred o && s.mayPerform o then some (.wwaitReread id) else none
    | _ => none
  else if o.kind == .xend && o.left && o.mask != 0#8 && o.issueNs + 50000 ≤ s.ns then some (.xendAckTimeout id)
  else if s.ackMayBeLost id o && o.mask != 0#8 then some (.ackLostTimeout id (.held o.mask))
  else if s.ackMayBeLost id o && s.unreached id o then some (.ackLostTimeout id .noRecord)
  else if s.ackMayBeLost id o && s.answerCut id o then some (.ackLostTimeout id .done)
  else if o.kind.isAccess && !o.walked then some (.pageWalk (.op id))
  else if o.kind.remote && o.left then
    if o.acting.all fun a => s.reachable (a.peer.getD 0) then some (.remoteRequestAtPeer id true)
    else if o.issueNs + 10000000 ≤ s.ns then some (.fabricTimeout (.op id)) else none
  else match o.kind with
    | .barWait _ | .barArrive _ | .barcWait | .bardWait | .joinWait _ | .churnOp | .yield => none
    | .atom _ _ _ _ => if o.left && !o.acting.all (·.bound) then some (.homeAtomicApply id) else some (.variableOpComplete id)
    | .wwait _ _ => if s.mayPerform o then some (.wwaitReread id) else some (.variableOpComplete id)
    | .cawait _ _ untilNs => if s.caExpired untilNs then some (.cawaitTimeout id) else some (.variableOpComplete id)
    | _ => some (.variableOpComplete id)

/-- Does an operation only read for its selector? -/
def OpKind.turns : OpKind → Bool
  | .turn _ => true
  | _ => false

/-- The selectors that read in a cycle: after every result that lands in it, those of one cycle in the order of their
addresses (spec/02 R35, R37). -/
def State.turnEvents (s : State) (base : Bool) : List Event :=
  (sortBy (s.ops.filter fun p => p.2.kind.turns && onBaseClock p.2.group == base && p.2.due ≤ s.timeOf p.2.group) fun a b =>
    a.2.due < b.2.due || (a.2.due == b.2.due && a.2.pc.toNat ≤ b.2.pc.toNat)).map fun p => .fixedResultWriteback p.1

/-- The fixed-latency results of a base-die cycle, in the order of their issue (spec/03 R63, spec/05 R107). -/
def State.landings (s : State) : List Event :=
  let os := sortBy (s.ops.filter fun p => p.2.kind.fixed && onBaseClock p.2.group && p.2.due ≤ s.timeOf p.2.group) fun a b =>
    a.2.due < b.2.due || (a.2.due == b.2.due && a.2.seq ≤ b.2.seq)
  (os.filter fun p => !p.2.kind.turns).map (fun p => .fixedResultWriteback p.1) ++ s.turnEvents true

/-- What falls due for the operations of a core cycle, in program order: where results of one cycle go to one place,
the later instruction's is written last (spec/03 R63, spec/10 R244); and the reductions that may drain. -/
def State.opEvents (s : State) : List Event :=
  s.ops.filterMap (fun p =>
      if p.2.kind.fixed then
        if !onBaseClock p.2.group && !p.2.kind.turns && p.2.due ≤ s.now then some (.fixedResultWriteback p.1) else none
      else s.opDue p.1 p.2)
    ++ s.turnEvents false
    ++ (((s.reds.filter fun r => r.due ≤ s.now).map (·.pa)).eraseDups.map fun pa => .redEntryDrain (BitVec.ofNat 52 pa))

/-! ## Cores -/

/-- The cores that hold groups. -/
def State.busyCores (s : State) : List Nat :=
  ((s.groups.filter fun p => p.2.engine = .partition && !isOut p.1).map fun p => coreOf p.1).eraseDups

/-- The partitions that hold groups. -/
def State.busyParts (s : State) : List Nat :=
  ((s.groups.filter fun p => p.2.engine = .partition && !isOut p.1).map fun p => partOf p.1).eraseDups

/-- Evaluations every 256 cycles, protections that end, and waits of 1,024 cycles (spec/10 R237-R240). -/
def State.leaseEvents (s : State) : List Event :=
  (if s.now % 256 = 0 then s.busyCores.map .activationEvaluate else [])
    ++ s.groups.flatMap fun p =>
      if p.2.engine != .partition || isOut p.1 then []
      else (if p.2.lease.protectedUntil != 0 && p.2.lease.protectedUntil ≤ s.ns then [.protectionExpiry p.1] else [])
        ++ match p.2.wait with
          | some w => if w.cycle + 1024 ≤ s.now && p.2.lease.act != .dormant then [.dormantEntry p.1] else []
          | none => []

/-- Teams that end, are saved, or may return. -/
def State.teamEvents (s : State) : List Event :=
  s.teams.filterMap fun t =>
    if t.2.ended then
      if s.endOwes t.1 t.2 then none else some (.teamEnd t.1 0#16)
    else match t.2.swap with
      | .saving e => if e ≤ s.ns then some (.waitSwapSaveEnd t.1) else none
      | .out => if s.runsOn t.2.ctx (t.2.core / 4) && s.mayReturn t.1 t.2
          && s.fitsCore t.2.core t.2.deepSize t.1 (t.2.saved.map (·.2)) then some (.teamReturn t.1) else none
      | .resident => none

/-- Placements and steals, for the clusters of the contexts that have launches (spec/09 R229, R230). -/
def State.placeEvents (s : State) : List Event :=
  if s.ranges.isEmpty && s.dies.all fun d => d.2.toPlace.isEmpty then []
  else (List.range 64).flatMap fun cl =>
    if (s.nextPlacement cl).isSome then [.teamPlace cl]
    else if (s.stealable cl).any fun g => s.couldPlace cl g && (s.steal cl g).isSome then [.distributorSteal cl] else []

/-- What issue stages choose in a core cycle: partitions and churn controllers. -/
def State.selectEvents (s : State) : List Event :=
  (s.busyParts ++ (s.groups.filter fun p => p.2.engine = .churn && !isOut p.1).map (·.1)).map .issueSelect

/-- What issue stages choose in a base-die cycle: the circuit processor and the command cores (spec/17 R333). -/
def State.baseSelects (s : State) : List Event :=
  ((s.groups.filter fun p => p.2.engine = .command).map (·.1)
    ++ (if s.scriptsByAge.isEmpty then [] else [scriptKey 0])).map .issueSelect

/-! ## Engines -/

/-- Records held or waiting in the Rennets (spec/14 R279, R280). -/
def State.rennetEvents (s : State) : List Event :=
  s.dies.flatMap (fun d =>
    (match d.2.heldRecs with
      | h :: _ => if d.2.fits h.bytes.length then [.rennetRecordAccept d.1] else []
      | [] => [])
    ++ (d.2.queues.filter fun q => !s.dieHalted d.1 && !q.records.isEmpty
      && (q.lastNs + 10000 ≤ s.ns || (s.reliefNode d.1).any (· == q))).map fun q =>
      .rennetBatchTimeout d.1 q.grid q.node)
  ++ (s.launches.filter fun l => !l.2.done && l.2.moveNs + 1000000000 ≤ s.ns && s.launchHeld l.1).map fun l =>
    .rennetStallEnd l.1

/-- Copies that may begin, go on, or have waited 10 ms for a peer (spec/08 R187-R190, spec/17 R323, R331). -/
def State.copyEvents (s : State) : List Event :=
  s.copies.filterMap fun c =>
    if c.2.shape.clbEn && s.clbState c.2.shape.clb = 2 then some (.copyPieceDeliver c.1)
    else if c.2.fault.isSome then none
    else if !c.2.started then
      (if s.clbState c.2.shape.clb = 1 then some (.clbCopyTest c.1) else none)
    else if s.copyLost c.2 then some (.fabricTimeout (.copy c.1))
    else if s.copyRuns c.2 then some (.copyPieceDeliver c.1) else none

/-- Macro-operations that take a step or complete (spec/08 R195-R199). -/
def State.macroEvents (s : State) : List Event :=
  s.clusters.filterMap fun c => match c.2.churn.macros with
    | m :: _ =>
      if 0x1000 ≤ c.1 || s.stoppedAt c.1 || m.fault.isSome then none
      else match m.lastAt with
        | some t => if t + (if m.kind = .mma || m.kind = .mmag then 24 else 0) ≤ s.now then some (.macroComplete c.1) else none
        | none => some (.macroStep c.1)
    | [] => none

/-! ## Contexts and the front end -/

/-- Choices of residents, exchanges, quanta and due contexts (spec/15 R290-R294). -/
def State.contextEvents (s : State) : List Event :=
  s.resid.flatMap (fun r =>
    (match r.quantum with
      | some e => if e ≤ s.ns then [.quantumExpiry r.part] else []
      | none => [])
    ++ (if r.chosen.isSome then (if r.stopped && s.atRest r.part then [.crockExchange r.part] else [])
      else
        let t := s.residentChoice r.part
        if t.resid != s.resid || t.contexts != s.contexts then [.residentChoice r.part] else [])
      ++ (match s.wantsImage r with
        | some c => [.imageSpill r.part, .imageFill r.part c]
        | none => []))
  ++ s.contexts.flatMap fun c =>
    (if (s.contextDue c.1).contexts != s.contexts then [.contextDue c.1] else [])
    ++ (if !s.fw.quiesced && (!(s.handlersDone c.1).isEmpty
        || (!(c.2.unresF.isEmpty && c.2.unresA.isEmpty) && !s.handlerRuns c.1)) then [.faultResolution c.1] else [])
    ++ ((List.range 8).filter fun n => match vget c.2.timers n none with
      | some t => t ≤ s.ns
      | none => false).map fun n => .timerExpiry c.1 n

/-- Pages being migrated (spec/15 R303). -/
def State.migrationEvents (s : State) : List Event :=
  s.migs.flatMap fun m =>
    if m.moved then (if m.heldOps.any s.stillHeld then [] else [.pageMigration m.ctx m.page m.newPa])
    else if !s.pageHeld m.oldPa.toNat then [.pageMigration m.ctx m.page m.newPa]
    else if m.startNs + 50000 ≤ s.ns then [.migrationAbandon m.ctx m.page] else []

/-- A held script, the front end's next packet, and a heartbeat that has been missed. -/
def State.frontEvents (s : State) : List Event :=
  (if !s.scripts.isEmpty && s.freeScript.isSome && s.frontRuns then [.scriptHeldStart] else [])
    ++ (if s.frontRuns && s.enabledQueues.any fun q => (s.readyItem q).2.isSome then [.packetDispatch] else [])
    ++ match s.fw.armed with
      | some t => if t ≤ s.ns then [.heartbeatTimeout] else []
      | none => []

/-! ## Links, fabric and sessions -/

/-- Flits that wait for an acknowledgement: on a link 2 µs, on the fabric 20 µs; links whose retraining has taken its
30 µs, and a test of a down one each 1 ms (spec/18 R342, R344); a peer acknowledges what a live port has carried to
it, in sequence (spec/17 R323). -/
def State.flitEvents (s : State) (before : Nat) : List Event :=
  ((List.range 4).flatMap fun k => [true, false].filterMap fun d =>
    if (s.link k).waited d s.ns then some (.linkResendTimeout k d) else none)
  ++ (List.range 4).flatMap (fun k =>
    let l := s.link k
    if l.state = 2 && l.sinceNs + 30000 ≤ s.ns then [.linkRetrainEnd k l.passing]
    else if l.state = 3 && 0 < (s.ns - l.sinceNs) / 1000000 && (s.ns - l.sinceNs) / 1000000 != (before - l.sinceNs) / 1000000 then
      [.linkDownRetest k l.passing]
    else [])
  ++ s.peerLinks.flatMap fun l => match l.2.unacked with
    | u :: t =>
      if !u.lost && (s.port u.port).state = 3 && u.ns < s.ns then [.fabricFlitAck l.1 u.seq]
      else ((u :: t).filter fun u => u.ns + 20000 ≤ s.ns).map fun u => .fabricResendTimeout l.1 u.seq
    | [] => []

/-- Has a key agreement taken over 1 ms (spec/17 R335)? -/
def State.keysLate (s : State) (who : KeyFor) : Bool := match (s.keysOf who).agree with
  | some (_, t) => t + 1000000 ≤ s.ns
  | none => false

/-- Circuits and ports whose limits have passed (spec/17 R313, R328-R330, R335). -/
def State.circuitEvents (s : State) : List Event :=
  s.tickets.flatMap (fun t =>
    (if (t.2.firstRel != 0 || t.2.state = 2) && t.2.sentNs + 10000000 ≤ s.ns then [.connectRetry t.1] else [])
    ++ (if t.2.firstRel != 0 && t.2.firstRel + 10000000 ≤ s.ns && !s.silent.getLsbD (planeOf t.2.port)
      then [.releaseTimeout t.1] else []))
  ++ s.ports.flatMap (fun p =>
    (if p.2.state = 1 && p.2.sinceNs + 2000000 ≤ s.ns then
      [.portLockTimeout p.1 (BitVec.ofNat 4 ((List.range 4).foldl (fun n i => n + if (p.2.lane i).locked then 0 else 2 ^ i) 0))]
    else [])
    ++ (if s.keysLate (.port p.1) then [.keyAgreementTimeout (.port p.1)] else [])
    ++ (if s.keysDue (.port p.1) then [.rekey (.port p.1)] else []))
  ++ ((List.range 16).filter fun p => !s.silent.getLsbD p && vget s.hellos p 0 + 300000000 ≤ s.ns).map .switchSilent

/-- Whey sessions whose limits have passed (spec/17 R335, R339). -/
def State.sessionEvents (s : State) : List Event :=
  s.sessions.flatMap fun x =>
    (if s.keysLate (.session x.1) then [.keyAgreementTimeout (.session x.1)] else []) ++
    if x.2.state != 2 then []
    else
      (if s.keysDue (.session x.1) then [.rekey (.session x.1)] else [])
      ++ (if x.1 != 0 && !x.2.unacked.isEmpty && x.2.lastAck + x.2.tmoMs * 1000000 ≤ s.ns then [.wheySessionTimeout x.1] else [])
      ++ (x.2.unacked.filter fun u => u.2.2.1 + x.2.interval u.2.2.2 ≤ s.ns).map fun u => .wheyRetransmitTimeout x.1 u.1

/-! ## The cycle -/

/-- What comes at set times of the package timer: wait-swap checks each µs, HELLOs each 100 ms. -/
def State.periodic (s : State) (before : Nat) : List Event :=
  (if s.ns / 1000 != before / 1000 then s.busyParts.map .waitSwapCheck else [])
    ++ (if s.ns / 100000000 != before / 100000000 then [.helloSend] else [])

/-- Everything that falls due in a cycle, results first and the choice of what issues last. -/
def State.dueEvents (s : State) (before : Nat) : List Event :=
  s.opEvents ++ s.leaseEvents ++ s.periodic before ++ s.teamEvents ++ s.placeEvents ++ s.rennetEvents
    ++ s.copyEvents ++ s.macroEvents ++ s.contextEvents ++ s.migrationEvents ++ s.frontEvents ++ s.flitEvents before
    ++ s.circuitEvents ++ s.sessionEvents ++ s.selectEvents

/-- One core cycle. -/
def State.coreTick (s : State) : State :=
  let t := s.passTime.showDue.serveAsks.serveEnds.runLinks.watchOut
  { t with agenda := t.agenda ++ t.dueEvents s.ns }

/-- One base-die cycle. -/
def State.baseTick (s : State) : State :=
  let t := { s with baseCycle := s.baseCycle + 1#64, baseDue := s.baseDue - 1 }
  { t with agenda := t.agenda ++ t.landings ++ t.baseSelects }

/-- The next cycle: the base-die cycles that the last core cycle ended, one by one, else a core cycle. -/
def State.tick (s : State) : State := if s.baseDue = 0 then s.coreTick else s.baseTick

end Sys2Proof.Machine
end

