-- ==== Sys2Proof/Machine/Dispatch.lean ====
section
/-! DEFINITION. `exec`: one arm for each instruction of a pipe and each step of the package's other agents. -/

namespace Sys2Proof.Machine

open Sys2Proof

/-- What an instruction or a step of another agent does to the package. -/
def exec (i : Instr) (s : State) : Host.Outcome State Fault Refusal :=
  match i with
  | .nop f => Sys2Proof.Machine.execNop f s
  | .iadd f => Sys2Proof.Machine.execIadd f s
  | .isub f => Sys2Proof.Machine.execIsub f s
  | .imul f => Sys2Proof.Machine.execImul f s
  | .imulhi f => Sys2Proof.Machine.execImulhi f s
  | .imad f => Sys2Proof.Machine.execImad f s
  | .imin f => Sys2Proof.Machine.execImin f s
  | .imax f => Sys2Proof.Machine.execImax f s
  | .iabs f => Sys2Proof.Machine.execIabs f s
  | .idiv f => Sys2Proof.Machine.execIdiv f s
  | .irem f => Sys2Proof.Machine.execIrem f s
  | .isad f => Sys2Proof.Machine.execIsad f s
  | .idp4 f => Sys2Proof.Machine.execIdp4 f s
  | .isum f => Sys2Proof.Machine.execIsum f s
  | .imadw f => Sys2Proof.Machine.execImadw f s
  | .lea f => Sys2Proof.Machine.execLea f s
  | .leas f => Sys2Proof.Machine.execLeas f s
  | .and f => Sys2Proof.Machine.execAnd f s
  | .or f => Sys2Proof.Machine.execOr f s
  | .xor f => Sys2Proof.Machine.execXor f s
  | .lut3 f => Sys2Proof.Machine.execLut3 f s
  | .shl f => Sys2Proof.Machine.execShl f s
  | .shr f => Sys2Proof.Machine.execShr f s
  | .sar f => Sys2Proof.Machine.execSar f s
  | .rot f => Sys2Proof.Machine.execRot f s
  | .catsh f => Sys2Proof.Machine.execCatsh f s
  | .bxtr f => Sys2Proof.Machine.execBxtr f s
  | .bins f => Sys2Proof.Machine.execBins f s
  | .ones f => Sys2Proof.Machine.execOnes f s
  | .clz f => Sys2Proof.Machine.execClz f s
  | .bitrev f => Sys2Proof.Machine.execBitrev f s
  | .bysel f => Sys2Proof.Machine.execBysel f s
  | .icmp f => Sys2Proof.Machine.execIcmp f s
  | .fcmp f => Sys2Proof.Machine.execFcmp f s
  | .dcmp f => Sys2Proof.Machine.execDcmp f s
  | .d8cmp f => Sys2Proof.Machine.execD8cmp f s
  | .plog f => Sys2Proof.Machine.execPlog f s
  | .ptox f => Sys2Proof.Machine.execPtox f s
  | .xtop f => Sys2Proof.Machine.execXtop f s
  | .fclass f => Sys2Proof.Machine.execFclass f s
  | .mov f => Sys2Proof.Machine.execMov f s
  | .sel f => Sys2Proof.Machine.execSel f s
  | .movq f => Sys2Proof.Machine.execMovq f s
  | .fadd f => Sys2Proof.Machine.execFadd f s
  | .fmul f => Sys2Proof.Machine.execFmul f s
  | .ffma f => Sys2Proof.Machine.execFfma f s
  | .fmin f => Sys2Proof.Machine.execFmin f s
  | .fmax f => Sys2Proof.Machine.execFmax f s
  | .fint f => Sys2Proof.Machine.execFint f s
  | .fabs f => Sys2Proof.Machine.execFabs f s
  | .dadd f => Sys2Proof.Machine.execDadd f s
  | .dmul f => Sys2Proof.Machine.execDmul f s
  | .dfma f => Sys2Proof.Machine.execDfma f s
  | .dmin f => Sys2Proof.Machine.execDmin f s
  | .dmax f => Sys2Proof.Machine.execDmax f s
  | .dint f => Sys2Proof.Machine.execDint f s
  | .dabs f => Sys2Proof.Machine.execDabs f s
  | .frcp f => Sys2Proof.Machine.execFrcp f s
  | .frsq f => Sys2Proof.Machine.execFrsq f s
  | .fsqrt f => Sys2Proof.Machine.execFsqrt f s
  | .fex2 f => Sys2Proof.Machine.execFex2 f s
  | .flg2 f => Sys2Proof.Machine.execFlg2 f s
  | .fex10 f => Sys2Proof.Machine.execFex10 f s
  | .flg10 f => Sys2Proof.Machine.execFlg10 f s
  | .fsin f => Sys2Proof.Machine.execFsin f s
  | .fcos f => Sys2Proof.Machine.execFcos f s
  | .fdiv f => Sys2Proof.Machine.execFdiv f s
  | .drcp f => Sys2Proof.Machine.execDrcp f s
  | .dsqrt f => Sys2Proof.Machine.execDsqrt f s
  | .ddiv f => Sys2Proof.Machine.execDdiv f s
  | .cvti2f f => Sys2Proof.Machine.execCvti2f f s
  | .cvtf2i f => Sys2Proof.Machine.execCvtf2i f s
  | .cvtf2f f => Sys2Proof.Machine.execCvtf2f f s
  | .cvti2i f => Sys2Proof.Machine.execCvti2i f s
  | .d8pack f => Sys2Proof.Machine.execD8pack f s
  | .d8unpk f => Sys2Proof.Machine.execD8unpk f s
  | .d8scale f => Sys2Proof.Machine.execD8scale f s
  | .d8min f => Sys2Proof.Machine.execD8min f s
  | .d8max f => Sys2Proof.Machine.execD8max f s
  | .pkadd f => Sys2Proof.Machine.execPkadd f s
  | .pkmul f => Sys2Proof.Machine.execPkmul f s
  | .pkfma f => Sys2Proof.Machine.execPkfma f s
  | .pkmin f => Sys2Proof.Machine.execPkmin f s
  | .pkmax f => Sys2Proof.Machine.execPkmax f s
  | .perm f => Sys2Proof.Machine.execPerm f s
  | .permup f => Sys2Proof.Machine.execPermup f s
  | .permdn f => Sys2Proof.Machine.execPermdn f s
  | .permx f => Sys2Proof.Machine.execPermx f s
  | .vote f => Sys2Proof.Machine.execVote f s
  | .ballot f => Sys2Proof.Machine.execBallot f s
  | .matchEq f => Sys2Proof.Machine.execMatchEq f s
  | .gredi f => Sys2Proof.Machine.execGredi f s
  | .gredf f => Sys2Proof.Machine.execGredf f s
  | .gscan f => Sys2Proof.Machine.execGscan f s
  | .ldx w f => Sys2Proof.Machine.execLdx w f s
  | .stx w f => Sys2Proof.Machine.execStx w f s
  | .ld w f => Sys2Proof.Machine.execLd w f s
  | .lda w f => Sys2Proof.Machine.execLda w f s
  | .pref f => Sys2Proof.Machine.execPref f s
  | .st w m f => Sys2Proof.Machine.execSt w m f s
  | .str w m f => Sys2Proof.Machine.execStr w m f s
  | .atom op m f => Sys2Proof.Machine.execAtom op m f s
  | .red op m f => Sys2Proof.Machine.execRed op m f s
  | .ratom op f => Sys2Proof.Machine.execRatom op f s
  | .rld w f => Sys2Proof.Machine.execRld w f s
  | .rst w f => Sys2Proof.Machine.execRst w f s
  | .ffence f => Sys2Proof.Machine.execFfence f s
  | .fence f => Sys2Proof.Machine.execFence f s
  | .fencex f => Sys2Proof.Machine.execFencex f s
  | .drain f => Sys2Proof.Machine.execDrain f s
  | .xbegin f => Sys2Proof.Machine.execXbegin f s
  | .xend f => Sys2Proof.Machine.execXend f s
  | .xabort f => Sys2Proof.Machine.execXabort f s
  | .bar f => Sys2Proof.Machine.execBar f s
  | .bara f => Sys2Proof.Machine.execBara f s
  | .barc f => Sys2Proof.Machine.execBarc f s
  | .bard f => Sys2Proof.Machine.execBard f s
  | .jset f => Sys2Proof.Machine.execJset f s
  | .join f => Sys2Proof.Machine.execJoin f s
  | .jdrop f => Sys2Proof.Machine.execJdrop f s
  | .wwait f => Sys2Proof.Machine.execWwait f s
  | .cbpost f => Sys2Proof.Machine.execCbpost f s
  | .cbwait f => Sys2Proof.Machine.execCbwait f s
  | .tfeed f => Sys2Proof.Machine.execTfeed f s
  | .tfeedStab f => Sys2Proof.Machine.execTfeedStab f s
  | .tdrain f => Sys2Proof.Machine.execTdrain f s
  | .emit f => Sys2Proof.Machine.execEmit f s
  | .trap f => Sys2Proof.Machine.execTrap f s
  | .bkpt f => Sys2Proof.Machine.execBkpt f s
  | .yield f => Sys2Proof.Machine.execYield f s
  | .unop f => Sys2Proof.Machine.execUnop f s
  | .uiadd f => Sys2Proof.Machine.execUiadd f s
  | .uisub f => Sys2Proof.Machine.execUisub f s
  | .uimul f => Sys2Proof.Machine.execUimul f s
  | .uimulhi f => Sys2Proof.Machine.execUimulhi f s
  | .uimad f => Sys2Proof.Machine.execUimad f s
  | .uimin f => Sys2Proof.Machine.execUimin f s
  | .uimax f => Sys2Proof.Machine.execUimax f s
  | .uiabs f => Sys2Proof.Machine.execUiabs f s
  | .uidiv f => Sys2Proof.Machine.execUidiv f s
  | .uirem f => Sys2Proof.Machine.execUirem f s
  | .uisad f => Sys2Proof.Machine.execUisad f s
  | .uidp4 f => Sys2Proof.Machine.execUidp4 f s
  | .uisum f => Sys2Proof.Machine.execUisum f s
  | .uimadw f => Sys2Proof.Machine.execUimadw f s
  | .ulea f => Sys2Proof.Machine.execUlea f s
  | .uleas f => Sys2Proof.Machine.execUleas f s
  | .uand f => Sys2Proof.Machine.execUand f s
  | .uor f => Sys2Proof.Machine.execUor f s
  | .uxor f => Sys2Proof.Machine.execUxor f s
  | .ulut3 f => Sys2Proof.Machine.execUlut3 f s
  | .ushl f => Sys2Proof.Machine.execUshl f s
  | .ushr f => Sys2Proof.Machine.execUshr f s
  | .usar f => Sys2Proof.Machine.execUsar f s
  | .urot f => Sys2Proof.Machine.execUrot f s
  | .ucatsh f => Sys2Proof.Machine.execUcatsh f s
  | .ubxtr f => Sys2Proof.Machine.execUbxtr f s
  | .ubins f => Sys2Proof.Machine.execUbins f s
  | .uones f => Sys2Proof.Machine.execUones f s
  | .uclz f => Sys2Proof.Machine.execUclz f s
  | .ubitrev f => Sys2Proof.Machine.execUbitrev f s
  | .ubysel f => Sys2Proof.Machine.execUbysel f s
  | .uicmp f => Sys2Proof.Machine.execUicmp f s
  | .ufcmp f => Sys2Proof.Machine.execUfcmp f s
  | .uplog f => Sys2Proof.Machine.execUplog f s
  | .uptox f => Sys2Proof.Machine.execUptox f s
  | .uxtop f => Sys2Proof.Machine.execUxtop f s
  | .umov f => Sys2Proof.Machine.execUmov f s
  | .usel f => Sys2Proof.Machine.execUsel f s
  | .ureadl f => Sys2Proof.Machine.execUreadl f s
  | .ufadd f => Sys2Proof.Machine.execUfadd f s
  | .ufmul f => Sys2Proof.Machine.execUfmul f s
  | .uffma f => Sys2Proof.Machine.execUffma f s
  | .ufmin f => Sys2Proof.Machine.execUfmin f s
  | .ufmax f => Sys2Proof.Machine.execUfmax f s
  | .ucvti2f f => Sys2Proof.Machine.execUcvti2f f s
  | .ucvtf2i f => Sys2Proof.Machine.execUcvtf2i f s
  | .uld w f => Sys2Proof.Machine.execUld w f s
  | .ulda w f => Sys2Proof.Machine.execUlda w f s
  | .ust w m f => Sys2Proof.Machine.execUst w m f s
  | .ustr w m f => Sys2Proof.Machine.execUstr w m f s
  | .uatom op m f => Sys2Proof.Machine.execUatom op m f s
  | .ured op m f => Sys2Proof.Machine.execUred op m f s
  | .urld w f => Sys2Proof.Machine.execUrld w f s
  | .urst w f => Sys2Proof.Machine.execUrst w f s
  | .uffence f => Sys2Proof.Machine.execUffence f s
  | .ufence f => Sys2Proof.Machine.execUfence f s
  | .ufencex f => Sys2Proof.Machine.execUfencex f s
  | .udrain f => Sys2Proof.Machine.execUdrain f s
  | .uwwait f => Sys2Proof.Machine.execUwwait f s
  | .ucbpost f => Sys2Proof.Machine.execUcbpost f s
  | .ucbwait f => Sys2Proof.Machine.execUcbwait f s
  | .utrap f => Sys2Proof.Machine.execUtrap f s
  | .ubkpt f => Sys2Proof.Machine.execUbkpt f s
  | .uyield f => Sys2Proof.Machine.execUyield f s
  | .tcopy f => Sys2Proof.Machine.execTcopy f s
  | .tclose f => Sys2Proof.Machine.execTclose f s
  | .twait f => Sys2Proof.Machine.execTwait f s
  | .lease f => Sys2Proof.Machine.execLease f s
  | .leasem f => Sys2Proof.Machine.execLeasem f s
  | .lrel f => Sys2Proof.Machine.execLrel f s
  | .enq f => Sys2Proof.Machine.execEnq f s
  | .eret f => Sys2Proof.Machine.execEret f s
  | .crd f => Sys2Proof.Machine.execCrd f s
  | .cwr f => Sys2Proof.Machine.execCwr f s
  | .halt f => Sys2Proof.Machine.execHalt f s
  | .mma f => Sys2Proof.Machine.execMma f s
  | .mmag f => Sys2Proof.Machine.execMmag f s
  | .mzero f => Sys2Proof.Machine.execMzero f s
  | .mmovDrain f => Sys2Proof.Machine.execMmovDrain f s
  | .mmovCopy f => Sys2Proof.Machine.execMmovCopy f s
  | .mld f => Sys2Proof.Machine.execMld f s
  | .mst f => Sys2Proof.Machine.execMst f s
  | .creq f => Sys2Proof.Machine.execCreq f s
  | .cawait f => Sys2Proof.Machine.execCawait f s
  | .cuse f => Sys2Proof.Machine.execCuse f s
  | .crel f => Sys2Proof.Machine.execCrel f s
  | .pldrain f => Sys2Proof.Machine.execPldrain f s
  | .pljoin f => Sys2Proof.Machine.execPljoin f s
  | .wsend f => Sys2Proof.Machine.execWsend f s
  | .wrecv f => Sys2Proof.Machine.execWrecv f s
  | .wpoll f => Sys2Proof.Machine.execWpoll f s
  | .tmrRead f => Sys2Proof.Machine.execTmrRead f s
  | .tmrSet f => Sys2Proof.Machine.execTmrSet f s
  | .tmrWait f => Sys2Proof.Machine.execTmrWait f s
  | .tmrCancel f => Sys2Proof.Machine.execTmrCancel f s
  | .evtake f => Sys2Proof.Machine.execEvtake f s
  | .evpost f => Sys2Proof.Machine.execEvpost f s
  | .qlock f => Sys2Proof.Machine.execQlock f s
  | .qfree f => Sys2Proof.Machine.execQfree f s
  | .issueSelect part => Sys2Proof.Machine.execIssueSelect part s
  | .fixedResultWriteback op => Sys2Proof.Machine.execFixedResultWriteback op s
  | .variableOpComplete op => Sys2Proof.Machine.execVariableOpComplete op s
  | .boostDecay group => Sys2Proof.Machine.execBoostDecay group s
  | .activationEvaluate core => Sys2Proof.Machine.execActivationEvaluate core s
  | .leaseOverrunDeactivate core => Sys2Proof.Machine.execLeaseOverrunDeactivate core s
  | .protectionExpiry group => Sys2Proof.Machine.execProtectionExpiry group s
  | .dormantEntry group => Sys2Proof.Machine.execDormantEntry group s
  | .wwaitReread op => Sys2Proof.Machine.execWwaitReread op s
  | .waitSwapCheck part => Sys2Proof.Machine.execWaitSwapCheck part s
  | .waitSwapSaveEnd team => Sys2Proof.Machine.execWaitSwapSaveEnd team s
  | .teamReturn team => Sys2Proof.Machine.execTeamReturn team s
  | .teamPlace cluster => Sys2Proof.Machine.execTeamPlace cluster s
  | .distributorSteal cluster => Sys2Proof.Machine.execDistributorSteal cluster s
  | .teamEnd team code => Sys2Proof.Machine.execTeamEnd team code s
  | .groupSlotRelease group => Sys2Proof.Machine.execGroupSlotRelease group s
  | .rennetRecordAccept die => Sys2Proof.Machine.execRennetRecordAccept die s
  | .rennetBatchTimeout die grid node => Sys2Proof.Machine.execRennetBatchTimeout die grid node s
  | .rennetStallEnd grid => Sys2Proof.Machine.execRennetStallEnd grid s
  | .copyPieceDeliver copy => Sys2Proof.Machine.execCopyPieceDeliver copy s
  | .clbCopyTest copy => Sys2Proof.Machine.execClbCopyTest copy s
  | .macroStep cluster => Sys2Proof.Machine.execMacroStep cluster s
  | .macroComplete cluster => Sys2Proof.Machine.execMacroComplete cluster s
  | .scaleCacheMissRead cluster tid block => Sys2Proof.Machine.execScaleCacheMissRead cluster tid block s
  | .pageWalk who => Sys2Proof.Machine.execPageWalk who s
  | .faultResolution ctx => Sys2Proof.Machine.execFaultResolution ctx s
  | .ackLostTimeout op state => Sys2Proof.Machine.execAckLostTimeout op state s
  | .homeAtomicApply op => Sys2Proof.Machine.execHomeAtomicApply op s
  | .redEntryDrain pa => Sys2Proof.Machine.execRedEntryDrain pa s
  | .xendAckTimeout op => Sys2Proof.Machine.execXendAckTimeout op s
  | .remoteRequestAtPeer op accept => Sys2Proof.Machine.execRemoteRequestAtPeer op accept s
  | .fabricTimeout who => Sys2Proof.Machine.execFabricTimeout who s
  | .residentChoice part => Sys2Proof.Machine.execResidentChoice part s
  | .crockExchange part => Sys2Proof.Machine.execCrockExchange part s
  | .imageSpill part => Sys2Proof.Machine.execImageSpill part s
  | .imageFill part ctx => Sys2Proof.Machine.execImageFill part ctx s
  | .contextDue ctx => Sys2Proof.Machine.execContextDue ctx s
  | .quantumExpiry part => Sys2Proof.Machine.execQuantumExpiry part s
  | .crockUncorrectable hit => Sys2Proof.Machine.execCrockUncorrectable hit s
  | .pageMigration ctx va dst => Sys2Proof.Machine.execPageMigration ctx va dst s
  | .migrationAbandon ctx va => Sys2Proof.Machine.execMigrationAbandon ctx va s
  | .mappingChange ctx va level entry => Sys2Proof.Machine.execMappingChange ctx va level entry s
  | .hostBar2Access ctx offset acc => Sys2Proof.Machine.execHostBar2Access ctx offset acc s
  | .hostWindowWrite offset bytes => Sys2Proof.Machine.execHostWindowWrite offset bytes s
  | .hostSnoopTimeout => Sys2Proof.Machine.execHostSnoopTimeout s
  | .cxlUncorrectableError => Sys2Proof.Machine.execCxlUncorrectableError s
  | .doorbell queue wptr => Sys2Proof.Machine.execDoorbell queue wptr s
  | .qctlWrite queue value => Sys2Proof.Machine.execQctlWrite queue value s
  | .registerWrite offset size value => Sys2Proof.Machine.execRegisterWrite offset size value s
  | .icwWrite ctx value => Sys2Proof.Machine.execIcwWrite ctx value s
  | .packetDispatch => Sys2Proof.Machine.execPacketDispatch s
  | .nopPacket queue => Sys2Proof.Machine.execNopPacket queue s
  | .launchPacket queue => Sys2Proof.Machine.execLaunchPacket queue s
  | .graphPacket queue => Sys2Proof.Machine.execGraphPacket queue s
  | .scriptPacket queue => Sys2Proof.Machine.execScriptPacket queue s
  | .waitPacket queue => Sys2Proof.Machine.execWaitPacket queue s
  | .flushPacket queue => Sys2Proof.Machine.execFlushPacket queue s
  | .reservedPacket queue => Sys2Proof.Machine.execReservedPacket queue s
  | .phaseCleaning queue => Sys2Proof.Machine.execPhaseCleaning queue s
  | .scriptHeldStart => Sys2Proof.Machine.execScriptHeldStart s
  | .cmcTrap core => Sys2Proof.Machine.execCmcTrap core s
  | .linkDataFlit link dir flit => Sys2Proof.Machine.execLinkDataFlit link dir flit s
  | .linkIdleFlit link dir flit => Sys2Proof.Machine.execLinkIdleFlit link dir flit s
  | .linkNak link dir flit => Sys2Proof.Machine.execLinkNak link dir flit s
  | .linkStateFlit link dir flit => Sys2Proof.Machine.execLinkStateFlit link dir flit s
  | .linkResendTimeout link dir => Sys2Proof.Machine.execLinkResendTimeout link dir s
  | .linkRetrain link => Sys2Proof.Machine.execLinkRetrain link s
  | .linkRetrainEnd link good => Sys2Proof.Machine.execLinkRetrainEnd link good s
  | .linkDownRetest link good => Sys2Proof.Machine.execLinkDownRetest link good s
  | .lkcrcRead link => Sys2Proof.Machine.execLkcrcRead link s
  | .fabricFlitReceive port seq auth payload => Sys2Proof.Machine.execFabricFlitReceive port seq auth payload s
  | .fabricFlitAck peer seq => Sys2Proof.Machine.execFabricFlitAck peer seq s
  | .fabricResendTimeout peer seq => Sys2Proof.Machine.execFabricResendTimeout peer seq s
  | .stripeRecompute peer => Sys2Proof.Machine.execStripeRecompute peer s
  | .connected msg => Sys2Proof.Machine.execConnected msg s
  | .refused msg => Sys2Proof.Machine.execRefused msg s
  | .released msg => Sys2Proof.Machine.execReleased msg s
  | .broken msg => Sys2Proof.Machine.execBroken msg s
  | .hello msg => Sys2Proof.Machine.execHello msg s
  | .helloSend => Sys2Proof.Machine.execHelloSend s
  | .switchSilent plane => Sys2Proof.Machine.execSwitchSilent plane s
  | .connectRetry slot => Sys2Proof.Machine.execConnectRetry slot s
  | .releaseTimeout slot => Sys2Proof.Machine.execReleaseTimeout slot s
  | .portSettled port => Sys2Proof.Machine.execPortSettled port s
  | .portTrained port usable => Sys2Proof.Machine.execPortTrained port usable s
  | .portLockTimeout port unlocked => Sys2Proof.Machine.execPortLockTimeout port unlocked s
  | .keyAgreementComplete keys => Sys2Proof.Machine.execKeyAgreementComplete keys s
  | .keyAgreementTimeout who => Sys2Proof.Machine.execKeyAgreementTimeout who s
  | .rekey who => Sys2Proof.Machine.execRekey who s
  | .peerLost port => Sys2Proof.Machine.execPeerLost port s
  | .authFailureDark port => Sys2Proof.Machine.execAuthFailureDark port s
  | .laserModuleRemove module => Sys2Proof.Machine.execLaserModuleRemove module s
  | .laserModuleInsert module channels => Sys2Proof.Machine.execLaserModuleInsert module channels s
  | .moduleMonitorPoll module bias moduleTemp => Sys2Proof.Machine.execModuleMonitorPoll module bias moduleTemp s
  | .laneRateStepDown port lane temp => Sys2Proof.Machine.execLaneRateStepDown port lane temp s
  | .laneRateStepUp port lane temp => Sys2Proof.Machine.execLaneRateStepUp port lane temp s
  | .laneRetire port lane => Sys2Proof.Machine.execLaneRetire port lane s
  | .lstatRetireWrite port lane value => Sys2Proof.Machine.execLstatRetireWrite port lane value s
  | .pcapWrite port value => Sys2Proof.Machine.execPcapWrite port value s
  | .tapSample port lane cpl spl mod => Sys2Proof.Machine.execTapSample port lane cpl spl mod s
  | .wheyFrameReceive frame => Sys2Proof.Machine.execWheyFrameReceive frame s
  | .wheyRetransmitTimeout session seq => Sys2Proof.Machine.execWheyRetransmitTimeout session seq s
  | .wheySessionTimeout session => Sys2Proof.Machine.execWheySessionTimeout session s
  | .wheySessionOpen session record => Sys2Proof.Machine.execWheySessionOpen session record s
  | .cawaitTimeout op => Sys2Proof.Machine.execCawaitTimeout op s
  | .timerExpiry ctx timer => Sys2Proof.Machine.execTimerExpiry ctx timer s
  | .patrolScrub line result => Sys2Proof.Machine.execPatrolScrub line result s
  | .uncorrectableError hit => Sys2Proof.Machine.execUncorrectableError hit s
  | .rasceRead base => Sys2Proof.Machine.execRasceRead base s
  | .rasueRead base => Sys2Proof.Machine.execRasueRead base s
  | .powerSample pwr tcp => Sys2Proof.Machine.execPowerSample pwr tcp s
  | .thermalHalt => Sys2Proof.Machine.execThermalHalt s
  | .thermalHaltEnd => Sys2Proof.Machine.execThermalHaltEnd s
  | .pwrctlWrite value => Sys2Proof.Machine.execPwrctlWrite value s
  | .packageStart pass cream => Sys2Proof.Machine.execPackageStart pass cream s
  | .startStepTimeout reason pass => Sys2Proof.Machine.execStartStepTimeout reason pass s
  | .heartbeatTimeout => Sys2Proof.Machine.execHeartbeatTimeout s
  | .hbeatWrite value => Sys2Proof.Machine.execHbeatWrite value s
  | .rollbackClear value => Sys2Proof.Machine.execRollbackClear value s
  | .contextCreate ctx record res => Sys2Proof.Machine.execContextCreate ctx record res s
  | .contextDestroy ctx => Sys2Proof.Machine.execContextDestroy ctx s
  | .fabricBind ctx peer peerCtx => Sys2Proof.Machine.execFabricBind ctx peer peerCtx s
  | .rosterSet pod keys => Sys2Proof.Machine.execRosterSet pod keys s
  | .firmwareStage image => Sys2Proof.Machine.execFirmwareStage image s
  | .firmwareUpdate => Sys2Proof.Machine.execFirmwareUpdate s
  | .recordClear => Sys2Proof.Machine.execRecordClear s
  | .rasRead base => Sys2Proof.Machine.execRasRead base s
  | .powerSet value => Sys2Proof.Machine.execPowerSet value s
  | .hostLinkReset => Sys2Proof.Machine.execHostLinkReset s
  | .debugAttach requester ctx => Sys2Proof.Machine.execDebugAttach requester ctx s
  | .debugDetach requester ctx => Sys2Proof.Machine.execDebugDetach requester ctx s
  | .debugHalt requester die => Sys2Proof.Machine.execDebugHalt requester die s
  | .debugResume requester target => Sys2Proof.Machine.execDebugResume requester target s
  | .debugRead requester group obj => Sys2Proof.Machine.execDebugRead requester group obj s
  | .debugWrite requester group obj value => Sys2Proof.Machine.execDebugWrite requester group obj value s
  | .spdmSessionEnd requester => Sys2Proof.Machine.execSpdmSessionEnd requester s
  | .getVersion msg => Sys2Proof.Machine.execGetVersion msg s
  | .getCapabilities msg => Sys2Proof.Machine.execGetCapabilities msg s
  | .negotiateAlgorithms msg => Sys2Proof.Machine.execNegotiateAlgorithms msg s
  | .getDigests msg => Sys2Proof.Machine.execGetDigests msg s
  | .getCertificate msg => Sys2Proof.Machine.execGetCertificate msg s
  | .challenge msg => Sys2Proof.Machine.execChallenge msg s
  | .getMeasurements msg => Sys2Proof.Machine.execGetMeasurements msg s
  | .keyExchange msg => Sys2Proof.Machine.execKeyExchange msg s
  | .finish msg => Sys2Proof.Machine.execFinish msg s
  | .hostWindowRead offset => Sys2Proof.Machine.execHostWindowRead offset s
  | .laserChannelFailure port lane => Sys2Proof.Machine.execLaserChannelFailure port lane s
  | .laneRetrainEnd port lane => Sys2Proof.Machine.execLaneRetrainEnd port lane s

end Sys2Proof.Machine
end

