-- ==== Sys2Proof/Machine/Step.lean ====
section
/-! DEFINITION. One step of the package: the next path that an issue stage has chosen, else the next event, else the
clock advances to what falls due (log 1). -/

namespace Sys2Proof.Machine

/-- One step. -/
noncomputable def step (s : State) : Host.Outcome State Fault Refusal :=
  match s.chosen with
  | c :: rest =>
    match State.chosenPath { s with chosen := rest, cur := c } with
    | .instr i => exec i { s with chosen := rest, cur := c }
    | .done t => .next t
  | [] =>
    match s.nextEvent with
    | some (e, t) => exec e.toInstr t
    | none => .next s.tick

/-- The state with a word, numbered as spec/opcode_table.json numbers it, where the next step fetches. -/
def State.withFetchWord (s : State) (nbits w : Nat) : State := s.placeWord (BitVec.ofNat 128 (w % 2 ^ nbits))

end Sys2Proof.Machine
end

