-- ==== Sys2Proof/Safety.lean ====
section
/-! DEFINITION. What a safe run is: no step stops. -/

namespace Sys2Proof.Machine

/-- A step that leaves a next state. -/
def goesOn (s : State) : Prop := ∃ t, step s = .next t

/-- `k` steps go on from a state. -/
def runs : Nat → State → Prop
  | 0, _ => True
  | k + 1, s => ∃ t, step s = .next t ∧ runs k t

end Sys2Proof.Machine
end

