-- ==== Sys2Proof/Certificates/Slice0/Obligations.lean ====
section
/-! DEFINITION. The statements about the model, one `Obligations.<Name>` each. The namespace Sys2Proof.Stated holds what
they share: when a word issues, and the arithmetic of the rules written out on integers and bits. -/

namespace Sys2Proof.Stated

open Machine

/-! ## A word that issues -/

/-- The word of `i` stands at the path that executes, and issues with some active lane: `c` is that word and `s'` is `s`
after the return-stack accesses of its selector (`s` itself unless the selector is CALL or RET). -/
def Issues (i : Instr) (s s' : State) (c : Ctx) : Prop :=
  i.info = some c.info ∧ c = s.ctx c.info ∧ (mapGet? s.groups s.cur.group).isSome = true ∧ gate s c = .pass
    ∧ linkSteps c (linkAccesses s c) s = .ok s' ∧ c.active ≠ 0#32

/-- An effect that is nothing but its results and the operation that carries them. -/
def Plain (e : Effect) : Prop :=
  e.holds = false ∧ e.atIssue = false ∧ e.undo = [] ∧ e.place = none ∧ ∀ t n, e.now t n = t

/-- Operand A, B or C of a word in a lane. -/
def opA (s : State) (c : Ctx) (l : Nat) : Val := srcVal s c 0 l
/-- Operand B. -/
def opB (s : State) (c : Ctx) (l : Nat) : Val := srcVal s c 1 l
/-- Operand C. -/
def opC (s : State) (c : Ctx) (l : Nat) : Val := srcVal s c 2 l

/-- A result for the word's destination, of its width, in its active lanes, with the given value in each of them. -/
def ResultIs (c : Ctx) (r : RegResult) (want : Nat → Val) : Prop :=
  r.dest = c.info.dest ∧ r.width = c.info.dBits ∧ r.lanes = c.active ∧ r.uniform = c.info.uniform
    ∧ r.latch = c.info.writesLatch ∧ ∀ l, l < 32 → c.active.getLsbD l = true → laneOf r.vals l = want l

/-- Whenever the word of `i` issues, `exec` answers the next state in which it is in flight as a fixed-latency operation
whose one result has, in every active lane, the value that `want` gives. -/
def Gives (i : Instr) (want : State → Ctx → Nat → Val) : Prop :=
  ∀ s s' c, Issues i s s' c → ∃ e r, exec i s = .next (s'.issue c e) ∧ e.kind = some .result ∧ e.acc = []
    ∧ Plain e ∧ e.res = [r] ∧ ResultIs c r (want s c)

/-- `Gives` for a function of the three operands in the lane itself. -/
def Computes (i : Instr) (want : Val → Val → Val → Val) : Prop :=
  Gives i fun s c l => want (opA s c l) (opB s c l) (opC s c l)

/-! ## Integers -/

/-- The low `w` bits of a value. -/
def low (w : Nat) (x : Val) : BitVec w := x.setWidth w

/-- An operand read as an integer: two's complement or unsigned. -/
def int (signed : Bool) (w : Nat) (x : Val) : Int := if signed then (low w x).toInt else (low w x).toNat

/-- An integer wrapped to `w` bits. -/
def wrap (w : Nat) (n : Int) : Val := (BitVec.ofInt w n).setWidth 128

/-- Layout IA's width and signedness: MOD[4:3] is 0 `.s32`, 1 `.b32`, 2 `.s64`, 3 `.b64` (spec/05 R101). -/
def iaW (f : Fields) : Nat := if f.modBit 4 then 64 else 32
/-- Signedness of layout IA's type. -/
def iaS (f : Fields) : Bool := !f.modBit 3

/-- An operand of layout IA. -/
def ia (f : Fields) (x : Val) : Int := int (iaS f) (iaW f) x

/-- The least and the largest integer of a type. -/
def least (signed : Bool) (w : Nat) : Int := if signed then -(2 ^ (w - 1)) else 0
/-- The largest integer of a type. -/
def most (signed : Bool) (w : Nat) : Int := if signed then 2 ^ (w - 1) - 1 else 2 ^ w - 1

/-- A result of layout IA: clamped to the type when MOD[5] is 1, else wrapped (spec/06 R117). -/
def iaResult (f : Fields) (v : Int) : Val :=
  wrap (iaW f) (if f.modBit 5 then max (least (iaS f) (iaW f)) (min (most (iaS f) (iaW f)) v) else v)

/-- Byte n of an operand, read in the type's signedness. -/
def byteInt (signed : Bool) (x : Val) (n : Nat) : Int := int signed 8 (x >>> (8 * n))

/-- IDIV (spec/06 R118). -/
def quotient (a b : Int) : Int := if b = 0 then -1 else a.tdiv b

/-- IREM (spec/06 R118): the sign of A; A when B is 0. -/
def remainder (a b : Int) : Int := a - a.tdiv b * b

/-! ## Logic and bit fields -/

/-- Layout LG's width, MOD[3] (spec/05 R101). -/
def lgW (f : Fields) : Nat := if f.modBit 3 then 64 else 32

/-- The value of `w` bits whose bit i is `bit i`. -/
def bitsOf (w : Nat) (bit : Nat → Bool) : Val :=
  BitVec.ofNat 128 ((List.range w).foldl (fun n i => if bit i then n + 2 ^ i else n) 0)

/-- The number of lanes or bits below `w` that meet a test. -/
def countOf (w : Nat) (bit : Nat → Bool) : Nat := ((List.range w).filter bit).length

/-- BXTR (spec/06 R121). -/
def extract (w : Nat) (signed : Bool) (a : Val) (pos len : Nat) : Val :=
  if len = 0 ∨ w ≤ pos then 0#128
  else
    let n := min len (w - pos)
    if signed then wrap w (int true n (a >>> pos)) else (low n (a >>> pos)).setWidth 128

/-- BINS (spec/06 R121). -/
def insert (w : Nat) (a b : Val) (pos len : Nat) : Val :=
  let n := if w ≤ pos then 0 else min len (w - pos)
  bitsOf w fun i => if pos ≤ i ∧ i < pos + n then b.getLsbD (i - pos) else a.getLsbD i

/-- Byte s of the eight bytes of C:A. -/
def byteOf8 (a c : Val) (s : Nat) : BitVec 8 := if s < 4 then low 8 (a >>> (8 * s)) else low 8 (c >>> (8 * (s - 4)))

/-- Byte n of BYSEL's result (spec/06 R122). -/
def pickByte (a b c : Val) (n : Nat) : BitVec 8 :=
  let y := byteOf8 a c ((b >>> (4 * n)).toNat % 8)
  if b.getLsbD (4 * n + 3) then (if y.getLsbD 7 then 0xFF#8 else 0x00#8) else y

/-! ## Compares -/

/-- A condition of ICMP on integers, by MOD[5:3] (spec/06 R123). -/
def intCond (n : Nat) (a b : Int) : Bool :=
  match n with
  | 0 => a == b
  | 1 => a != b
  | 2 => a < b
  | 3 => a ≤ b
  | 4 => b < a
  | 5 => b ≤ a
  | _ => false

/-- A condition of a float compare on numbers: `lt` and `eq` are IEEE 754 comparison, false with a NaN. -/
def numCond (n : Nat) (a b : FloatNum) : Bool :=
  match n with
  | 0 => a.eq b
  | 1 => !a.eq b
  | 2 => a.lt b
  | 3 => a.lt b || a.eq b
  | 4 => b.lt a
  | 5 => b.lt a || a.eq b
  | 6 => !a.isNaN && !b.isNaN
  | _ => a.isNaN || b.isNaN

/-- A truth value as a predicate's bit. -/
def bit (b : Bool) : Val := if b then 1#128 else 0#128

/-! ## Floats -/

/-- The number in the low bits of a value. -/
def num (t : FloatFmt) (x : Val) : FloatNum := t.decode (low t.width x).toNat

/-- A number rounded once into a format. -/
def rounded (t : FloatFmt) (m : RoundMode) (x : FloatNum) : Val := BitVec.ofNat 128 (t.round m x)

/-- The format in MOD[5:4]: 0 FP32, 1 FP16, 2 BF16 (spec/05 R101). -/
def fmt54 (f : Fields) : FloatFmt := match f.mod54 with
  | 0 => .f32
  | 1 => .f16
  | 2 => .bf16
  | _ => .f64

/-- The rounding mode in MOD[3:2] (spec/04 R83). -/
def mode (f : Fields) : RoundMode := match f.mod32 with
  | 0 => .rn
  | 1 => .rz
  | 2 => .rp
  | _ => .rm

/-- The operand of smaller value, or the larger: -0 below +0, one NaN gives way, two give the canonical one (spec/06
R127). -/
def pick (smaller : Bool) (t : FloatFmt) (a b : Val) : Val :=
  let x := num t a
  let y := num t b
  let xBelow : Bool := x.lt y || (x.eq y && (low t.width a).msb && !(low t.width b).msb)
  let yBelow : Bool := y.lt x || (x.eq y && (low t.width b).msb && !(low t.width a).msb)
  if x.isNaN && y.isNaN then BitVec.ofNat 128 t.nanBits
  else if x.isNaN then (low t.width b).setWidth 128
  else if y.isNaN then (low t.width a).setWidth 128
  else if (if smaller then yBelow else xBelow) then (low t.width b).setWidth 128 else (low t.width a).setWidth 128

/-- Both 16-bit halves computed by one function (spec/06 R129). -/
def halves (g : Val → Val → Val → Val) (a b c : Val) : Val :=
  let h (n : Nat) (x : Val) : Val := (low 16 (x >>> (16 * n))).setWidth 128
  (low 16 (g (h 0 a) (h 0 b) (h 0 c))).setWidth 128 ||| (low 16 (g (h 1 a) (h 1 b) (h 1 c))).setWidth 128 <<< 16

/-- Layout HP's format, MOD[5]. -/
def fmtHp (f : Fields) : FloatFmt := if f.modBit 5 then .bf16 else .f16

end Sys2Proof.Stated

open Sys2Proof Sys2Proof.Machine Sys2Proof.Stated

/-! ## Computation on integers -/

/-- R117, without IDIV and IREM: the exact integer of each row, clamped or wrapped, on both pipes; IMADW wraps to 64
bits. -/
def Obligations.IntegerArithmetic : Prop :=
  ∀ f : Fields,
    Computes (.iadd f) (fun a b _ => iaResult f (ia f a + ia f b))
    ∧ Computes (.uiadd f) (fun a b _ => iaResult f (ia f a + ia f b))
    ∧ Computes (.isub f) (fun a b _ => iaResult f (ia f a - ia f b))
    ∧ Computes (.uisub f) (fun a b _ => iaResult f (ia f a - ia f b))
    ∧ Computes (.imul f) (fun a b _ => iaResult f (ia f a * ia f b))
    ∧ Computes (.uimul f) (fun a b _ => iaResult f (ia f a * ia f b))
    ∧ Computes (.imulhi f) (fun a b _ => iaResult f ((ia f a * ia f b) / 2 ^ iaW f))
    ∧ Computes (.uimulhi f) (fun a b _ => iaResult f ((ia f a * ia f b) / 2 ^ iaW f))
    ∧ Computes (.imad f) (fun a b c => iaResult f (ia f a * ia f b + ia f c))
    ∧ Computes (.uimad f) (fun a b c => iaResult f (ia f a * ia f b + ia f c))
    ∧ Computes (.imin f) (fun a b _ => iaResult f (min (ia f a) (ia f b)))
    ∧ Computes (.uimin f) (fun a b _ => iaResult f (min (ia f a) (ia f b)))
    ∧ Computes (.imax f) (fun a b _ => iaResult f (max (ia f a) (ia f b)))
    ∧ Computes (.uimax f) (fun a b _ => iaResult f (max (ia f a) (ia f b)))
    ∧ Computes (.iabs f) (fun a _ _ => iaResult f (if 0 ≤ ia f a then ia f a else -ia f a))
    ∧ Computes (.uiabs f) (fun a _ _ => iaResult f (if 0 ≤ ia f a then ia f a else -ia f a))
    ∧ Computes (.isad f) (fun a b c => iaResult f ((if ia f b ≤ ia f a then ia f a - ia f b else ia f b - ia f a) + ia f c))
    ∧ Computes (.uisad f) (fun a b c => iaResult f ((if ia f b ≤ ia f a then ia f a - ia f b else ia f b - ia f a) + ia f c))
    ∧ Computes (.isum f) (fun a b c => iaResult f (ia f a + ia f b + ia f c))
    ∧ Computes (.uisum f) (fun a b c => iaResult f (ia f a + ia f b + ia f c))
    ∧ Computes (.idp4 f) (fun a b c => iaResult f (byteInt (iaS f) a 0 * byteInt (iaS f) b 0
        + byteInt (iaS f) a 1 * byteInt (iaS f) b 1 + byteInt (iaS f) a 2 * byteInt (iaS f) b 2
        + byteInt (iaS f) a 3 * byteInt (iaS f) b 3 + ia f c))
    ∧ Computes (.uidp4 f) (fun a b c => iaResult f (byteInt (iaS f) a 0 * byteInt (iaS f) b 0
        + byteInt (iaS f) a 1 * byteInt (iaS f) b 1 + byteInt (iaS f) a 2 * byteInt (iaS f) b 2
        + byteInt (iaS f) a 3 * byteInt (iaS f) b 3 + ia f c))
    ∧ Computes (.imadw f) (fun a b c => wrap 64 (int (iaS f) 32 a * int (iaS f) 32 b + int (iaS f) 64 c))
    ∧ Computes (.uimadw f) (fun a b c => wrap 64 (int (iaS f) 32 a * int (iaS f) 32 b + int (iaS f) 64 c))

/-- R118: truncated quotient and remainder with the sign of A; B = 0 gives all ones and A; the most negative value by -1
gives itself and 0 (as the wrapped quotient does). IDIV and IREM take no clamp (MOD[5] is reserved for them). -/
def Sys2Proof.Stated.IntegerDivision : Prop :=
  ∀ f : Fields, f.modBit 5 = false →
    Computes (.idiv f) (fun a b _ => wrap (iaW f) (quotient (ia f a) (ia f b)))
    ∧ Computes (.uidiv f) (fun a b _ => wrap (iaW f) (quotient (ia f a) (ia f b)))
    ∧ Computes (.irem f) (fun a b _ => wrap (iaW f) (remainder (ia f a) (ia f b)))
    ∧ Computes (.uirem f) (fun a b _ => wrap (iaW f) (remainder (ia f a) (ia f b)))

/-- R119: LEA and LEAS, with N in MOD[5:3]. -/
def Sys2Proof.Stated.AddressArithmetic : Prop :=
  ∀ f : Fields,
    Computes (.lea f) (fun a b _ => (low 64 a + (low 32 b).setWidth 64 <<< f.modHi).setWidth 128)
    ∧ Computes (.ulea f) (fun a b _ => (low 64 a + (low 32 b).setWidth 64 <<< f.modHi).setWidth 128)
    ∧ Computes (.leas f) (fun a b _ => (low 64 a + (low 32 b).signExtend 64 <<< f.modHi).setWidth 128)
    ∧ Computes (.uleas f) (fun a b _ => (low 64 a + (low 32 b).signExtend 64 <<< f.modHi).setWidth 128)

/-! ## Logic, shifts and bit fields -/

/-- R120: AND, OR, XOR, LUT3, SHL, SHR, SAR, ROT and CATSH, bit by bit, in MOD[3]'s width. -/
def Obligations.LogicAndShifts : Prop :=
  ∀ f : Fields,
    (let w := lgW f
    Computes (.and f) (fun a b _ => bitsOf w fun i => a.getLsbD i && b.getLsbD i)
    ∧ Computes (.uand f) (fun a b _ => bitsOf w fun i => a.getLsbD i && b.getLsbD i)
    ∧ Computes (.or f) (fun a b _ => bitsOf w fun i => a.getLsbD i || b.getLsbD i)
    ∧ Computes (.uor f) (fun a b _ => bitsOf w fun i => a.getLsbD i || b.getLsbD i)
    ∧ Computes (.xor f) (fun a b _ => bitsOf w fun i => a.getLsbD i ^^ b.getLsbD i)
    ∧ Computes (.uxor f) (fun a b _ => bitsOf w fun i => a.getLsbD i ^^ b.getLsbD i)
    ∧ Computes (.lut3 f) (fun a b c => bitsOf w fun i =>
        f.imm.getLsbD (4 * (a.getLsbD i).toNat + 2 * (b.getLsbD i).toNat + (c.getLsbD i).toNat))
    ∧ Computes (.ulut3 f) (fun a b c => bitsOf w fun i =>
        f.imm.getLsbD (4 * (a.getLsbD i).toNat + 2 * (b.getLsbD i).toNat + (c.getLsbD i).toNat))
    ∧ Computes (.shl f) (fun a b _ => bitsOf w fun i => (low 32 b).toNat ≤ i && a.getLsbD (i - (low 32 b).toNat))
    ∧ Computes (.ushl f) (fun a b _ => bitsOf w fun i => (low 32 b).toNat ≤ i && a.getLsbD (i - (low 32 b).toNat))
    ∧ Computes (.shr f) (fun a b _ => bitsOf w fun i =>
        i + (low 32 b).toNat < w && a.getLsbD (i + (low 32 b).toNat))
    ∧ Computes (.ushr f) (fun a b _ => bitsOf w fun i =>
        i + (low 32 b).toNat < w && a.getLsbD (i + (low 32 b).toNat))
    ∧ Computes (.sar f) (fun a b _ => bitsOf w fun i =>
        if i + (low 32 b).toNat < w then a.getLsbD (i + (low 32 b).toNat) else f.modBit 5 && a.getLsbD (w - 1))
    ∧ Computes (.usar f) (fun a b _ => bitsOf w fun i =>
        if i + (low 32 b).toNat < w then a.getLsbD (i + (low 32 b).toNat) else f.modBit 5 && a.getLsbD (w - 1))
    ∧ Computes (.rot f) (fun a b _ => bitsOf w fun i =>
        a.getLsbD ((if f.modBit 4 then i + (low 32 b).toNat else i + w - (low 32 b).toNat % w) % w))
    ∧ Computes (.urot f) (fun a b _ => bitsOf w fun i =>
        a.getLsbD ((if f.modBit 4 then i + (low 32 b).toNat else i + w - (low 32 b).toNat % w) % w))
    ∧ Computes (.catsh f) (fun a b c =>
        let n := min (low 32 c).toNat w
        let cat (j : Nat) : Bool := if j < w then a.getLsbD j else b.getLsbD (j - w)
        bitsOf w fun i => if f.modBit 4 then i + n < 2 * w && cat (i + n) else cat (w + i - n))
    ∧ Computes (.ucatsh f) (fun a b c =>
        let n := min (low 32 c).toNat w
        let cat (j : Nat) : Bool := if j < w then a.getLsbD j else b.getLsbD (j - w)
        bitsOf w fun i => if f.modBit 4 then i + n < 2 * w && cat (i + n) else cat (w + i - n)))

/-- R120 to R122: BXTR, BINS, ONES, CLZ, BITREV and BYSEL. -/
def Obligations.BitFields : Prop :=
  ∀ f : Fields,
    (let w := lgW f
    Computes (.bxtr f) (fun a b _ => extract w (f.modBit 5) a (low 8 b).toNat (low 8 (b >>> 8)).toNat)
    ∧ Computes (.ubxtr f) (fun a b _ => extract w (f.modBit 5) a (low 8 b).toNat (low 8 (b >>> 8)).toNat)
    ∧ Computes (.bins f) (fun a b c => insert w a b (low 8 c).toNat (low 8 (c >>> 8)).toNat)
    ∧ Computes (.ubins f) (fun a b c => insert w a b (low 8 c).toNat (low 8 (c >>> 8)).toNat)
    ∧ Computes (.ones f) (fun a _ _ => BitVec.ofNat 128 (countOf w a.getLsbD))
    ∧ Computes (.uones f) (fun a _ _ => BitVec.ofNat 128 (countOf w a.getLsbD))
    ∧ Computes (.clz f) (fun a _ _ => BitVec.ofNat 128 (countOf w fun i => (low w a).toNat < 2 ^ i))
    ∧ Computes (.uclz f) (fun a _ _ => BitVec.ofNat 128 (countOf w fun i => (low w a).toNat < 2 ^ i))
    ∧ Computes (.bitrev f) (fun a _ _ => bitsOf w fun i => a.getLsbD (w - 1 - i))
    ∧ Computes (.ubitrev f) (fun a _ _ => bitsOf w fun i => a.getLsbD (w - 1 - i))
    ∧ Computes (.bysel f) (fun a b c =>
        (pickByte a b c 3 ++ pickByte a b c 2 ++ pickByte a b c 1 ++ pickByte a b c 0).setWidth 128)
    ∧ Computes (.ubysel f) (fun a b c =>
        (pickByte a b c 3 ++ pickByte a b c 2 ++ pickByte a b c 1 ++ pickByte a b c 0).setWidth 128))

/-- R118, R119: integer division and address arithmetic. -/
def Obligations.DivisionAndAddresses : Prop := Sys2Proof.Stated.IntegerDivision ∧ Sys2Proof.Stated.AddressArithmetic

/-! ## Compares, predicates and moves -/

/-- R123: the compares, their conditions in MOD[5:3]; ICMP's type in MOD[1:0] (its conditions 6 and 7 are reserved),
FCMP's format in MOD[1:0], D8CMP on decoded values. -/
def Obligations.Compares : Prop :=
  ∀ f : Fields,
    (f.modHi < 6 → Computes (.icmp f) (fun a b _ =>
        bit (intCond f.modHi (int (!f.modBit 0) (if f.modBit 1 then 64 else 32) a)
          (int (!f.modBit 0) (if f.modBit 1 then 64 else 32) b)))
      ∧ Computes (.uicmp f) (fun a b _ =>
        bit (intCond f.modHi (int (!f.modBit 0) (if f.modBit 1 then 64 else 32) a)
          (int (!f.modBit 0) (if f.modBit 1 then 64 else 32) b))))
    ∧ Computes (.fcmp f) (fun a b _ => bit (numCond f.modHi (num (.ofCode f.mod10) a) (num (.ofCode f.mod10) b)))
    ∧ Computes (.ufcmp f) (fun a b _ => bit (numCond f.modHi (num (.ofCode f.mod10) a) (num (.ofCode f.mod10) b)))
    ∧ Computes (.dcmp f) (fun a b _ => bit (numCond f.modHi (num .f64 a) (num .f64 b)))
    ∧ Computes (.d8cmp f) (fun a b _ => bit (numCond f.modHi (decodeD8 (low 8 a)) (decodeD8 (low 8 b))))

/-- R124: PLOG on two predicates; PTOX puts kn (or hn) in bit n; XTOP writes predicate n from A[n] in the lanes whose
B[n] is 1, one result for each predicate, and nothing else. -/
def Sys2Proof.Stated.PredicateMoves : Prop :=
  ∀ f : Fields,
    (f.modHi < 5 →
      Computes (.plog f) (fun a b _ => bit (match f.modHi with
        | 0 => a != 0#128 && b != 0#128
        | 1 => a != 0#128 || b != 0#128
        | 2 => (a != 0#128) ^^ (b != 0#128)
        | 3 => a != 0#128 && b == 0#128
        | _ => a != 0#128 || b == 0#128))
      ∧ Computes (.uplog f) (fun a b _ => bit (match f.modHi with
        | 0 => a != 0#128 && b != 0#128
        | 1 => a != 0#128 || b != 0#128
        | 2 => (a != 0#128) ^^ (b != 0#128)
        | 3 => a != 0#128 && b == 0#128
        | _ => a != 0#128 || b == 0#128)))
    ∧ Gives (.ptox f) (fun s c l => bitsOf 8 fun n => n == 7 || ((s.group c.key).k[n]?.getD 0#32).getLsbD l)
    ∧ Gives (.uptox f) (fun s c _ => bitsOf 4 fun n => (s.group c.key).h[n]?.getD false)
    ∧ (∀ s s' c, Issues (.xtop f) s s' c → ∃ e, exec (.xtop f) s = .next (s'.issue c e) ∧ e.kind = some .result
        ∧ Plain e ∧ (∀ n l, n < 7 → l < 32 → c.active.getLsbD l = true → (opB s c l).getLsbD n = true →
          ∃ r ∈ e.res, r.dest = .pred n)
        ∧ ∀ r ∈ e.res, ∃ n, n < 7 ∧ r.dest = .pred n ∧ r.latch = false
          ∧ ∀ l, l < 32 → (r.lanes.getLsbD l = (c.active.getLsbD l && (opB s c l).getLsbD n))
            ∧ (laneOf r.vals l).getLsbD 0 = (opA s c l).getLsbD n)
    ∧ (∀ s s' c, Issues (.uxtop f) s s' c → ∃ e, exec (.uxtop f) s = .next (s'.issue c e) ∧ e.kind = some .result
        ∧ Plain e ∧ (∀ n, n < 4 → c.active.getLsbD 0 = true → (opB s c 0).getLsbD n = true →
          ∃ r ∈ e.res, r.dest = .upred n)
        ∧ ∀ r ∈ e.res, ∃ n, n < 4 ∧ r.dest = .upred n ∧ r.latch = false
          ∧ (r.lanes.getLsbD 0 = (c.active.getLsbD 0 && (opB s c 0).getLsbD n))
          ∧ (laneOf r.vals 0).getLsbD 0 = (opA s c 0).getLsbD n)

/-- R125, R140: MOV and MOVQ give A, SEL gives A where C holds and B where it does not, UREADL gives the value of the lane
that B[4:0] names (when its register holds no poison); NOP and UNOP write nothing. -/
def Sys2Proof.Stated.Moves : Prop :=
  ∀ f : Fields,
    Computes (.mov f) (fun a _ _ => a) ∧ Computes (.umov f) (fun a _ _ => a) ∧ Computes (.movq f) (fun a _ _ => a)
    ∧ Computes (.sel f) (fun a b c => if c != 0#128 then a else b)
    ∧ Computes (.usel f) (fun a b c => if c != 0#128 then a else b)
    ∧ (∀ s s' c, Issues (.ureadl f) s s' c → readlPoison s c ((low 5 (opB s c 0)).toNat) = false →
        ∃ e r, exec (.ureadl f) s = .next (s'.issue c e) ∧ e.kind = some .result ∧ Plain e ∧ e.res = [r]
          ∧ ResultIs c r fun _ => opA s c (low 5 (opB s c 0)).toNat)
    ∧ (∀ s s' c, Issues (.nop f) s s' c → ∃ e, exec (.nop f) s = .next (s'.issue c e) ∧ Plain e ∧ e.res = [])
    ∧ (∀ s s' c, Issues (.unop f) s s' c → ∃ e, exec (.unop f) s = .next (s'.issue c e) ∧ Plain e ∧ e.res = [])

/-! ## Floats -/

/-- Word `i` writes, in each active lane, a function of its A operand that answers a NaN with the canonical one. -/
def Sys2Proof.Stated.FunctionOfA (i : Instr) : Prop :=
  ∃ g : Val → Val, Computes i (fun a _ _ => g a) ∧ ∀ a, (num .f32 a).isNaN = true → g a = 0x7FC00000#128

/-- R126 to R130: the exact value rounded once under MOD[3:2]; minima and maxima unrounded; FABS and FCLASS; FRCP,
FSQRT and FDIV in FP32; each other function of layout SP writes one value for each operand, a NaN's the canonical one.
-/
def Obligations.FloatArithmetic : Prop :=
  ∀ f : Fields,
    (Computes (.frcp f) (fun a _ _ => rounded .f32 (mode f) (FloatNum.div (.fin false ⟨1, 1⟩) (num .f32 a)))
    ∧ Computes (.fsqrt f) (fun a _ _ => rounded .f32 (mode f) (FloatNum.sqrt (num .f32 a)))
    ∧ Computes (.fdiv f) (fun a b _ => rounded .f32 (mode f) (FloatNum.div (num .f32 a) (num .f32 b)))
    ∧ FunctionOfA (.frsq f) ∧ FunctionOfA (.fex2 f) ∧ FunctionOfA (.flg2 f) ∧ FunctionOfA (.fex10 f)
    ∧ FunctionOfA (.flg10 f) ∧ FunctionOfA (.fsin f) ∧ FunctionOfA (.fcos f))
    ∧ (let t := fmt54 f
    let m := mode f
    Computes (.fadd f) (fun a b _ => rounded t m (FloatNum.add m (num t a) (num t b)))
    ∧ Computes (.ufadd f) (fun a b _ => rounded t m (FloatNum.add m (num t a) (num t b)))
    ∧ Computes (.fmul f) (fun a b _ => rounded t m (FloatNum.mul (num t a) (num t b)))
    ∧ Computes (.ufmul f) (fun a b _ => rounded t m (FloatNum.mul (num t a) (num t b)))
    ∧ Computes (.ffma f) (fun a b c => rounded t m (FloatNum.add m (FloatNum.mul (num t a) (num t b)) (num t c)))
    ∧ Computes (.uffma f) (fun a b c => rounded t m (FloatNum.add m (FloatNum.mul (num t a) (num t b)) (num t c)))
    ∧ Computes (.fint f) (fun a _ _ => rounded t m (FloatNum.integral m (num t a)))
    ∧ Computes (.fmin f) (fun a b _ => pick true t a b) ∧ Computes (.ufmin f) (fun a b _ => pick true t a b)
    ∧ Computes (.fmax f) (fun a b _ => pick false t a b) ∧ Computes (.ufmax f) (fun a b _ => pick false t a b)
    ∧ Computes (.fabs f) (fun a _ _ => if (num t a).isNaN then BitVec.ofNat 128 t.nanBits
        else BitVec.ofNat 128 ((low (t.width - 1) a).toNat + if f.a.neg then 2 ^ (t.width - 1) else 0))
    ∧ Computes (.fclass f) (fun a _ _ => BitVec.ofNat 128 (2 ^ (match num t a with
        | .nan => if a.getLsbD (t.fracBits - 1) then 9 else 8
        | .inf neg => if neg then 0 else 7
        | .fin neg v => if v.num = 0 then (if neg then 3 else 4)
            else if v.abs.lt (Frac.pow 2 (1 - t.bias)) then (if neg then 2 else 5) else if neg then 1 else 6))))

/-- R126, R127, R130 in FP64: DADD, DMUL, DFMA, DINT, DMIN, DMAX, DABS, DRCP, DSQRT, DDIV. -/
def Sys2Proof.Stated.DoubleArithmetic : Prop :=
  ∀ f : Fields,
    (let m := mode f
    Computes (.dadd f) (fun a b _ => rounded .f64 m (FloatNum.add m (num .f64 a) (num .f64 b)))
    ∧ Computes (.dmul f) (fun a b _ => rounded .f64 m (FloatNum.mul (num .f64 a) (num .f64 b)))
    ∧ Computes (.dfma f) (fun a b c => rounded .f64 m (FloatNum.add m (FloatNum.mul (num .f64 a) (num .f64 b)) (num .f64 c)))
    ∧ Computes (.dint f) (fun a _ _ => rounded .f64 m (FloatNum.integral m (num .f64 a)))
    ∧ Computes (.dmin f) (fun a b _ => pick true .f64 a b) ∧ Computes (.dmax f) (fun a b _ => pick false .f64 a b)
    ∧ Computes (.dabs f) (fun a _ _ => if (num .f64 a).isNaN then BitVec.ofNat 128 FloatFmt.f64.nanBits
        else BitVec.ofNat 128 ((low 63 a).toNat + if f.a.neg then 2 ^ 63 else 0))
    ∧ Computes (.drcp f) (fun a _ _ => rounded .f64 m (FloatNum.div (.fin false ⟨1, 1⟩) (num .f64 a)))
    ∧ Computes (.dsqrt f) (fun a _ _ => rounded .f64 m (FloatNum.sqrt (num .f64 a)))
    ∧ Computes (.ddiv f) (fun a b _ => rounded .f64 m (FloatNum.div (num .f64 a) (num .f64 b))))

/-- R129: the packed opcodes compute both 16-bit halves as FADD, FMUL, FFMA, FMIN and FMAX of HP's format. -/
def Sys2Proof.Stated.PackedArithmetic : Prop :=
  ∀ f : Fields,
    (let t := fmtHp f
    let m := mode f
    Computes (.pkadd f) (halves fun a b _ => rounded t m (FloatNum.add m (num t a) (num t b)))
    ∧ Computes (.pkmul f) (halves fun a b _ => rounded t m (FloatNum.mul (num t a) (num t b)))
    ∧ Computes (.pkfma f) (halves fun a b c => rounded t m (FloatNum.add m (FloatNum.mul (num t a) (num t b)) (num t c)))
    ∧ Computes (.pkmin f) (halves fun a b _ => pick true t a b)
    ∧ Computes (.pkmax f) (halves fun a b _ => pick false t a b))

/-- R130, R385 in FP32: FRCP, FSQRT and FDIV rounded once; the special inputs and exact cases of the other functions;
and for every other input a value within the row's ulps of the exact one, which the model computes in fixed point far
beyond the ulp, where the format has such a value (which of them is free: log 15). -/
def Obligations.SpecialFunctions : Prop :=
  ∀ f : Fields,
    Computes (.frcp f) (fun a _ _ => rounded .f32 (mode f) (FloatNum.div (.fin false ⟨1, 1⟩) (num .f32 a)))
    ∧ Computes (.fsqrt f) (fun a _ _ => rounded .f32 (mode f) (FloatNum.sqrt (num .f32 a)))
    ∧ Computes (.fdiv f) (fun a b _ => rounded .f32 (mode f) (FloatNum.div (num .f32 a) (num .f32 b)))
    ∧ (∃ rsq ex2 lg2 ex10 lg10 sin cos : Val → Val,
      (Computes (.frsq f) (fun a _ _ => rsq a) ∧ Computes (.fex2 f) (fun a _ _ => ex2 a)
        ∧ Computes (.flg2 f) (fun a _ _ => lg2 a) ∧ Computes (.fex10 f) (fun a _ _ => ex10 a)
        ∧ Computes (.flg10 f) (fun a _ _ => lg10 a) ∧ Computes (.fsin f) (fun a _ _ => sin a)
        ∧ Computes (.fcos f) (fun a _ _ => cos a))
      ∧ (∀ g ∈ [rsq, ex2, lg2, ex10, lg10, sin, cos], ∀ a, (num .f32 a).isNaN = true → g a = 0x7FC00000#128)
      ∧ (∀ g ∈ [rsq, lg2, lg10], g 0xFF800000#128 = 0x7FC00000#128)
      ∧ rsq 0x00000000#128 = 0x7F800000#128 ∧ rsq 0x80000000#128 = 0xFF800000#128 ∧ rsq 0x7F800000#128 = 0#128
      ∧ ex2 0xFF800000#128 = 0#128 ∧ ex2 0x7F800000#128 = 0x7F800000#128
      ∧ ex10 0xFF800000#128 = 0#128 ∧ ex10 0x7F800000#128 = 0x7F800000#128
      ∧ lg2 0#128 = 0xFF800000#128 ∧ lg2 0x80000000#128 = 0xFF800000#128 ∧ lg2 0x7F800000#128 = 0x7F800000#128
      ∧ lg10 0#128 = 0xFF800000#128 ∧ lg10 0x80000000#128 = 0xFF800000#128 ∧ lg10 0x7F800000#128 = 0x7F800000#128
      ∧ sin 0#128 = 0#128 ∧ sin 0x80000000#128 = 0x80000000#128
      ∧ (∀ g ∈ [sin, cos], ∀ a, low 32 a = 0x7F800000#32 ∨ low 32 a = 0xFF800000#32 → g a = 0x7FC00000#128)
      ∧ (∀ g ∈ [rsq, lg2, lg10], ∀ a v, num .f32 a = .fin true v → v.num ≠ 0 → g a = 0x7FC00000#128)
      ∧ (∀ a sg v (n : Int), num .f32 a = .fin sg v → v.eqv (Frac.ofInt n) = true → -149 ≤ n → n ≤ 127 →
          ex2 a = rounded .f32 .rn (.fin false (Frac.pow 2 n)))
      ∧ (∀ a v (n : Int), num .f32 a = .fin false v → v.eqv (Frac.pow 2 n) = true →
          lg2 a = rounded .f32 .rn (.fin (decide (n < 0)) ⟨n, 1⟩))
      ∧ (∀ a sg v (n : Nat), num .f32 a = .fin sg v → v.eqv (Frac.ofInt n) = true → n ≤ 10 →
          ex10 a = rounded .f32 .rn (.fin false ⟨10 ^ n, 1⟩))
      ∧ (∀ a v (n : Nat), num .f32 a = .fin false v → v.eqv (Frac.pow 10 n) = true → n ≤ 10 →
          lg10 a = rounded .f32 .rn (.fin false ⟨n, 1⟩))
      ∧ (let near (fn : SpecialFn) (g : Val → Val) (a : Val) (v : Frac) : Prop :=
          withinUlps (specialUlps fn) (specialExact fn v) ≠ [] →
            (g a).toNat ∈ withinUlps (specialUlps fn) (specialExact fn v)
        (∀ a v, num .f32 a = .fin false v → v.num ≠ 0 → near .rsq rsq a v
          ∧ ((∀ n : Int, v.eqv (Frac.pow 2 n) = false) → near .lg2 lg2 a v)
          ∧ ((∀ n : Nat, n ≤ 10 → v.eqv (Frac.pow 10 n) = false) → near .lg10 lg10 a v))
        ∧ (∀ a sg v, num .f32 a = .fin sg v → (v.num ≠ 0 → near .sin sin a v) ∧ near .cos cos a v
          ∧ ((∀ n : Int, -149 ≤ n → n ≤ 127 → v.eqv (Frac.ofInt n) = false) → near .ex2 ex2 a v)
          ∧ ((∀ n : Nat, n ≤ 10 → v.eqv (Frac.ofInt n) = false) → near .ex10 ex10 a v))))

/-! ## Conversions, D8, lanes -/

/-- R131: CVTI2F, CVTF2I, CVTF2F and CVTI2I, source type in MOD[3:2], destination type in MOD[5:4], mode in MOD[1:0]. -/
def Obligations.Conversions : Prop :=
  ∀ f : Fields,
    (let m := RoundMode.ofCode f.mod10
    let src (a : Val) : Int := int (!f.modBit 2) (if f.modBit 3 then 64 else 32) a
    let dW : Nat := if f.modBit 5 then 64 else 32
    let dS : Bool := !f.modBit 4
    Computes (.cvti2f f) (fun a _ _ => rounded (fmt54 f) m (.fin (decide (src a < 0)) ⟨src a, 1⟩))
    ∧ Computes (.ucvti2f f) (fun a _ _ => rounded (fmt54 f) m (.fin (decide (src a < 0)) ⟨src a, 1⟩))
    ∧ Computes (.cvtf2i f) (fun a _ _ => wrap dW (match num (.ofCode f.mod32) a with
        | .nan => 0
        | .inf neg => if neg then least dS dW else most dS dW
        | .fin _ v => max (least dS dW) (min (most dS dW) (roundInt m v))))
    ∧ Computes (.ucvtf2i f) (fun a _ _ => wrap dW (match num (.ofCode f.mod32) a with
        | .nan => 0
        | .inf neg => if neg then least dS dW else most dS dW
        | .fin _ v => max (least dS dW) (min (most dS dW) (roundInt m v))))
    ∧ Computes (.cvtf2f f) (fun a _ _ => rounded (fmt54 f) m (num (.ofCode f.mod32) a))
    ∧ Computes (.cvti2i f) (fun a _ _ => wrap dW (if f.mod10 = 1 then max (least dS dW) (min (most dS dW) (src a))
        else src a)))

/-- R132 to R134: D8PACK, D8UNPK, D8SCALE over the active lanes, and D8MIN and D8MAX byte by byte. -/
def Obligations.D8Operations : Prop :=
  ∀ f : Fields,
    (let t := fmt54 f
    let k (b : Val) : Int := (low 8 b).toInt
    let least8 (x y : BitVec 8) : BitVec 8 :=
      if x = 0x80#8 ∨ y = 0x80#8 then 0x80#8 else if (decodeD8 y).lt (decodeD8 x) then y else x
    let most8 (x y : BitVec 8) : BitVec 8 :=
      if x = 0x80#8 ∨ y = 0x80#8 then 0x80#8 else if (decodeD8 x).lt (decodeD8 y) then y else x
    let each (g : BitVec 8 → BitVec 8 → BitVec 8) (a b : Val) : Val :=
      let byte (n : Nat) : BitVec 8 := g (low 8 (a >>> (8 * n))) (low 8 (b >>> (8 * n)))
      (byte 3 ++ byte 2 ++ byte 1 ++ byte 0).setWidth 128
    Computes (.d8pack f) (fun a b _ => (encodeD8 ((num t a).scale10 (-k b))).setWidth 128)
    ∧ Computes (.d8unpk f) (fun a b _ => rounded t (mode f) ((decodeD8 (low 8 a)).scale10 (k b)))
    ∧ Computes (.d8min f) (fun a b _ => each least8 a b)
    ∧ Computes (.d8max f) (fun a b _ => each most8 a b)
    ∧ Gives (.d8scale f) (fun s c _ => wrap 32 (chooseScale ((lanesOf c.active).map fun n => num t (opA s c n)))))

/-- R135, R136: the permutes read the source lane of each lane; VOTE, BALLOT and MATCH work over the active lanes. -/
def Sys2Proof.Stated.CrossLane : Prop :=
  ∀ f : Fields,
    (let sh (s : State) (c : Ctx) (l : Nat) : Nat := (low 5 (opB s c l)).toNat
    Gives (.perm f) (fun s c l => opA s c (sh s c l))
    ∧ Gives (.permup f) (fun s c l => opA s c (if sh s c l ≤ l then l - sh s c l else l))
    ∧ Gives (.permdn f) (fun s c l => opA s c (if l + sh s c l < 32 then l + sh s c l else l))
    ∧ Gives (.permx f) (fun s c l => opA s c (l ^^^ sh s c l))
    ∧ (f.modHi < 3 → Gives (.vote f) (fun s c _ => bit
        (let all := (lanesOf c.active).all fun n => opA s c n != 0#128
        let any := (lanesOf c.active).any fun n => opA s c n != 0#128
        match f.modHi with
        | 0 => all
        | 1 => any
        | _ => all || !any)))
    ∧ Gives (.ballot f) (fun s c _ => bitsOf 32 fun n => c.active.getLsbD n && opA s c n != 0#128)
    ∧ Gives (.matchEq f) (fun s c l => bitsOf 32 fun n => c.active.getLsbD n && opA s c n == opA s c l))

/-- R137: GREDI and GREDF give every active lane the combination over the active lanes, a minimum or maximum of one
NaN the canonical one; GSCAN gives each the sum over the active lanes below it, itself included for the inclusive
forms. -/
def Sys2Proof.Stated.LaneReductions : Prop :=
  ∀ f : Fields,
    (let vals (s : State) (c : Ctx) (p : Nat → Bool) : List Val := ((lanesOf c.active).filter p).map (opA s c)
    let ints (s : State) (c : Ctx) : List Int := (vals s c fun _ => true).map (int true 32)
    let nats (s : State) (c : Ctx) : List Int := (vals s c fun _ => true).map (int false 32)
    let sum32 (xs : List Val) : Val := rounded .f32 .rn (exactSum32 xs)
    Gives (.gredi f) (fun s c _ => match f.modHi with
      | 0 => wrap 32 (ints s c).sum
      | 1 => wrap 32 ((ints s c).min?.getD 0)
      | 2 => wrap 32 ((ints s c).max?.getD 0)
      | 3 => wrap 32 ((nats s c).min?.getD 0)
      | 4 => wrap 32 ((nats s c).max?.getD 0)
      | 5 => bitsOf 32 fun i => (lanesOf c.active).all fun n => (opA s c n).getLsbD i
      | 6 => bitsOf 32 fun i => (lanesOf c.active).any fun n => (opA s c n).getLsbD i
      | _ => bitsOf 32 fun i => (lanesOf c.active).foldl (fun b n => b ^^ (opA s c n).getLsbD i) false)
    ∧ (f.modHi = 0 → Gives (.gredf f) (fun s c _ => sum32 (vals s c fun _ => true)))
    ∧ (f.modHi = 1 → Gives (.gredf f) (fun s c _ => match (vals s c fun _ => true).map fun x => pick true .f32 x x with
        | [] => 0#128
        | x :: t => t.foldl (pick true .f32) x))
    ∧ (f.modHi = 2 → Gives (.gredf f) (fun s c _ => match (vals s c fun _ => true).map fun x => pick false .f32 x x with
        | [] => 0#128
        | x :: t => t.foldl (pick false .f32) x))
    ∧ (f.modHi < 4 → Gives (.gscan f) (fun s c l =>
        let xs := vals s c fun n => n < l || (n == l && f.modHi % 2 == 0)
        if f.modHi < 2 then wrap 32 (xs.map (int true 32)).sum else sum32 xs)))

/-- R124, R125, R140: what moves registers and predicates. -/
def Obligations.MovesAndPredicates : Prop := Sys2Proof.Stated.PredicateMoves ∧ Sys2Proof.Stated.Moves

/-- R126, R127, R129, R130: FP64, and the packed 16-bit opcodes. -/
def Obligations.DoubleAndPacked : Prop := Sys2Proof.Stated.DoubleArithmetic ∧ Sys2Proof.Stated.PackedArithmetic

/-- R135 to R137: what works across the lanes of a group. -/
def Obligations.AcrossLanes : Prop := Sys2Proof.Stated.CrossLane ∧ Sys2Proof.Stated.LaneReductions

/-! ## The deep window, issue, and results landing -/

namespace Sys2Proof.Stated

open Machine

/-- Whenever the word of `i` issues and `may` holds, `exec` answers the next state in which it has issued with an effect
that meets `P`. -/
def Starts (i : Instr) (may : State → Ctx → Prop) (P : State → Ctx → Effect → Prop) : Prop :=
  ∀ s s' c, Issues i s s' c → may s c → ∃ e, exec i s = .next (s'.issue c e) ∧ P s c e

/-- Whenever the gate lets the word of `i` pass, no older access can still fault and `when_` holds, `exec` answers the
state after a precise trap of the word's path at its own address. -/
def Traps (i : Instr) (when_ : State → Ctx → Prop) (cause : BitVec 8) (detail : State → Ctx → Word) : Prop :=
  ∀ s s' c, Issues i s s' c → olderFaults s c = false → when_ s c →
    exec i s = .next (s.takeTrap c.key c.pc c.lanes cause (detail s c))

/-- The lowest active lane that meets a test. -/
def Lowest (c : Ctx) (bad : Nat → Bool) (l : Nat) : Prop := (lanesOf c.active).find? bad = some l

/-- Reading any byte of memory gives the same, as every compute die sees it and in its latest state. -/
def SameMemory (s t : State) : Prop := ∀ a, (∀ d, t.viewByte d a = s.viewByte d a) ∧ t.latestByte a = s.latestByte a

/-- Every group but one is as it was. -/
def SameOthers (key : Nat) (s t : State) : Prop := ∀ k, k ≠ key → mapGet? t.groups k = mapGet? s.groups k

/-- The deep-window entry of a lane (spec/03 R77). -/
def entryOf (s : State) (c : Ctx) (l : Nat) : Nat := (low 32 (opA s c l) + c.f.imm).toNat

/-- Does a lane's entry, or the last of its `words` entries, lie outside the deep window? -/
def beyondDeep (s : State) (c : Ctx) (words l : Nat) : Bool := s.deepOf (s.group c.key) < entryOf s c l + words

/-- Whenever a fixed-latency operation's cycle has come, the event that lands its result answers a next state in which the
operation is gone; its group is there, and of the state, the group as it was and the group as it is `P` holds. -/
def Lands (id : Nat) (o : Op) (s : State) (P : State → Group → Group → Prop) : Prop :=
  ∀ g, mapGet? s.ops id = some o → o.kind = .result → o.due ≤ s.timeOf o.group → mapGet? s.groups o.group = some g →
    ∃ t g', exec (.fixedResultWriteback id) s = .next t ∧ mapGet? t.ops id = none ∧ mapGet? t.groups o.group = some g'
      ∧ P t g g'

end Sys2Proof.Stated

/-- R77, R138: LDX reads entry e (and e + 1 for `.b64`) of each active lane into D; STX puts in flight the write of B
there, with one undo entry that holds the old values, and writes no register; an entry at or beyond DEEP in any active
lane is the deep-window-bound trap 0x05, whose detail is the lowest such lane. -/
def Obligations.DeepWindow : Prop :=
  ∀ (w : Width2) (f : Fields),
    (let words := w.bytes / 4
    Starts (.ldx w f)
      (fun s c => (∀ l ∈ lanesOf c.active, beyondDeep s c words l = false) ∧ (s.group c.key).poison = [])
      (fun s c e => Plain e ∧ e.kind = some .result ∧ ∃ r, e.res = [r] ∧ ResultIs c r fun l =>
        let g := s.group c.key
        (g.deepWord (entryOf s c l) l).setWidth 128
          ||| if w = .b64 then (g.deepWord (entryOf s c l + 1) l).setWidth 128 <<< 32 else 0#128)
    ∧ Starts (.stx w f) (fun s c => ∀ l ∈ lanesOf c.active, beyondDeep s c words l = false)
      (fun s c e => e.res = [] ∧ e.acc = [] ∧ (∃ cells old, e.kind = some (.deepStore cells) ∧ e.undo = [.deep old []]
        ∧ (∀ l k v, (l, k, v) ∈ cells ↔ l ∈ lanesOf c.active ∧ ∃ n, n < words ∧ k = entryOf s c l + n
          ∧ v = low 32 (opB s c l >>> (32 * n)))
        ∧ (∀ l k v, (l, k, v) ∈ old ↔ l ∈ lanesOf c.active ∧ ∃ n, n < words ∧ k = entryOf s c l + n
          ∧ v = (s.group c.key).deepWord k l)))
    ∧ (∀ l, Traps (.ldx w f) (fun s c => Lowest c (beyondDeep s c words) l) 0x05#8 fun _ _ => BitVec.ofNat 32 l)
    ∧ (∀ l, Traps (.stx w f) (fun s c => Lowest c (beyondDeep s c words) l) 0x05#8 fun _ _ => BitVec.ofNat 32 l))

/-- R32, R33, R64, R72, R223: the conditions under which a word of a core issues, written out on the state: its group
is resident, active, in no wait, without fault or stop and on a die that runs, the path stands in its table, its stall
is over, its wait mask is met and its flag can count, nothing of the group is in flight, no source is a latch or
poisoned, no transaction is open for an access, no trap is noted, and the registers its destination needs are granted
and can be picked. -/
def Obligations.QuietGroupIssues : Prop :=
  ∀ (s : State) (i : Instr) (info : Info) (g : Group) (t : Team),
    i.info = some info →
    (info.klass = .compute ∨ (info.klass = .memory ∨ info.klass = .atomic) ∧ ∀ l, l < 32 → laneOf g.tx l = none) →
    mapGet? s.groups s.cur.group = some g → s.cur.group < 0x4000 → g.engine = .partition →
    s.team? g.team = some t → t.swap = .resident → g.halted = false → g.wait = none → g.fault = none → g.stop = none →
    g.holdOp = none → g.trapPend = none → g.lease.act = .active → (s.die (dieOf s.cur.group)).dbgHalt = [] →
    (s.die (dieOf s.cur.group)).thermHalt = false → (∀ r ∈ s.resid, r.stopped = false) → g.trap.hm = false →
    s.cur.lanes ≠ 0#32 → (∃ e ∈ g.table, e.pc = s.cur.pc ∧ s.cur.lanes &&& ~~~e.lanes = 0#32) →
    g.stallEnd ≤ s.now → g.yieldEnd ≤ s.now →
    (∀ n, n < 12 → info.fields.wt.getLsbD n = true → vget g.f n 0#6 = 0#6) →
    (info.fields.sf = 0#4 ∨ vget g.f (info.fields.sf.toNat - 1) 0#6 ≠ 63#6) →
    (∀ p ∈ s.ops, p.2.group ≠ s.cur.group) → info.fields.nx = .seq →
    info.fields.a.level ≠ .latch → info.fields.b.level ≠ .latch → info.fields.c.level ≠ .latch →
    g.poison = [] → (∀ e ∈ g.x, e.2.poison = false) →
    (info.mainNames = [] ∨ s.grant s.cur.group (regsNeeded s (s.ctx info)) g.seq = .take ∧ s.picks (s.ctx info) = true) →
    ∀ c, c = s.ctx info → c.active ≠ 0#32 → Issues i s s c

/-- R30, R33, R66 (log 40): a word whose guard holds in no lane issues all the same, with an operation that writes no
lane: it takes its fixed latency, or is complete at once when its latency is variable. -/
def Sys2Proof.Stated.GuardedOffWords : Prop :=
  ∀ (s s' : State) (i : Instr) (info : Info) (c : Ctx),
    i.info = some info → c = s.ctx info → (mapGet? s.groups s.cur.group).isSome = true → gate s c = .pass →
    linkSteps c (linkAccesses s c) s = .ok s' → c.active = 0#32 →
    ∃ e, exec i s = .next (s'.issue c e) ∧ Plain e ∧ e.acc = [] ∧ (∀ r ∈ e.res, r.lanes = 0#32 ∧ r.latch = false)
      ∧ e.kind = if info.latency = 0 then none else some .result

/-- R33, R39, R64, R70, R171, R210: a word that may not issue changes nothing; one that traps before its operation
takes the trap at its own address, and while an older access can still fault only notes it; poison ends its group's
team; a word barred from a transaction aborts its lanes with code 9. The traps so raised (where none was noted before)
are the stale latch 0x02, the stall count 0x03, the register budget 0x04, the call depth 0x07 and the return underflow
0x08. (That a trap waits for older accesses that can still fault is log 60.) -/
def Sys2Proof.Stated.WordsThatDoNotIssue : Prop :=
  ∀ (s : State) (i : Instr) (info : Info) (c : Ctx),
    i.info = some info → c = s.ctx info → (mapGet? s.groups s.cur.group).isSome = true →
    (gate s c = .hold → exec i s = .next s)
    ∧ (∀ x t, gate s c = .trap x t → exec i s = .next (s.takeTrap c.key c.pc c.lanes x t) ∧ olderFaults s c = false
      ∧ ((s.group c.key).trapPend = none → x = 0x02#8 ∨ x = 0x03#8 ∨ x = 0x04#8 ∨ x = 0x07#8 ∨ x = 0x08#8))
    ∧ (∀ x t, gate s c = .defer x t → olderFaults s c = true
      ∧ exec i s = .next (s.modGroup c.key fun g => { g with trapPend := some (c.pc, x, t) }))
    ∧ (gate s c = .poison → exec i s = .next (s.consumePoison c.key))
    ∧ (∀ m, gate s c = .abort m →
      exec i s = .next ((lanesOf m).foldl (fun (t : State) l => t.abortTx c.key l 9 0) s))

/-- R32, R33: issuing counts: program order, the lease's instructions, the stall to ST + 1 cycles later, the flag SF names
(and no other flag), and the operation in flight with its path, its flag and, for a fixed latency, the cycle it is due. -/
def Sys2Proof.Stated.IssueCounts : Prop :=
  ∀ i s s' c e g k, Issues i s s' c → Plain e → c.f.nx ≠ .exit → mapGet? s'.groups c.key = some g → e.kind = some k →
    ∃ g' o, mapGet? (s'.issue c e).groups c.key = some g' ∧ mapGet? (s'.issue c e).ops s'.nextId = some o
      ∧ g'.seq = g.seq + 1 ∧ g'.lease.count = g.lease.count + 1 ∧ g'.lastIssue = some (s'.timeOf c.key)
      ∧ (g.lastIssue ≠ some (s'.timeOf c.key) → g'.stallEnd = s'.timeOf c.key + c.f.st.toNat + 1)
      ∧ (∀ n, n < 12 → vget g'.f n 0#6 = if c.f.sf.toNat = n + 1 then vget g.f n 0#6 + 1#6 else vget g.f n 0#6)
      ∧ o.group = c.key ∧ o.seq = c.seq ∧ o.pc = c.pc ∧ o.lanes = c.lanes ∧ o.active = c.active ∧ o.kind = k
      ∧ o.flag = c.f.sf.toNat ∧ (c.info.latency ≠ 0 → o.due = s'.timeOf c.key + c.info.latency)

/-- The frame of issuing a word whose effect is only a result in flight, for every selector but EXIT: of its own group
only the rename map, the undo log, the flags, the counts, the captures of the clock and the timer, the paths and (for
CALL and RET) the return stack may change; every other group, all memory, every cache, queue, context, port and engine
is as it was. EXIT, which may release a barrier, still changes no memory and none of the registers named here. -/
def Sys2Proof.Stated.IssueFrame : Prop :=
  ∀ i s s' c e g, Issues i s s' c → Plain e → mapGet? s'.groups c.key = some g →
    SameMemory s' (s'.issue c e)
    ∧ (∃ g', mapGet? (s'.issue c e).groups c.key = some g' ∧ g'.o = g.o ∧ g'.q = g.q ∧ g'.k = g.k ∧ g'.h = g.h
      ∧ g'.deep = g.deep ∧ g'.s = g.s ∧ g'.lat = g.lat ∧ g'.ulat = g.ulat)
    ∧ (c.f.nx ≠ .exit →
      (∃ g', mapGet? (s'.issue c e).groups c.key = some g' ∧ g' = { g with
        x := g'.x, pending := g'.pending, undo := g'.undo, snaps := g'.snaps, f := g'.f, seq := g'.seq
        lease := { g.lease with count := g'.lease.count }, stallEnd := g'.stallEnd, lastIssue := g'.lastIssue
        yieldPass := g'.yieldPass, clockh := g'.clockh, timeh := g'.timeh, table := g'.table, parked := g'.parked
        ret := if c.f.nx = .call ∨ c.f.nx = .ret then g'.ret else g.ret })
      ∧ SameOthers c.key s' (s'.issue c e)
      ∧ ∃ t, s'.issue c e = t ∧ t = { s' with
        groups := t.groups, ops := t.ops, regsUsed := t.regsUsed, laneBusy := t.laneBusy, agenda := t.agenda
        delays := t.delays, freeCtr := t.freeCtr, nextId := t.nextId })

/-- R63, R66: a fixed-latency result lands in its cycle. A main-file register is written in the lanes the operation
still owes it and keeps its value in every other lane; operand-file, uniform and predicate registers likewise; a
result for `zero` writes no register; and the latch takes the value, its width and the group's epoch in the writing
lanes only. An STX's values stand in its entries (R138), and LOOP's q62 falls by one (R37). What is not due changes
nothing. (That the latch is tagged as its result lands is log 58.) -/
def Sys2Proof.Stated.ResultsLand : Prop :=
  (∀ id o s, mapGet? s.ops id = some o → s.timeOf o.group < o.due → exec (.fixedResultWriteback id) s = .next s)
  ∧ (∀ id o s g cells, mapGet? s.ops id = some o → o.kind = .deepStore cells → o.due ≤ s.timeOf o.group →
    mapGet? s.groups o.group = some g → ∃ t g', exec (.fixedResultWriteback id) s = .next t ∧ mapGet? t.ops id = none
      ∧ mapGet? t.groups o.group = some g' ∧ SameMemory s t
      ∧ ∀ l k v, l < 32 → (l, k, v) ∈ cells → (∀ w, (l, k, w) ∈ cells → w = v) → g'.deepWord k l = v)
  ∧ (∀ id o s g x, mapGet? s.ops id = some o → o.kind = .turn x → o.due ≤ s.timeOf o.group →
    mapGet? s.groups o.group = some g → ∃ t g', exec (.fixedResultWriteback id) s = .next t ∧ mapGet? t.ops id = none
      ∧ mapGet? t.groups o.group = some g' ∧ SameMemory s t
      ∧ vget g'.q 62 0#32 = if x.nx = .loop then vget g.q 62 0#32 - 1#32 else vget g.q 62 0#32)
  ∧ ∀ id o s r, o.res = [r] → r.width ≤ 32 → Lands id o s fun _ g g' =>
    (∀ n p m e l, r.dest = .main n → r.targets = [[(p, m)]] → l < 32 → mapGet? g.x n = some e →
      ∃ e', mapGet? g'.x n = some e' ∧ e'.phys = e.phys ∧ laneOf e'.vals l =
        if e.phys.contains p ∧ m.getLsbD l = true then low 32 (laneOf r.vals l) else laneOf e.vals l)
    ∧ (∀ n l, r.dest = .oper n → n < 16 → l < 32 → laneOf (vget g'.o n (Vector.replicate 32 0#32)) l =
        if r.lanes.getLsbD l = true then low 32 (laneOf r.vals l) else laneOf (vget g.o n (Vector.replicate 32 0#32)) l)
    ∧ (∀ n, r.dest = .uni n → n < 64 → vget g'.q n 0#32 =
        if r.lanes.getLsbD 0 = true then low 32 (laneOf r.vals 0) else vget g.q n 0#32)
    ∧ (∀ n l, r.dest = .pred n → n < 7 → l < 32 → (vget g'.k n 0#32).getLsbD l =
        if r.lanes.getLsbD l = true then (laneOf r.vals l).getLsbD 0 else (vget g.k n 0#32).getLsbD l)
    ∧ (∀ n, r.dest = .upred n → n < 4 → vget g'.h n false =
        if r.lanes.getLsbD 0 = true then (laneOf r.vals 0).getLsbD 0 else vget g.h n false)
    ∧ (r.dest = .zero → g'.x = g.x ∧ g'.o = g.o ∧ g'.q = g.q ∧ g'.k = g.k ∧ g'.h = g.h)
    ∧ (r.latch = true → r.uniform = false → ∀ l, l < 32 → laneOf g'.lat l =
        if r.lanes.getLsbD l = true then ⟨(low 32 (laneOf r.vals l)).setWidth 64, false, some g.epoch, false⟩
        else laneOf g.lat l)
    ∧ (r.latch = true → r.uniform = true → g'.ulat =
        if r.lanes.getLsbD 0 = true then ⟨(low 32 (laneOf r.vals 0)).setWidth 64, false, some g.epoch, false⟩ else g.ulat)

/-- R33, R63: the frame of a result landing: the operation is gone and its flag has fallen by one; of its group only the
registers its result names, the latch, the undo log and what has retired change; every other group, memory and the rest of
the package are as they were. -/
def Sys2Proof.Stated.LandingFrame : Prop :=
  ∀ id o s, Lands id o s fun t g g' => SameMemory s t ∧ SameOthers o.group s t
    ∧ (∀ n, n < 12 → vget g'.f n 0#6 = if o.flag = n + 1 then vget g.f n 0#6 - 1#6 else vget g.f n 0#6)
    ∧ g' = { g with
        x := g'.x, pending := g'.pending, o := g'.o, lat := g'.lat, ulat := g'.ulat, q := g'.q, k := g'.k, h := g'.h
        f := g'.f, undo := g'.undo, snaps := g'.snaps, holdOp := g'.holdOp, poison := g'.poison }
    ∧ ((∀ r ∈ o.res, ∀ n, r.dest ≠ .main n) → ∀ n e, mapGet? g'.x n = some e ↔ mapGet? g.x n = some e)
    ∧ ((∀ r ∈ o.res, ∀ n, r.dest ≠ .oper n) → g'.o = g.o) ∧ ((∀ r ∈ o.res, ∀ n, r.dest ≠ .uni n) → g'.q = g.q)
    ∧ ((∀ r ∈ o.res, ∀ n, r.dest ≠ .pred n) → g'.k = g.k) ∧ ((∀ r ∈ o.res, ∀ n, r.dest ≠ .upred n) → g'.h = g.h)
    ∧ ((∀ r ∈ o.res, r.latch = false) → g'.lat = g.lat ∧ g'.ulat = g.ulat)
    ∧ t = { s with groups := t.groups, ops := t.ops, regsUsed := t.regsUsed, agenda := t.agenda }

/-- R25, R26, R60, R68, R111, R112 (and spec/03's registers): what a source field reads in a lane, before negation: an
unmapped name 0, `zero` 0, `imm` its opcode's form, k7 true, a uniform register, an operand-file register, the low or the
whole of a latch entry. -/
def Sys2Proof.Stated.SourceFields : Prop :=
  ∀ (s : State) (c : Ctx) (form : SrcForm) (o : Operand) (l : Nat), l < 32 → ∀ acc,
    (let g := s.group c.key
    let cls : OpClass := .v acc
    let x := rawVal s c cls form o l
    (o.level = .main → c.info.uniform = false → mapGet? g.x o.index.toNat = none → x = 0#128)
    ∧ (∀ e, o.level = .main → c.info.uniform = false → mapGet? g.x o.index.toNat = some e →
        x = (laneOf e.vals l).setWidth 128)
    ∧ (o.level = .main → c.info.uniform = true → x = (vget g.q o.index.toNat 0#32).setWidth 128)
    ∧ (o.level = .oper → x = (laneOf (vget g.o o.index.toNat (Vector.replicate 32 0#32)) l).setWidth 128)
    ∧ (o.level = .latch → o.index = 0#8 → x = (low 32 ((laneOf g.lat l).val.setWidth 128)).setWidth 128)
    ∧ (o.level = .latch → o.index = 1#8 → x = (low 32 (g.ulat.val.setWidth 128)).setWidth 128)
    ∧ (o.level = .special → o.index = 0#8 → x = 0#128)
    ∧ (o.level = .special → o.index = 1#8 → form.imm = .word → x = c.f.imm.setWidth 128)
    ∧ (o.level = .special → o.index = 1#8 → form.imm = .sext → x = (c.f.imm.signExtend 64).setWidth 128)
    ∧ (o.level = .special → o.index = 0x47#8 → x = 1#128)
    ∧ (∀ n, n < 7 → o.level = .special → o.index = BitVec.ofNat 8 (0x40 + n) → x = bit ((vget g.k n 0#32).getLsbD l))
    ∧ (∀ n, n < 4 → o.level = .special → o.index = BitVec.ofNat 8 (0x48 + n) → x = bit (vget g.h n false))
    ∧ (∀ w, negVal (.int w) x = wrap w (-((low w x).toNat : Int)))
    ∧ (∀ w i, w ≤ 128 → i < 128 → (negVal (.bits w) x).getLsbD i = (decide (i < w) && !x.getLsbD i)))

/-- R69, R81, R218: what a word of a resident group of a core reads of each special register in a lane: the group's
place and numbers, its team's, the counters and what their last low read captured, its lease, masks, return-stack
spills, abort code, deep window and register counts. The uniform pipe reads the same, but for those that differ from
lane to lane (what it reads of them is free: log 18). A word that reads %clockl or %timel in an active lane captures
the upper half. -/
def Sys2Proof.Stated.SpecialRegisters : Prop :=
  (∀ (s : State) (c : Ctx) (form : SrcForm) (o : Operand) (l : Nat) (g : Group) (t : Team) acc,
    c.key < 0x4000 → mapGet? s.groups c.key = some g → g.engine = .partition → s.team? g.team = some t → o.level = .special →
    let w (n : Nat) : Word := BitVec.ofNat 32 n
    let reads (idx : Nat) (v : Word) : Prop := o.index = BitVec.ofNat 8 idx → rawVal s c (.v acc) form o l = v.setWidth 128
    (c.info.uniform = false → reads 0x10 (w l) ∧ reads 0x11 (w (32 * g.grp + l)) ∧ reads 0x26 (w (laneOf g.ret l).spilled)
      ∧ reads 0x29 (laneOf g.xcode l))
    ∧ reads 0x12 (w g.grp) ∧ reads 0x13 t.index ∧ reads 0x14 (w (c.key / 256)) ∧ reads 0x15 (w (c.key / 2048))
    ∧ reads 0x16 (w t.grid) ∧ reads 0x17 (w (if g.producer then 1 else 0)) ∧ reads 0x18 (w g.ctx)
    ∧ reads 0x19 (w (c.key / 64)) ∧ reads 0x1A (w (c.key / 16 % 4)) ∧ reads 0x1B (w t.ngrp) ∧ reads 0x1C (w (32 * t.ngrp))
    ∧ reads 0x1D t.nteam ∧ reads 0x1E (low 32 (s.cycle.setWidth 128)) ∧ reads 0x1F g.clockh
    ∧ reads 0x20 (low 32 (s.timer.setWidth 128)) ∧ reads 0x21 g.timeh ∧ reads 0x22 (w g.lease.active)
    ∧ reads 0x23 (w g.lease.measured) ∧ reads 0x24 c.lanes ∧ reads 0x25 (~~~g.exited) ∧ reads 0x27 t.node
    ∧ reads 0x28 t.nrec ∧ reads 0x2A (w t.deepSize) ∧ reads 0x2B (w g.regCount) ∧ reads 0x2C (w g.budget) ∧ reads 0x2D (w g.floor))
  ∧ (∀ i s s' c e pos, Issues i s s' c → Plain e → c.f.nx ≠ .exit → pos < 3 → c.info.srcCls pos ≠ .unused →
    (c.operand pos).level = .special →
    ((c.operand pos).index = 0x1E#8 → ∃ g, mapGet? (s'.issue c e).groups c.key = some g ∧ g.clockh = s'.cycle.extractLsb' 32 32)
    ∧ ((c.operand pos).index = 0x20#8 → ∃ g, mapGet? (s'.issue c e).groups c.key = some g
      ∧ g.timeh = s'.timer.extractLsb' 32 32))

/-- R25, R26, R60, R68, R69, R81, R111, R112: what a source field reads, the special registers among them. -/
def Obligations.SourceOperands : Prop := Sys2Proof.Stated.SourceFields ∧ Sys2Proof.Stated.SpecialRegisters

/-- R30, R33, R66, R171, R210: what becomes of a word that is guarded off, held, trapped, poisoned or barred. -/
def Obligations.WordsAtTheGate : Prop := Sys2Proof.Stated.GuardedOffWords ∧ Sys2Proof.Stated.WordsThatDoNotIssue

/-- R32, R33: what issuing counts, and its frame. -/
def Obligations.Issuing : Prop := Sys2Proof.Stated.IssueCounts ∧ Sys2Proof.Stated.IssueFrame

/-- R33, R63, R66: a fixed-latency result landing, and its frame. -/
def Obligations.Landing : Prop := Sys2Proof.Stated.ResultsLand ∧ Sys2Proof.Stated.LandingFrame

/-! ## Memory -/

namespace Sys2Proof.Stated

open Machine

/-- VA of a lane's access (spec/07 R142): the space register of B, and A plus the offset. -/
def address (s : State) (c : Ctx) (l : Nat) : VAddr :=
  vget (s.group c.key).s (c.f.b.index.toNat - 0x60) 0#16 ++ (low 64 (opA s c l) + c.f.imm.signExtend 64)

/-- VA of a lane's remote access (spec/07 R161). -/
def remoteAddress (s : State) (c : Ctx) (l : Nat) : VAddr :=
  low 16 (opB s c l) ++ (low 64 (opA s c l) + c.f.imm.signExtend 64)

/-- The peer a lane's B names. -/
def peerNamed (s : State) (c : Ctx) (l : Nat) : Nat := (low 6 (opB s c l >>> 16)).toNat

/-- An access yet to be made. -/
def newAccess (l : Nat) (va : VAddr) (size : Nat) (data : Val) (peer : Option Nat) : Access :=
  ⟨l, va, size, data, none, false, false, 0#128, peer⟩

/-- A result for the word's destination in its active lanes still to come, or none. -/
def Writes (c : Ctx) (writes : Bool) (res : List RegResult) : Prop :=
  if writes then ∃ r, res = [r] ∧ r.dest = c.info.dest ∧ r.width = c.info.dBits ∧ r.lanes = c.active
    ∧ r.uniform = c.info.uniform ∧ r.latch = c.info.writesLatch
  else res = []

/-- The word of `i` puts an operation in flight with one access of `size` bytes for each active lane, and takes the
misaligned-access trap 0x06 in the lowest lane whose address is not a multiple of `size`. -/
def Accesses (i : Instr) (size : Nat) (kind : State → Ctx → OpKind) (writes : Bool) : Prop :=
  Starts i (fun s c => ∀ l ∈ lanesOf c.active, (address s c l).toNat % size = 0)
    (fun s c e => e.kind = some (kind s c) ∧ e.holds = false ∧ e.atIssue = false ∧ e.undo = [] ∧ e.place = none
      ∧ e.acc = (lanesOf c.active).map (fun l => newAccess l (address s c l) size (opC s c l) none)
      ∧ Writes c writes e.res)
  ∧ ∀ l, Traps i (fun s c => Lowest c (fun l => (address s c l).toNat % size != 0) l) 0x06#8 fun _ _ => BitVec.ofNat 32 l

/-- Does a lane's peer register raise the remote-access fault: a reserved bit, this package, a peer outside the pod,
or one to which the context is not bound? -/
def badPeerOf (s : State) (c : Ctx) (l : Nat) : Bool :=
  low 10 (opB s c l >>> 22) != 0#10 || peerNamed s c l == s.package
    || !s.pod.getLsbD (peerNamed s c l) || (s.bindingOf (s.group c.key).ctx (peerNamed s c l)).isNone

/-- The same for a remote operation, whose bad peers are the remote-access fault 0x0D. -/
def Remotes (i : Instr) (size : Nat) (kind : Ctx → OpKind) (writes : Bool) : Prop :=
  Starts i (fun s c => ∀ l ∈ lanesOf c.active, (remoteAddress s c l).toNat % size = 0 ∧ badPeerOf s c l = false)
    (fun s c e => e.kind = some (kind c) ∧ e.holds = false ∧ e.atIssue = false ∧ e.undo = [] ∧ e.place = none
      ∧ e.acc = (lanesOf c.active).map (fun l =>
          newAccess l (remoteAddress s c l) size (opC s c l) (some (peerNamed s c l)))
      ∧ Writes c writes e.res)
  ∧ (∀ l, Traps i (fun s c => Lowest c (fun l => (remoteAddress s c l).toNat % size != 0) l) 0x06#8
      fun _ _ => BitVec.ofNat 32 l)
  ∧ ∀ l, Traps i (fun s c => (∀ k ∈ lanesOf c.active, (remoteAddress s c k).toNat % size = 0)
      ∧ Lowest c (badPeerOf s c) l) 0x0D#8 fun _ _ => BitVec.ofNat 32 l

/-- Bytes of an AT type: `.b64`, `.s64` and `.f64` take 8 (spec/05 R101). -/
def atSize (ty : Nat) : Nat := if ty = 2 ∨ ty = 3 ∨ ty = 5 then 8 else 4

/-- What an atomic stores over `old` (spec/07 R158): types are 0 `.b32`, 1 `.s32`, 2 `.b64`, 3 `.s64`, 4 `.f32`, 5 `.f64`;
none for a `.cas` that fails. -/
def atomic (op : AtomOp) (ty : Nat) (old x : Val) : Option Val :=
  let w := 8 * atSize ty
  let sg : Bool := ty == 1 || ty == 3
  let fl : Bool := ty == 4 || ty == 5
  let t : FloatFmt := if ty = 4 then .f32 else .f64
  let keep (y : Val) : Val := (low w y).setWidth 128
  match op with
  | .add => some (if fl then rounded t .rn (FloatNum.add .rn (num t old) (num t x)) else wrap w (int sg w old + int sg w x))
  | .min => some (if fl then pick true t old x else if int sg w x < int sg w old then keep x else keep old)
  | .max => some (if fl then pick false t old x else if int sg w old < int sg w x then keep x else keep old)
  | .and => some (keep (old &&& x))
  | .or => some (keep (old ||| x))
  | .xor => some (keep (old ^^^ x))
  | .exch => some (keep x)
  | .cas => if low w old = low w x then some (keep (x >>> w)) else none

/-- An access that is past its fault point and that nothing keeps back: its next phase comes now. -/
def Ready (s : State) (id : Nat) (o : Op) : Prop :=
  mapGet? s.ops id = some o ∧ o.due ≤ s.now ∧ o.ackLost = none ∧ (mapGet? s.groups o.group).isSome = true
    ∧ o.group < 0x4060 ∧ o.walked = true ∧ s.mayPerform o = true

/-- The operation's one access, at a physical address of cacheable memory whose line holds no poison, outside a
transaction, with no reduction pending in the package and no acknowledgement missing at the home. -/
def OneAccess (s : State) (o : Op) (a : Access) (pa : PAddr) : Prop :=
  o.acc = [a] ∧ a.skip = false ∧ a.pa = some pa ∧ s.inTx o a.lane = false ∧ s.reds = [] ∧ s.missingAcks o a = 0#8
    ∧ s.poisoned.contains (lineOf pa.toNat) = false
    ∧ (placeOf s pa.toNat = .near ∨ placeOf s pa.toNat = .far ∨ placeOf s pa.toNat = .cream ∨ placeOf s pa.toNat = .hostWindow)

/-- No store that waits at the home of a held line (spec/11 R262) touches some bytes. -/
def NoneWaits (s : State) (pa n : Nat) : Prop :=
  ∀ r ∈ s.log, r.parked = true → overlaps r.pa r.bytes.length pa n = false

/-- The little-endian number in bytes that a reader gives (spec/00 R1). -/
def numberAt (read : Nat → Byte) (pa n : Nat) : Val :=
  BitVec.ofNat 128 (((List.range n).map fun i => (read (pa + i)).toNat * 256 ^ i).sum)

/-- Byte i of a value. -/
def byteOfVal (x : Val) (i : Nat) : Byte := low 8 (x >>> (8 * i))

/-- Modified bytes belong to lines that a slice holds: what keeps the homes and the slices from disagreeing. -/
def SlicesHoldDirty (s : State) : Prop := ∀ x ∈ s.dirty, ∃ l ∈ s.slices, l.pline = lineOf x.1

/-- The value a group's result leaves in a lane, word by word: operand-file, uniform or main-file registers. -/
def HoldsValue (t : State) (o : Op) (r : RegResult) (lane : Nat) (v : Val) : Prop :=
  ∃ g, mapGet? t.groups o.group = some g ∧ ∀ k, 32 * k < r.width →
    (∀ n, r.dest = .oper n → n + k < 16 → laneOf (vget g.o (n + k) (Vector.replicate 32 0#32)) lane = low 32 (v >>> (32 * k)))
    ∧ (∀ n, r.dest = .uni n → n + k < 64 → lane = 0 → vget g.q (n + k) 0#32 = low 32 (v >>> (32 * k)))
    ∧ (∀ n p m a e, r.dest = .main n → r.targets[k]? = some [(p, m)] →
        (∀ j ts, j ≠ k → r.targets[j]? = some ts → ∀ x ∈ ts, x.1 ≠ p) → m.getLsbD lane = true →
        mapGet? g.x a = some e → e.phys.contains p = true → laneOf e.vals lane = low 32 (v >>> (32 * k)))

/-- A value bound for an operation's one access: with no response over the links awaited the operation is gone and its
register holds the value; else it stays, the value bound. -/
def Bound (s t : State) (id : Nat) (o : Op) (a : Access) (r : RegResult) (v : Val) : Prop :=
  (s.owesAnswers id = false → mapGet? t.ops id = none ∧ HoldsValue t o r a.lane v)
    ∧ (s.owesAnswers id = true → ∃ o', mapGet? t.ops id = some o' ∧ o'.acc = [{ a with bound := true, val := v }])

/-- The latest byte at each address after a store of `n` bytes of a value at `pa`. -/
def LatestIs (s t : State) (pa n : Nat) (v : Val) : Prop :=
  ∀ a, t.latestByte a = if pa ≤ a ∧ a < pa + n then byteOfVal v (a - pa) else s.latestByte a

end Sys2Proof.Stated

/-- R142, R143, R150 to R153, R158, R160: loads, acquire loads, stores, release stores, atomics and reductions, of both
pipes: what each puts in flight at issue, and its misaligned-access trap. -/
def Sys2Proof.Stated.MemoryInstructions : Prop :=
  ∀ f : Fields,
    (∀ w : LdWidth, Accesses (.ld w f) w.bytes (fun _ c => .load (w == .s8 || w == .s16) none c.f.modHi) true)
    ∧ (∀ w : UWidth, Accesses (.uld w f) w.bytes (fun _ c => .load false none c.f.modHi) true)
    ∧ (∀ w : Width2, Accesses (.lda w f) w.bytes (fun s c => .load false (some (scopeOf s c)) 0) true)
    ∧ (∀ w : Width2, Accesses (.ulda w f) w.bytes (fun s c => .load false (some (scopeOf s c)) 0) true)
    ∧ (∀ (w : StWidth) (m : StoreMode), Accesses (.st w m f) w.bytes (fun _ _ => .store m none) false)
    ∧ (∀ (w : UWidth) (m : StoreMode), Accesses (.ust w m f) w.bytes (fun _ _ => .store m none) false)
    ∧ (∀ (w : Width2) (m : StoreMode), Accesses (.str w m f) w.bytes (fun s c => .store m (some (scopeOf s c))) false)
    ∧ (∀ (w : Width2) (m : StoreMode), Accesses (.ustr w m f) w.bytes (fun s c => .store m (some (scopeOf s c))) false)
    ∧ (∀ (op : AtomOp) (m : StoreMode),
        Accesses (.atom op m f) (atSize f.modLo) (fun s c => .atom op m (scopeOf s c) f.modLo) true)
    ∧ (∀ (op : AtomOp) (m : StoreMode),
        Accesses (.uatom op m f) (atSize f.modLo) (fun s c => .atom op m (scopeOf s c) f.modLo) true)
    ∧ (∀ (op : RedOp) (m : StoreMode),
        Accesses (.red op m f) (atSize f.modLo) (fun s c => .red op.toAtom m (scopeOf s c) f.modLo) false)
    ∧ (∀ (op : RedOp) (m : StoreMode),
        Accesses (.ured op m f) (atSize f.modLo) (fun s c => .red op.toAtom m (scopeOf s c) f.modLo) false)

/-- R142, R148, R151: PREF takes any address, writes no register and no latch, and completes for its flag at issue. -/
def Sys2Proof.Stated.Prefetch : Prop :=
  ∀ f : Fields, Starts (.pref f) (fun _ _ => True) fun s c e =>
    e.kind = some (.pref f.modHi) ∧ e.res = [] ∧ e.atIssue = true ∧ e.holds = false ∧ e.place = none
      ∧ e.acc = (lanesOf c.active).map fun l => newAccess l (address s c l) 1 (opC s c l) none

/-- R161 to R163: the remote operations of both pipes: the peer, the space and the address they name, the
remote-access fault and the misaligned-access trap; FFENCE stores 4 bytes as RST does. (Misalignment is checked before
the peer: log 60.) -/
def Sys2Proof.Stated.RemoteInstructions : Prop :=
  ∀ f : Fields,
    (∀ w : Width2, Remotes (.rld w f) w.bytes (fun _ => .rld) true ∧ Remotes (.urld w f) w.bytes (fun _ => .rld) true
      ∧ Remotes (.rst w f) w.bytes (fun _ => .rst) false ∧ Remotes (.urst w f) w.bytes (fun _ => .rst) false)
    ∧ (∀ op : AtomOp, Remotes (.ratom op f) (atSize f.modLo) (fun _ => .ratom op f.modLo) true)
    ∧ Remotes (.ffence f) 4 (fun _ => .ffence) false ∧ Remotes (.uffence f) 4 (fun _ => .ffence) false

/-- R1, R146, R150, R248: a load binds, of any width, the little-endian number that its die sees, that the line of its
core's L1 holds, or that an older store of its lane, not yet performed, holds in the core's queue; it is sign-extended
from 8 or 16 bits for `.s8` and `.s16`. The atomic that has been applied writes the old value. Memory is as before. -/
def Sys2Proof.Stated.LoadsBind : Prop :=
  (∀ s id o a pa r signed acq hint, Ready s id o → OneAccess s o a pa → o.kind = .load signed acq hint → o.res = [r] →
    a.bound = false → a.lane < 32 → r.lanes.getLsbD a.lane = true → r.width ≤ 128 → (s.group o.group).barExec = [] →
    (let ends (v : Val) : Prop := ∃ t, exec (.variableOpComplete id) s = .next t ∧ SameMemory s t
      ∧ Bound s t id o a r (if signed then wrap 32 (int true (8 * a.size) v) else v)
    (s.forwarded o a = none → (∀ core ctx va, s.l1Hit core ctx va = none) →
      ends (numberAt (s.viewByte (dieOf o.group)) pa.toNat a.size))
    ∧ (∀ core l, s.forwarded o a = none → l1Core o.group = some core → s.l1Hit core (s.group o.group).ctx a.va = some l →
      l.poison = false → l.data.length = 128 → pa.toNat % 128 + a.size ≤ 128 →
      ends (numberAt (fun i => (l.data[i]?).getD 0#8) (pa.toNat % 128) a.size))
    ∧ (∀ j p b pb, s.ops = [(j, p), (id, o)] → p.group = o.group → p.seq < o.seq → p.uni = o.uni →
      (o.uni = true ∨ p.active.getLsbD a.lane = true) → (∃ m, p.kind = .store m none) → p.walked = true → p.acc = [b] →
      b.lane = a.lane → b.skip = false → b.bound = false → b.peer = a.peer → b.pa = some pb → acq = none → 0 < a.size →
      pb.toNat ≤ pa.toNat → pa.toNat + a.size ≤ pb.toNat + b.size →
      ends (numberAt (fun i => byteOfVal b.data (i - pb.toNat)) pa.toNat a.size))))
  ∧ ∀ s id o a pa r op m sc ty, Ready s id o → OneAccess s o a pa → o.kind = .atom op m sc ty → o.left = true →
    a.bound = true → o.res = [r] → a.lane < 32 → r.lanes.getLsbD a.lane = true → r.width ≤ 128 →
    (s.group o.group).barExec = [] →
    ∃ t, exec (.variableOpComplete id) s = .next t ∧ SameMemory s t ∧ Bound s t id o a r a.val

/-- R146, R153 to R155: when a store performs at a line that its home does not hold, its bytes are the latest at its
addresses and its own die sees them; an EF store is not yet seen by another die, and a GA store is seen by every die
at that one point. Every other byte reads as before. The operation is gone, once no response over the links is awaited
(R343). -/
def Sys2Proof.Stated.StoresPerform : Prop :=
  ∀ s id o a pa m, Ready s id o → OneAccess s o a pa → o.kind = .store m none → o.left = true →
    a.bound = false → s.parksAt o pa.toNat = false → s.storeWaits id = false → SlicesHoldDirty s →
    (m = .ga → ∀ r ∈ s.log, overlaps r.pa r.bytes.length pa.toNat a.size = false) →
    ∃ t, exec (.variableOpComplete id) s = .next t ∧ (s.owesAnswers id = false → mapGet? t.ops id = none)
      ∧ LatestIs s t pa.toNat a.size a.data
      ∧ ∀ d x, d < 8 → t.viewByte d x =
        if (pa.toNat ≤ x ∧ x < pa.toNat + a.size) ∧ (d = dieOf o.group ∨ m = .ga) then byteOfVal a.data (x - pa.toNat)
        else s.viewByte d x

/-- R158 to R160: an atomic takes the value of its place in the coherence order and leaves the new one there in one step,
the old one bound; a `.cas` that fails leaves memory as it was; a reduction's entry that drains alone leaves what the
atomic of its operation would. -/
def Obligations.AtomicsApply : Prop :=
  (∀ s id o a pa op m sc ty, Ready s id o → OneAccess s o a pa → o.kind = .atom op m sc ty → o.left = true →
    a.bound = false → a.size = atSize ty → ty < 6 → SlicesHoldDirty s → NoneWaits s pa.toNat a.size →
    (∀ core ctx va, s.l1Hit core ctx va = none) →
    (let old := numberAt s.latestByte pa.toNat a.size
    ∃ t o', exec (.homeAtomicApply id) s = .next t ∧ mapGet? t.ops id = some o'
      ∧ o'.acc = [{ a with bound := true, val := old }]
      ∧ (∀ v, atomic op ty old a.data = some v → LatestIs s t pa.toNat a.size v)
      ∧ (atomic op ty old a.data = none → ∀ x, t.latestByte x = s.latestByte x)))
  ∧ ∀ s (pa : PAddr) r x v, s.reds = [r] → r.pa = pa.toNat → r.due ≤ s.now → r.operands = [x] → r.ty < 6 →
    r.op ≠ .exch → r.op ≠ .cas →
    (placeOf s pa.toNat = .near ∨ placeOf s pa.toNat = .far ∨ placeOf s pa.toNat = .cream) → SlicesHoldDirty s →
    s.poisoned.contains (lineOf pa.toNat) = false → NoneWaits s pa.toNat (atSize r.ty) →
    atomic r.op r.ty (numberAt s.latestByte pa.toNat (atSize r.ty)) (x.setWidth 128) = some v →
    ∃ t, exec (.redEntryDrain pa) s = .next t ∧ t.reds = [] ∧ LatestIs s t pa.toNat (atSize r.ty) v

/-- R146, R153, R154, R164, R260 (through spec/11): what a die reads at a byte is what the last store to it that the die
has seen left there, in the order of the stores to it; the latest byte is what the last store of all left; where no such
store is still under way both are the byte of the slices or of the home. Stores still unseen by a die reach it: when every
store the log holds, none of which waits at a held line, is made visible, every die sees the latest byte at every address,
and the latest bytes are as they were. -/
def Obligations.VisibilityIsLatest : Prop :=
  (∀ (s : State) a, let covers (r : LogStore) : Prop := r.pa ≤ a ∧ a < r.pa + r.bytes.length
    (∀ d pre r post, s.log = pre ++ [r] ++ post → covers r → r.seen.getLsbD d = true →
      (∀ q ∈ post, q.seen.getLsbD d = true → ¬covers q) → s.viewByte d a = (r.bytes[a - r.pa]?).getD 0#8)
    ∧ (∀ pre r post, s.log = pre ++ [r] ++ post → covers r → (∀ q ∈ post, ¬covers q) →
      s.latestByte a = (r.bytes[a - r.pa]?).getD 0#8)
    ∧ (∀ d, (∀ q ∈ s.log, q.seen.getLsbD d = true → ¬covers q) →
      s.viewByte d a = (mapGet? s.dirty a).getD (memGet s.mem a))
    ∧ ((∀ q ∈ s.log, ¬covers q) → s.latestByte a = (mapGet? s.dirty a).getD (memGet s.mem a)))
  ∧ ∀ s a, SlicesHoldDirty s → (∀ r ∈ s.log, r.parked = false) →
    (∀ d, d < 8 → (s.showAll fun _ => true).viewByte d a = s.latestByte a)
    ∧ (s.showAll fun _ => true).latestByte a = s.latestByte a

/-- R161, R162, R325: a peer that accepts a remote store holds its bytes at the address in the context bound there; a
remote load gives the bytes that stand there; a peer that refuses ends the team with the remote-access error. (What
the peer's memory holds that this package has not written is free: log 24; an acknowledgement is counted on the
stripe's first port: log 91.) -/
def Sys2Proof.Stated.RemoteOperations : Prop :=
  (∀ s id o a peer ctx, mapGet? s.ops id = some o → (mapGet? s.groups o.group).isSome = true → o.kind = .rst →
    o.left = true → o.acc = [a] → a.skip = false → a.bound = false → a.peer = some peer → s.owesAnswers id = false →
    s.bindingOf (s.group o.group).ctx peer = some ctx → s.reachable peer = true →
    ∃ t, exec (.remoteRequestAtPeer id true) s = .next t ∧ mapGet? t.ops id = none ∧ SameMemory s t
      ∧ ∀ i, i < a.size → i < 16 → (t.peerBytes peer ctx a.va a.size)[i]? = some (byteOfVal a.data i))
  ∧ (∀ s id o a peer ctx r, mapGet? s.ops id = some o → (mapGet? s.groups o.group).isSome = true → o.kind = .rld →
    o.left = true → o.acc = [a] → a.skip = false → a.bound = false → a.peer = some peer → a.lane < 32 →
    s.owesAnswers id = false → (s.group o.group).barExec = [] →
    s.bindingOf (s.group o.group).ctx peer = some ctx → s.reachable peer = true → o.res = [r] →
    s.peerPoison = [] → r.lanes.getLsbD a.lane = true → r.width ≤ 128 →
    ∃ t, exec (.remoteRequestAtPeer id true) s = .next t ∧ SameMemory s t ∧ t.peers = s.peers
      ∧ HoldsValue t o r a.lane (BitVec.ofNat 128 (leNat (s.peerBytes peer ctx a.va a.size))))
  ∧ ∀ s id o g, mapGet? s.ops id = some o → o.kind.remote = true → o.left = true → mapGet? s.groups o.group = some g →
    g.engine = .partition →
    exec (.remoteRequestAtPeer id false) s = .next (s.haltTeam g.team 0x0131#16)

/-- R298 to R300: a walk whose four entries are valid, the first three tables and the last a 256 KiB leaf with the
rights an access needs, gives the leaf's address and the low 18 bits of the virtual one; a first entry that is not
valid is the translation fault 0x20, a leaf without the right the permission fault 0x21, and an address that does not
exist, of a table entry or of the access, 0x22, which names the address (R16). -/
def Obligations.TranslationWalks : Prop :=
  ∀ (s : State) (ctx : Nat) (x : Context) (va : VAddr) (need : Need), s.context ctx = some x →
    (let place (table lvl : Nat) : Nat := table + 8 * (va.toNat / 2 ^ (18 + 15 * lvl) % 2 ^ (if lvl = 3 then 17 else 15))
    let entry (table lvl : Nat) : DWord := s.entryAt (place table lvl)
    let t3 := x.ttbase.toNat
    let e3 := entry t3 3
    let t2 := entryAddr e3
    let e2 := entry t2 2
    let t1 := entryAddr e2
    let e1 := entry t1 1
    let t0 := entryAddr e1
    let e0 := entry t0 0
    let exists_ (t lvl : Nat) : Prop := ownerOf t < 9 ∧ placeOf s (place t lvl) ≠ .absent
    let table (t lvl : Nat) (e : DWord) : Prop :=
      exists_ t lvl ∧ e.getLsbD 0 = true ∧ entryReserved e = false ∧ e.getLsbD 1 = false
    ((exists_ t3 3 → e3.getLsbD 0 = false → s.walk ctx va need = .fault 0x20#8 0)
    ∧ (ownerOf t3 < 9 → placeOf s (place t3 3) = .absent → s.walk ctx va need = .fault 0x22#8 (place t3 3))
    ∧ (table t3 3 e3 → table t2 2 e2 → table t1 1 e1 → exists_ t0 0 → e0.getLsbD 0 = true → entryReserved e0 = false →
      e0.getLsbD 1 = true → e0.getLsbD 7 = false →
      ((leafRights e0).cover need = false → s.walk ctx va need = .fault 0x21#8 0)
      ∧ ((leafRights e0).cover need = true →
        (let pa := entryAddr e0 + va.toNat % 2 ^ 18
        (s.paGood ctx pa = true →
          s.walk ctx va need = .ok pa (e0.extractLsb' 52 8).toNat (leafRights e0) false)
        ∧ (s.paGood ctx pa = false → s.walk ctx va need = .fault 0x22#8 pa))))))

/-- R142 to R160 at issue: loads, stores, atomics, reductions and prefetches. -/
def Obligations.MemoryWords : Prop := Sys2Proof.Stated.MemoryInstructions ∧ Sys2Proof.Stated.Prefetch

/-- R1, R146, R150 to R155: what a load binds, and what a store that performs does to memory. -/
def Obligations.LoadsAndStores : Prop := Sys2Proof.Stated.LoadsBind ∧ Sys2Proof.Stated.StoresPerform

/-- R161, R162, R325: remote operations at issue and at the peer. -/
def Obligations.RemoteAccess : Prop := Sys2Proof.Stated.RemoteInstructions ∧ Sys2Proof.Stated.RemoteOperations

/-! ## Synchronisation -/

namespace Sys2Proof.Stated

open Machine

/-- An effect that writes no register and makes no access. -/
def Bare (e : Effect) : Prop := e.res = [] ∧ e.acc = []

/-- A change made to the group of the word once its lanes have moved, and nothing else. -/
def Does (c : Ctx) (e : Effect) (f : Group → Group) : Prop :=
  e.kind = none ∧ Bare e ∧ e.holds = false ∧ e.place = none ∧ ∀ t n, e.now t n = t.modGroup c.key f

/-- The old state of a rejoin mask of the word's group. -/
def oldJoin (s : State) (c : Ctx) : Rejoin := (s.group c.key).rejoin (c.f.d.index.toNat % 16)

/-- The lanes of a group at an address: in its table or parked. -/
def lanesAt (g : Group) (pc : DWord) : LaneMask :=
  (g.table.filter fun e => e.pc == pc).foldl (fun m e => m ||| e.lanes) 0#32
    ||| (g.parked.filter fun e => e.pc == pc).foldl (fun m e => m ||| e.lanes) 0#32

/-- An address with the four low bits that a program counter keeps zero (spec/02 R22). -/
def aligned (a : DWord) : DWord := a &&& ~~~15#64

/-- What Settle(b) of spec/07 R178 leaves. -/
def settled (balance : Int) (posted overrun : Bool) : ByteBarrier :=
  ⟨balance, posted && balance != 0, overrun || balance < -(2 ^ 47) || 2 ^ 47 ≤ balance⟩

end Sys2Proof.Stated

/-- R164 to R166: FENCE puts its ordering in flight at its scope and holds no issue; FENCEX and DRAIN hold the group until
their paths, or the path and the memory, are done with; of both pipes. -/
def Sys2Proof.Stated.Fences : Prop :=
  ∀ f : Fields,
    (∀ i ∈ [Instr.fence f, .ufence f], Starts i (fun _ _ => True) fun s c e =>
      Plain e ∧ Bare e ∧ e.kind = some (.fence (scopeOf s c)))
    ∧ (∀ i ∈ [Instr.fencex f, .ufencex f], ∀ a b, AccPath.ofCode f.modHi = some a → AccPath.ofCode f.modLo = some b →
      Starts i (fun _ _ => True) fun _ _ e => Bare e ∧ e.kind = some (.fencex a b) ∧ e.holds = true)
    ∧ (∀ i ∈ [Instr.drain f, .udrain f], ∀ a m, AccPath.ofCode f.modHi = some a → MemKind.ofCode f.modLo = some m →
      Starts i (fun _ _ => True) fun _ _ e => Bare e ∧ e.kind = some (.drain a m) ∧ e.holds = true)

/-- R164 to R166, R260, on a core of a partition: while each lane's earlier access is in flight a FENCE does not
complete, while one of the group's accesses on its first path is, a FENCEX does not, and while one of its core's on its
path into its memory is, a DRAIN does not; none of them then changes memory. With nothing of the group in flight but the
fence itself, no copy, no barrier's release awaited and no store of the die waiting at a held line, each completes. A
FENCE beyond the die and a FENCEX have then made every store that their die has seen visible to every die, which is more
than the group's own (the model's choice: log 98); a DRAIN changes no byte. After a FENCEX or a DRAIN the core's L1 holds
no line that differs from what its die sees. -/
def Sys2Proof.Stated.FencesComplete : Prop :=
  ∀ s id o, mapGet? s.ops id = some o → o.due ≤ s.now → o.ackLost = none → (mapGet? s.groups o.group).isSome = true →
    o.group < 0x4000 → o.active ≠ 0#32 →
    (let done (t : State) : Prop := mapGet? t.ops id = none
    let shown (t : State) : Prop := ∀ r ∈ t.log, r.seen.getLsbD (dieOf o.group) = true → r.seen = 0xFF#8
    let fresh (t : State) : Prop := ∀ l ∈ t.l1Of (coreOf o.group), l.data =
      (List.range 128).map fun i => t.viewByte (dieOf o.group) (l.pline * 128 + i)
    let unparked : Prop := s.parkedSeen (dieOf o.group) = false
    (∀ sc, o.kind = .fence sc →
      ((∀ l, l < 32 → o.active.getLsbD l = true → s.laneOwes o sc l = true) → ∃ t o', exec (.variableOpComplete id) s = .next t
        ∧ mapGet? t.ops id = some o' ∧ o'.kind = o.kind ∧ o'.active = o.active ∧ SameMemory s t)
      ∧ ((∀ x ∈ s.ops, x.2.group = o.group → x = (id, o)) → (s.group o.group).awaits = [] → (sc.beyondDie = true → unparked) →
        ∃ t, exec (.variableOpComplete id) s = .next t ∧ done t ∧ (sc.beyondDie = false → SameMemory s t)
          ∧ (sc.beyondDie = true → shown t)))
    ∧ (∀ a b, o.kind = .fencex a b →
      (s.pathOwes o.group id o.seq a = true → ∃ t o', exec (.variableOpComplete id) s = .next t
        ∧ mapGet? t.ops id = some o' ∧ o'.kind = o.kind ∧ SameMemory s t)
      ∧ (s.copies = [] → (∀ x ∈ s.ops, x.2.group = o.group → x = (id, o)) → unparked →
        ∃ t, exec (.variableOpComplete id) s = .next t ∧ done t ∧ shown t ∧ fresh t))
    ∧ (∀ a m, o.kind = .drain a m →
      (s.coreOwes o.group id a m = true → ∃ t o', exec (.variableOpComplete id) s = .next t
        ∧ mapGet? t.ops id = some o' ∧ o'.kind = o.kind ∧ SameMemory s t)
      ∧ (s.copies = [] → s.ops = [(id, o)] → ∃ t, exec (.variableOpComplete id) s = .next t ∧ done t ∧ SameMemory s t ∧ fresh t)))

/-- R167 to R170: XBEGIN opens a transaction in each active lane, with the fallback its label gives and empty sets, and in
no other lane; XEND puts the commit in flight; XABORT aborts the active lanes' open transactions with code 7 and the user
code A[7:0]. -/
def Obligations.Transactions : Prop :=
  ∀ f : Fields,
    Starts (.xbegin f) (fun _ _ => True) (fun _ c e => e.kind = none ∧ Bare e ∧ e.holds = false ∧ e.place = none
      ∧ ∀ t n h, mapGet? t.groups c.key = some h → ∃ h', mapGet? (e.now t n).groups c.key = some h'
        ∧ (∀ l, l < 32 → c.active.getLsbD l = true → ∃ x, laneOf h'.tx l = some x
          ∧ x.fallback = c.pc + 16#64 + 16#64 * f.imm.signExtend 64 ∧ x.seq = c.seq ∧ x.lines = [] ∧ x.reads = []
          ∧ x.writes = [])
        ∧ (∀ l, l < 32 → c.active.getLsbD l = false → laneOf h'.tx l = laneOf h.tx l)
        ∧ h' = { h with tx := h'.tx, series := h'.series } ∧ SameMemory t (e.now t n))
    ∧ Starts (.xend f) (fun _ _ => True) (fun _ _ e => e.kind = some .xend ∧ Bare e ∧ e.holds = false ∧ e.place = none)
    ∧ Starts (.xabort f) (fun _ _ => True) (fun s c e => e.kind = none ∧ Bare e ∧ e.holds = false ∧ e.place = none
      ∧ ∀ t n, e.now t n = (lanesOf (s.txLanes c.key c.active)).foldl
          (fun (u : State) l => u.abortTx c.key l 7 (low 8 (opA s c l)).toNat) t)

/-- R170: an abort drops the transaction and its stores, writes the code, the user code and the count of conflicts to
%xcode, sends the lane to its fallback, and changes no memory, no register and no other group. -/
def Sys2Proof.Stated.AbortsDiscard : Prop :=
  ∀ s key l code user g x, l < 32 → mapGet? s.groups key = some g → laneOf g.tx l = some x → code < 11 → user < 256 →
    (let n := if (laneOf g.series l).fallback = x.fallback then (laneOf g.series l).conflicts else 0
    let n' := if code = 1 ∨ code = 2 then min 255 (n + 1) else n
    ∃ g', mapGet? (s.abortTx key l code user).groups key = some g' ∧ laneOf g'.tx l = none
      ∧ laneOf g'.xcode l = BitVec.ofNat 32 (code + 256 * user + 65536 * n')
      ∧ (lanesAt g' x.fallback).getLsbD l = true
      ∧ (∀ k, k < 32 → k ≠ l → laneOf g'.tx k = laneOf g.tx k ∧ laneOf g'.xcode k = laneOf g.xcode k)
      ∧ g' = { g with
          tx := g'.tx, series := g'.series, xcode := g'.xcode, table := g'.table, parked := g'.parked, waiting := g'.waiting
          snaps := g'.snaps }
      ∧ SameMemory s (s.abortTx key l code user) ∧ SameOthers key s (s.abortTx key l code user))

/-- R168 to R170, R261: an XEND of one lane whose lines no home holds, and no acknowledgement of which is missing,
commits when every value the lane read still stands: at that one point what the lane stored is the latest and every
die sees it, no other latest byte has changed, and %xcode is 0. It aborts with code 2 when a value does not stand, and
then memory is as before. While an acknowledgement is missing nothing is committed. -/
def Sys2Proof.Stated.CommitOrAbort : Prop :=
  ∀ s id o l g x, Ready s id o → o.kind = .xend → o.left = true → l < 32 → o.active = BitVec.ofNat 32 (2 ^ l) →
    o.res = [] → mapGet? s.groups o.group = some g → g.engine = .partition → laneOf g.tx l = some x → x.seq ≤ o.seq →
    s.reds = [] → x.frozen = false → s.xendWaits id o = false → g.barExec = [] →
    ((s.xendMissing o ≠ 0#8 → ∃ t, exec (.variableOpComplete id) s = .next t ∧ mapGet? t.groups o.group = some g
        ∧ (∃ o', mapGet? t.ops id = some o' ∧ o'.kind = .xend ∧ o'.mask = s.xendMissing o) ∧ SameMemory s t)
    ∧ (s.xendMissing o = 0#8 → (∀ r ∈ x.reads, s.latestByte r.1 = r.2) → SlicesHoldDirty s → (∀ r ∈ s.log, r.parked = false) →
      (∀ w ∈ x.writes, placeOf s w.1 = .near ∨ placeOf s w.1 = .far ∨ placeOf s w.1 = .cream ∨ placeOf s w.1 = .hostWindow) →
      x.writes.Pairwise (fun v w => v.1 ≠ w.1) → ∃ t g', exec (.variableOpComplete id) s = .next t
        ∧ mapGet? t.groups o.group = some g' ∧ laneOf g'.tx l = none ∧ laneOf g'.xcode l = 0#32
        ∧ mapGet? t.ops id = none ∧ (x.writes = [] → SameMemory s t)
        ∧ (∀ w ∈ x.writes, t.latestByte w.1 = w.2 ∧ ∀ d, d < 8 → t.viewByte d w.1 = w.2)
        ∧ ∀ a, (∀ w ∈ x.writes, w.1 ≠ a) → t.latestByte a = s.latestByte a)
    ∧ ((∃ r ∈ x.reads, s.latestByte r.1 ≠ r.2) → ∃ t g', exec (.variableOpComplete id) s = .next t
        ∧ mapGet? t.groups o.group = some g' ∧ laneOf g'.tx l = none ∧ (laneOf g'.xcode l).setWidth 8 = 0x02#8
        ∧ SameMemory s t))

/-- R173, R174: the barrier words: each waits (or, for BARA, goes on) at the barrier its MOD[5:3], its cluster or its die
names; a count that the open barrier was not opened with, or above the barrier's limit (the team's groups, 256, 512), is
the barrier-mismatch trap 0x0A when the group, or with BARD its team, would arrive (of BARC and BARD the detail is the
model's choice: log 86). (When an arrival counts: log 23.) -/
def Sys2Proof.Stated.Barriers : Prop :=
  ∀ f : Fields,
    Starts (.bar f) (fun s c => barTraps s c = false) (fun _ _ e => Bare e ∧ e.kind = some (.barWait f.modHi))
    ∧ Starts (.bara f) (fun s c => barTraps s c = false) (fun _ _ e => Bare e ∧ e.kind = some (.barArrive f.modHi))
    ∧ Starts (.barc f) (fun s c => barTraps s c = false) (fun _ _ e => Bare e ∧ e.kind = some .barcWait)
    ∧ Starts (.bard f) (fun s c => barTraps s c = false) (fun _ _ e => Bare e ∧ e.kind = some .bardWait)
    ∧ (∀ i s s' c u, Issues i s s' c → (s.group c.key).engine = .partition → olderFaults s c = false →
      s.team? (s.group c.key).team = some u → (s.group c.key).liveMask &&& ~~~c.active = 0#32 →
      (let g := s.group c.key
      let a := (low 32 (opA s c (firstLane c.active))).toNat
      let refuses (x : Barrier) (party limit detail : Nat) : Prop :=
        (x.arrived.contains party && x.isOpen) = false →
        (x.isOpen = true ∧ a ≠ x.count ∨ limit < if x.isOpen then x.count else a) →
        exec i s = .next (s.takeTrap c.key c.pc c.lanes 0x0A#8 (BitVec.ofNat 32 detail))
      (i ∈ [Instr.bar f, .bara f] → (∀ p ∈ s.ops, p.2.group ≠ c.key) →
        refuses (vget u.bars f.modHi Barrier.closed) (groupParty g) u.ngrp f.modHi)
      ∧ (i = .barc f → (∀ p ∈ s.ops, p.2.group ≠ c.key) →
        refuses (mapGet (s.cluster (clusterOf c.key)).cluBar u.grid Barrier.closed) (groupParty g) 256 0)
      ∧ (i = .bard f → s.ops = [] → u.saved = [] → mapSorted s.groups = true → (∀ p ∈ s.liveGroupsOf g.team, p.1 ≠ c.key → p.2.reachedBar 9 = true) →
        refuses (mapGet (s.die (dieOf c.key)).dieBar u.grid Barrier.closed) g.team 512 1)))

/-- R173, R174: an arrival at a barrier of a team, a cluster or a die, of a group or, at a die's, of its team: it
opens a closed one with its count. The barrier completes and closes when the arrivals make the count, or with count 0
when every group (at a die's, every team) that has not exited has arrived, no other having reached it again; the lanes
that wait there, of every group that has arrived, then go on, each such group's epoch advanced. Else the party is one
more that has arrived, with the accesses its release covers (R175). A halted die's barrier does not complete. (An
arrival counts once the group's older accesses have passed their fault points, and what it releases is awaited behind
the barrier: log 23; where a group executes on several paths the last count stands: log 79.) -/
def Sys2Proof.Stated.BarrierArrival : Prop :=
  ∀ s key at_ g u, mapSorted s.groups = true → mapSorted s.teams = true → mapGet? s.groups key = some g →
    g.engine = .partition → s.team? g.team = some u → at_ ∈ s.barsOf key → g.executedBar at_.slot ≠ 0#32 →
    (let ofDie : Bool := at_.slot == 9
    let x := s.barrier at_
    let party := if ofDie then g.team else groupParty g
    let limit := if ofDie then 512 else if at_.slot = 8 then 256 else u.ngrp
    let count := if x.isOpen then x.count else g.countBar at_.slot
    let arrived := (if x.isOpen then x.arrived else []) ++ [party]
    let halted : Prop := ofDie = true ∧ s.dieHalted (dieOf key) = true
    let t := s.tryArrive at_ key
    (ofDie = false → g.reachedBar at_.slot = true ∧ s.barDrained at_ key = true) →
    (ofDie = true → ∀ p ∈ s.liveGroupsOf g.team, p.2.reachedBar at_.slot = true ∧ s.barDrained at_ p.1 = true) →
    (x.isOpen = true → x.arrived.contains party = false ∧ g.countBar at_.slot = x.count) → count ≤ limit →
    (¬halted → (arrived.length = count ∨ count = 0 ∧ ∀ q ∈ s.barParties at_, arrived.contains q = true) →
      (∀ p ∈ s.groups, p.1 ∉ s.barMembers at_ key → p.2.executedBar at_.slot = 0#32) →
      t.barrier at_ = Barrier.closed ∧ SameMemory s t
      ∧ ∀ k h, mapGet? s.groups k = some h → k ∈ s.barGroups at_ →
        k ∈ s.barMembers at_ key ∨ x.isOpen = true ∧ x.arrived.contains (s.barParty at_ k) = true →
        ∃ h', mapGet? t.groups k = some h' ∧ h'.waitingMask at_.place = 0#32
          ∧ (∀ l, l < 32 → (h.waitingMask at_.place).getLsbD l = true → ∃ a, (lanesAt h' a).getLsbD l = true)
          ∧ (h.waitingMask at_.place ≠ 0#32 → h'.epoch = h.epoch + 1))
    ∧ (halted ∨ arrived.length ≠ count ∧ (count = 0 → ∃ q ∈ s.barParties at_, arrived.contains q = false) →
      t.barrier at_ = ⟨true, count, arrived, (if x.isOpen then x.owes else [])
          ++ (s.barMembers at_ key).flatMap (s.barOwes at_)⟩
        ∧ SameMemory s t))

/-- R176: JSET sets its mask to the active lanes, or is the rejoin-busy trap 0x09 when lanes have arrived; JOIN makes
the active lanes of the mask arrive and wait, and lets the others on; JDROP takes the active lanes out; Check releases
the lanes that wait once every lane of the mask has arrived or exited, and then mask and arrivals are empty. (A JOIN
at which no lane waits advances no epoch: log 99.) -/
def Obligations.RejoinMasks : Prop :=
  ∀ f : Fields,
    (let j := f.d.index.toNat % 16
    Starts (.jset f) (fun s c => (oldJoin s c).arrived = 0#32)
      (fun s c e => Does c e (fun g => g.setRejoin j ⟨c.active, 0#32⟩) ∧ e.undo = [.rejoin j (oldJoin s c)])
    ∧ Traps (.jset f) (fun s c => (oldJoin s c).arrived ≠ 0#32) 0x09#8 (fun _ _ => BitVec.ofNat 32 j)
    ∧ Starts (.join f) (fun _ _ => True) (fun s c e => Bare e ∧ e.holds = false
      ∧ e.kind = (if c.active &&& (oldJoin s c).mask = 0#32 then none else some (.joinWait j))
      ∧ (∀ t n, e.now t n = t.checkJoin c.key j)
      ∧ ∃ p, e.place = some p ∧ ∀ t moves h, mapGet? t.groups c.key = some h →
        ((p t moves).group c.key).rejoin j
          = ⟨(oldJoin s c).mask, (oldJoin s c).arrived ||| (c.active &&& (oldJoin s c).mask)⟩)
    ∧ Starts (.jdrop f) (fun _ _ => True) (fun s c e => Bare e ∧ e.kind = none ∧ e.holds = false ∧ e.place = none
      ∧ ∀ t n, e.now t n = (t.modGroup c.key fun g =>
        g.setRejoin j ⟨(oldJoin s c).mask &&& ~~~c.active, (oldJoin s c).arrived⟩).checkJoin c.key j))
    ∧ ∀ s key j g, mapGet? s.groups key = some g → j < 16 →
      ((g.rejoin j).mask ≠ 0#32 → (g.rejoin j).mask &&& ~~~((g.rejoin j).arrived ||| g.exited) = 0#32 →
        ((s.checkJoin key j).group key).rejoin j = ⟨0#32, 0#32⟩
        ∧ ((s.checkJoin key j).group key).waitingMask (.join j) = 0#32 ∧ SameMemory s (s.checkJoin key j))
      ∧ ((g.rejoin j).mask &&& ~~~((g.rejoin j).arrived ||| g.exited) ≠ 0#32 → s.checkJoin key j = s)

/-- R142, R177: WWAIT and UWWAIT hold their group and read a word of each active lane, with the misaligned-access
trap; a lane is satisfied by the first read that meets its condition. Read again with one lane left to satisfy, of a
word in memory: where the condition holds D takes in each lane the word that satisfied it and the group goes on with
its epoch advanced; while a lane's word does not meet it the wait stays. Memory is as before. (The value lands under
the new epoch: log 99.) -/
def Obligations.WordWaits : Prop :=
  ∀ f : Fields, (∀ i ∈ [Instr.wwait f, .uwwait f],
      Starts i (fun s c => ∀ l ∈ lanesOf c.active, (address s c l).toNat % 4 = 0)
        (fun s c e => e.holds = true ∧ e.place = none ∧ Writes c true e.res
          ∧ e.acc = (lanesOf c.active).map (fun l => { newAccess l (address s c l) 4 (opC s c l) none with val := notRead })
          ∧ ∃ ops, e.kind = some (.wwait f.modHi ops) ∧ ∀ l, l < 32 → laneOf ops l = low 32 (opC s c l))
      ∧ ∀ l, Traps i (fun s c => Lowest c (fun l => (address s c l).toNat % 4 != 0) l) 0x06#8 fun _ _ => BitVec.ofNat 32 l)
    ∧ (∀ x y : Word, wwaitHolds 0 x y = decide (x = y) ∧ wwaitHolds 1 x y = decide (x ≠ y)
      ∧ wwaitHolds 2 x y = decide (x.toInt < y.toInt) ∧ wwaitHolds 3 x y = decide (y.toInt ≤ x.toInt)
      ∧ wwaitHolds 4 x y = decide (x.toNat < y.toNat) ∧ wwaitHolds 5 x y = decide (y.toNat ≤ x.toNat))
    ∧ ∀ s id o cond ops, Ready s id o → o.kind = .wwait cond ops → s.reds = [] →
      (∀ a ∈ o.acc, a.lane < 32 ∧ s.readsPoison a.paNat = false ∧ (placeOf s a.paNat = .near ∨ placeOf s a.paNat = .far
        ∨ placeOf s a.paNat = .cream ∨ placeOf s a.paNat = .hostWindow)) → o.acc.Pairwise (fun a b => a.lane ≠ b.lane) →
      (let word (a : Access) : Word := low 32 (numberAt (s.viewByte (dieOf o.group)) a.paNat 4)
      (∀ a r, o.toDo = [a] → wwaitHolds cond (word a) (laneOf ops a.lane) = true → o.res = [r] → r.width = 32 →
        (s.group o.group).barExec = [] → ∃ t, exec (.variableOpComplete id) s = .next t ∧ mapGet? t.ops id = none
          ∧ SameMemory s t ∧ (t.group o.group).epoch = (s.group o.group).epoch + 1
          ∧ ∀ b ∈ o.acting, r.lanes.getLsbD b.lane = true →
            HoldsValue t o r b.lane (if b.lane = a.lane then (word a).setWidth 128 else b.val))
      ∧ (∀ a ∈ o.toDo, wwaitHolds cond (word a) (laneOf ops a.lane) = false → ∃ t o', exec (.variableOpComplete id) s = .next t
          ∧ mapGet? t.ops id = some o' ∧ o'.kind = o.kind ∧ t.groups = s.groups ∧ SameMemory s t))

/-- R178: CBPOST adds the active lanes' counts to its barrier's balance and tests the waiters; CBWAIT holds its group
at its barrier; of both pipes. -/
def Sys2Proof.Stated.ByteBarrierWords : Prop :=
  ∀ f : Fields,
    (∀ i ∈ [Instr.cbpost f, .ucbpost f], Starts i (fun _ _ => True) fun s c e => e.kind = none ∧ Bare e ∧ e.holds = false
      ∧ e.place = none ∧ ∀ t n u, mapGet? t.groups c.key = some (t.group c.key) → t.team? (t.group c.key).team = some u →
        (let team := (t.group c.key).team
        let sum : Nat := ((lanesOf c.active).map fun l => (low 32 (opA s c l)).toNat).sum
        e.now t n = (t.setByteBar team f.modHi ((vget u.cbs f.modHi ByteBarrier.zero).post sum)).cbCheck team f.modHi))
    ∧ (∀ i ∈ [Instr.cbwait f, .ucbwait f], Starts i (fun _ _ => True) fun _ _ e =>
      Bare e ∧ e.kind = some (.cbwait f.modHi) ∧ e.holds = true ∧ e.place = none)

/-- Nothing but one operation holds a group: no other is in flight, and no fault, stop or barrier does. -/
def Sys2Proof.Stated.OnlyHeldBy (s : State) (id : Nat) (o : Op) (g : Group) : Prop :=
  (∀ x ∈ s.ops, x.2.group = o.group → x = (id, o)) ∧ g.fault = none ∧ g.stop = none ∧ g.waiting = [] ∧ g.barExec = []

/-- R178: a post raises the balance and sets the posted bit, an arrival lowers the balance; the barrier is complete
when it is posted and balanced; it overruns below zero once posted, or beyond 48 bits. A CBWAIT passes a barrier that
is neither posted nor unbalanced, and ends with the barrier-overrun trap 0x0B at its own address, its detail the barrier's
number and the barrier cleared, where it has overrun (once no older access of its group can still fault). -/
def Sys2Proof.Stated.ByteBarriers : Prop :=
  (∀ (b : ByteBarrier) (n : Nat), b.post n = settled (b.balance + n) true b.overrun
    ∧ b.arrive n = settled (b.balance - n) b.posted (b.overrun || (b.posted && b.balance - n < 0)))
  ∧ ∀ s id o b g u, mapGet? s.ops id = some o → o.due ≤ s.now → o.ackLost = none → o.kind = .cbwait b → b < 8 →
    mapGet? s.groups o.group = some g → s.team? g.team = some u →
    (let x := vget u.cbs b ByteBarrier.zero
    (x.overrun = false → x.posted = false → x.balance = 0 → OnlyHeldBy s id o g → ∃ t, exec (.variableOpComplete id) s = .next t
      ∧ mapGet? t.ops id = none ∧ (t.group o.group).wait = none ∧ (t.group o.group).epoch = g.epoch + 1 ∧ SameMemory s t)
    ∧ (x.overrun = false → (x.posted = true ∨ x.balance ≠ 0) → exec (.variableOpComplete id) s = .next s)
    ∧ (x.overrun = true → s.olderFault o.group o.seq = false → g.engine = .partition → g.trap.hm = false → ∃ t u',
      exec (.variableOpComplete id) s = .next t ∧ t.team? g.team = some u' ∧ vget u'.cbs b ByteBarrier.zero = ⟨0, false, false⟩
      ∧ (g.trap.vec = 0#64 → t.agenda.head? = some (.teamEnd g.team 0x010B#16))
      ∧ (g.trap.vec ≠ 0#64 → (∀ l, l < 32 → laneOf g.tx l = none) → (t.group o.group).trap
        = ⟨true, 0x0B#8, BitVec.ofNat 32 b, o.pc, o.lanes, g.trap.vec⟩)))

/-- R164 to R166, R260: fences and drains, at issue and when they complete. -/
def Obligations.Ordering : Prop := Sys2Proof.Stated.Fences ∧ Sys2Proof.Stated.FencesComplete

/-- R168 to R170: transactions that abort and that commit. -/
def Obligations.TransactionsEnd : Prop := Sys2Proof.Stated.AbortsDiscard ∧ Sys2Proof.Stated.CommitOrAbort

/-- R173, R174: barrier words and arrivals. -/
def Obligations.GroupBarriers : Prop := Sys2Proof.Stated.Barriers ∧ Sys2Proof.Stated.BarrierArrival

/-- R178: byte-counting barriers. -/
def Obligations.ByteCountingBarriers : Prop := Sys2Proof.Stated.ByteBarrierWords ∧ Sys2Proof.Stated.ByteBarriers

/-! ## Engines, work creation and the system -/

namespace Sys2Proof.Stated

open Machine

/-- A of a uniform word, as a 32-bit number. -/
def uA (s : State) (c : Ctx) : Nat := (low 32 (opA s c 0)).toNat
/-- B of a uniform word. -/
def uB (s : State) (c : Ctx) : Nat := (low 32 (opB s c 0)).toNat
/-- C of a uniform word. -/
def uC (s : State) (c : Ctx) : Nat := (low 32 (opC s c 0)).toNat
/-- A of a word that reads it once: from the lowest active lane (spec/08 R211). -/
def firstA (s : State) (c : Ctx) : Nat := (low 32 (opA s c (firstLane c.active))).toNat

/-- The operand-range trap 0x0F of a word whose field 2 A, 3 B, 4 C or 5 IMM is out of range (spec/08 R179). -/
def RangeTraps (i : Instr) (when_ : State → Ctx → Prop) (field : Nat) : Prop :=
  Traps i when_ 0x0F#8 fun _ _ => BitVec.ofNat 32 field

/-- The privilege trap 0x10. -/
def PrivTraps (i : Instr) (when_ : State → Ctx → Prop) : Prop := Traps i when_ 0x10#8 fun _ _ => 0#32

/-- Reads or writes of the bytes from an address on, all of them and none twice, no access crossing a 16-byte unit. -/
def Covers (acc : List Access) (l : Nat) (va : VAddr) (n : Nat) : Prop :=
  (acc.filter fun a => a.lane == l).flatMap (fun a => vaRun a.va a.size) = vaRun va n
    ∧ ∀ a ∈ acc, a.lane = l → a.va.toNat % 16 + a.size ≤ 16

/-- The word of `i` reads or writes `n` bytes at lane 0's address with an operation, which must be a multiple of
`align`. -/
def Buffer (i : Instr) (may : State → Ctx → Prop) (align : Nat) (n : State → Ctx → Nat) (kind : State → Ctx → OpKind) :
    Prop :=
  Starts i (fun s c => may s c ∧ (address s c 0).toNat % align = 0)
    (fun s c e => e.res = [] ∧ e.kind = some (kind s c) ∧ e.holds = false ∧ e.place = none
      ∧ (∀ a ∈ e.acc, a.lane = 0) ∧ Covers e.acc 0 (address s c 0) (n s c))
  ∧ Traps i (fun s c => may s c ∧ (address s c 0).toNat % align ≠ 0) 0x06#8 fun _ _ => 0#32

/-- An operation is put in flight that makes no access, with nothing else. -/
def Puts (e : Effect) (kind : OpKind) (holds : Bool) : Prop :=
  Bare e ∧ e.kind = some kind ∧ e.holds = holds ∧ e.place = none ∧ ∀ t n, e.now t n = t

/-- An operation is put in flight whose result is a value known at issue. -/
def Brings (c : Ctx) (e : Effect) (kind : OpKind) (holds : Bool) (v : Nat) : Prop :=
  e.acc = [] ∧ e.kind = some kind ∧ e.holds = holds ∧ e.place = none
    ∧ ∃ r, e.res = [r] ∧ ResultIs c r fun _ => BitVec.ofNat 128 v

/-- A macro-operation at the end of the queue of the controller that issues it. -/
def Queues (e : Effect) (m : MacroOp) : Prop :=
  Bare e ∧ e.kind = some .churnOp ∧ e.holds = false ∧ e.place = none
    ∧ ∀ t n, e.now t n = t.modChurn (churnIx t.cur.group) fun x => { x with macros := x.macros ++ [{ m with op := n }] }

/-- A format word that holds a reserved value (spec/08 R191). -/
def badFormat (w : Nat) : Prop := w / 8 % 32 ≠ 0 ∨ w % 4 = 3 ∨ w / 4 % 2 = 1 ∧ w % 4 ≠ 0

/-- The active lanes hold one format word. -/
def agree (s : State) (c : Ctx) : Prop := ∀ l ∈ lanesOf c.active, low 32 (opC s c l) = low 32 (opC s c (firstLane c.active))

/-- The format word of the lowest active lane. -/
def formatOf (s : State) (c : Ctx) : Nat := (low 32 (opC s c (firstLane c.active))).toNat

/-- Frame `i` from now on that a session sends on port `v`: its header, its message sealed under the session's keys (a key
agreement's before it has keys goes as it is: log 16), what it travels in, and its mark. -/
def frameOf (s : State) (n v i kind : Nat) (seq ack : Word) (m : List Byte) : Sent :=
  let x := s.session n
  let h := [1#8, BitVec.ofNat 8 kind] ++ leBytes 2 n ++ leBytes 4 seq.toNat ++ leBytes 4 ack.toNat ++ leBytes 2 m.length
    ++ List.replicate 18 0#8
  let body := if kind = 3 ∧ x.keys.send.key = [] then m else x.keys.send.seal (x.sent + i) h m
  .whey v (x.outer v (h ++ body)) h body (decide (i = 0) && x.keys.mark)

/-- An open Whey session of the group's context. -/
def sessionOpen (s : State) (c : Ctx) (n : Nat) : Prop := s.wheyOpen c.key n = true

end Sys2Proof.Stated

/-- R187, R188: TCOPY reads its 64-byte record, with the step value of C; TCLOSE closes the open batch, whose number
is the group's next; TWAIT closes it too and holds its group until at most min(A, 15) batches are outstanding. -/
def Sys2Proof.Stated.CopyWords : Prop :=
  ∀ f : Fields,
    Buffer (.tcopy f) (fun _ _ => True) 64 (fun _ _ => 64) (fun s c => .tcopy (low 32 (opC s c 0)))
    ∧ Starts (.tclose f) (fun _ _ => True) (fun _ c e => Does c e Group.closeBatch)
    ∧ Starts (.twait f) (fun _ _ => True) (fun s c e => Bare e ∧ e.kind = some (.twait (min 15 (uA s c))) ∧ e.holds = true
      ∧ e.place = none ∧ ∀ t n, e.now t n = (t.modGroup c.key Group.closeBatch).beginWait c.key .twait)
    ∧ ∀ g : Group, (g.openBatch = none → g.closeBatch = g)
      ∧ ∀ b, g.openBatch = some b → g.closeBatch = { g with
        openBatch := none, batches := g.batches ++ [{ b with number := g.nextBatch }], nextBatch := (g.nextBatch + 1) % 65536 }

/-- R188: a TWAIT waits while more than its number of batches are outstanding; then the batches that have completed
retire and the group goes on with its epoch advanced, or takes the copy-error trap 0x0E at the TWAIT's address with the
first error of the oldest of them: the code, the copy's index in its batch and the batch's number in its detail. -/
def Sys2Proof.Stated.BatchWaits : Prop :=
  ∀ s id o n g, mapGet? s.ops id = some o → o.due ≤ s.now → o.ackLost = none → o.kind = .twait n →
    mapGet? s.groups o.group = some g → g.openBatch = none →
    (let live := (g.batches.filter fun b => b.left != 0).length
    (n < live → ∃ t o', exec (.variableOpComplete id) s = .next t ∧ mapGet? t.ops id = some o' ∧ o'.kind = o.kind
      ∧ mapGet? t.groups o.group = some g)
    ∧ (live ≤ n → (∀ b ∈ g.batches, b.left = 0 → b.errors = []) → OnlyHeldBy s id o g → ∃ t, exec (.variableOpComplete id) s = .next t
      ∧ mapGet? t.ops id = none ∧ (t.group o.group).wait = none ∧ (t.group o.group).epoch = g.epoch + 1
      ∧ (t.group o.group).batches = g.batches.filter fun b => b.left != 0)
    ∧ (∀ b i x, live ≤ n → g.batches = [b] → b.left = 0 → b.errors = [(i, x)] → g.engine = .partition →
      g.trap.hm = false → ∃ t, exec (.variableOpComplete id) s = .next t ∧ (t.group o.group).batches = []
      ∧ (g.trap.vec = 0#64 → t.agenda.head? = some (.teamEnd g.team 0x010E#16))
      ∧ (g.trap.vec ≠ 0#64 → (∀ l, l < 32 → laneOf g.tx l = none) → (t.group o.group).trap
        = ⟨true, 0x0E#8, BitVec.ofNat 32 (x + 256 * i + 65536 * b.number), o.pc, o.lanes, g.trap.vec⟩)))

/-- R191, R193: TFEED takes a slot and moves 64 bytes of each lane that supplies any; `.stab` registers the array of
the lowest active lane; a disagreement among the lanes is the format-divergence trap 0x0C, a reserved format the
operand-range trap with detail 4, and an address off 64 bytes the misaligned-access trap. (What `.stab` checks: log
70; the order of the traps: log 110.) -/
def Sys2Proof.Stated.FeedWords : Prop :=
  ∀ f : Fields,
    (let supplies (l : Nat) : Prop := l < if f.modHi = 0 then 32 else if f.modHi = 1 then 16 else 4
    Starts (.tfeed f)
      (fun s c => agree s c ∧ ¬badFormat (formatOf s c)
        ∧ ∀ l ∈ lanesOf c.active, supplies l → (address s c l).toNat % 64 = 0)
      (fun s c e => e.res = [] ∧ e.kind = some (.tfeed (low 32 (opC s c (firstLane c.active)))) ∧ e.holds = false
        ∧ e.place = none ∧ (∀ a ∈ e.acc, a.lane ∈ lanesOf c.active ∧ supplies a.lane)
        ∧ ∀ l ∈ lanesOf c.active, supplies l → Covers e.acc l (address s c l) 64)
    ∧ (∀ l, Traps (.tfeed f) (fun s c => agree s c ∧ ¬badFormat (formatOf s c)
        ∧ Lowest { c with active := c.active &&& BitVec.ofNat 32 (2 ^ (if f.modHi = 0 then 32 else if f.modHi = 1 then 16 else 4) - 1) }
          (fun l => (address s c l).toNat % 64 != 0) l) 0x06#8 fun _ _ => BitVec.ofNat 32 l)
    ∧ Starts (.tfeedStab f)
      (fun s c => agree s c ∧ ¬badFormat (formatOf s c) ∧ (address s c (firstLane c.active)).toNat % 64 = 0)
      (fun s c e => e.res = [] ∧ e.kind = some (.tfeedStab (formatOf s c / 256 % 256)) ∧ e.holds = false ∧ e.place = none
        ∧ ∃ a, e.acc = [a] ∧ a.va = address s c (firstLane c.active))
    ∧ Traps (.tfeedStab f) (fun s c => agree s c ∧ ¬badFormat (formatOf s c)
        ∧ (address s c (firstLane c.active)).toNat % 64 ≠ 0) 0x06#8 (fun _ c => BitVec.ofNat 32 (firstLane c.active))
    ∧ ∀ i ∈ [Instr.tfeed f, .tfeedStab f], Traps i (fun s c => ¬agree s c) 0x0C#8 (fun _ _ => 0#32)
      ∧ RangeTraps i (fun s c => agree s c ∧ badFormat (formatOf s c)) 4)

/-- R194: TDRAIN writes 256 bytes of its claimed tile for each active lane, at addresses that are multiples of 256. -/
def Sys2Proof.Stated.DrainWords : Prop :=
  ∀ f : Fields,
    Starts (.tdrain f) (fun s c => ∀ l ∈ lanesOf c.active, (address s c l).toNat % 256 = 0)
      (fun s c e => e.res = [] ∧ e.kind = some .tdrain ∧ e.holds = false ∧ e.place = none
        ∧ (∀ a ∈ e.acc, a.lane ∈ lanesOf c.active) ∧ ∀ l ∈ lanesOf c.active, Covers e.acc l (address s c l) 256)
    ∧ ∀ l, Traps (.tdrain f) (fun s c => Lowest c (fun l => (address s c l).toNat % 256 != 0) l) 0x06#8
      fun _ _ => BitVec.ofNat 32 l

/-- R195, R196, R199: the controller's macro-operations, their operands in IMM, what each queues, and the
operand-range trap (detail 5) for a count of fed tiles above 8 or a bit that the form does not use, and (detail 4) for
a reserved format. (What the forms check beyond R195 and R196: log 70; of two traps the range's comes first: log 110.) -/
def Obligations.MacroWords : Prop :=
  ∀ f : Fields,
    (let imm := f.imm.toNat
    let n := imm / 16 % 4096
    let bs := f.modHi = 1
    let stream (s : State) (c : Ctx) : VAddr := vget (s.group c.key).s (f.b.index.toNat - 0x60) 0#16 ++ low 64 (opA s c 0)
    let plain (kind : MacroKind) (tile : Nat) : MacroOp := MacroOp.plain kind tile
    let mma (s : State) (c : Ctx) (kind : MacroKind) (fed : Nat) : MacroOp := { plain kind (imm % 16) with
      bs := decide bs, steps := n, q := imm / 2 ^ 16 % 4, e := imm / 2 ^ 18 % 1024, taken := fed
      base := if bs then stream s c else 0#80, bsFmt := if bs then low 32 (opC s c 0) else 0#32 }
    let fedA := if bs then n else 2 * n
    let fedG := if bs then 1 else n + 1
    let fmtGood (s : State) (c : Ctx) : Prop := bs → ¬badFormat (uC s c)
    (n ≠ 0 → fedA ≤ 8 → imm < 2 ^ 16 →
      Starts (.mma f) fmtGood (fun s c e => Queues e (mma s c .mma fedA))
      ∧ RangeTraps (.mma f) (fun s c => bs ∧ badFormat (uC s c)) 4)
    ∧ ((n = 0 ∨ 8 < fedA ∨ 2 ^ 16 ≤ imm) → RangeTraps (.mma f) (fun _ _ => True) 5)
    ∧ (n ≠ 0 → fedG ≤ 8 → imm < 2 ^ 28 →
      Starts (.mmag f) fmtGood (fun s c e => Queues e (mma s c .mmag fedG))
      ∧ RangeTraps (.mmag f) (fun s c => bs ∧ badFormat (uC s c)) 4)
    ∧ ((n = 0 ∨ 8 < fedG ∨ 2 ^ 28 ≤ imm) → RangeTraps (.mmag f) (fun _ _ => True) 5)
    ∧ (imm < 16 → Starts (.mzero f) (fun _ _ => True) (fun _ _ e => Queues e (plain .mzero imm))
      ∧ Starts (.mmovDrain f) (fun _ _ => True) (fun _ _ e => Queues e (plain .mmovDrain imm))
      ∧ Starts (.mld f) (fun s c => (stream s c).toNat % 128 = 0)
        (fun s c e => Queues e { plain .mld imm with steps := 8, base := stream s c })
      ∧ Starts (.mst f) (fun s c => (stream s c).toNat % 128 = 0)
        (fun s c e => Queues e { plain .mst imm with steps := 8, base := stream s c })
      ∧ Traps (.mld f) (fun s c => (stream s c).toNat % 128 ≠ 0) 0x06#8 (fun _ _ => 0#32)
      ∧ Traps (.mst f) (fun s c => (stream s c).toNat % 128 ≠ 0) 0x06#8 (fun _ _ => 0#32))
    ∧ (16 ≤ imm → ∀ i ∈ [Instr.mzero f, .mmovDrain f, .mld f, .mst f], RangeTraps i (fun _ _ => True) 5)
    ∧ (imm < 256 → Starts (.mmovCopy f) (fun _ _ => True)
      (fun _ _ e => Queues e { plain .mmovCopy (imm % 16) with q := imm / 16 }))
    ∧ (256 ≤ imm → RangeTraps (.mmovCopy f) (fun _ _ => True) 5))

/-- R200: LEASE, LREL and LEASEM: what each asks of the activation controller, the operand-range trap of a lease above
4,096, and what is recorded when the controller takes it. -/
def Obligations.LeaseWords : Prop :=
  (∀ f : Fields,
    Starts (.lease f) (fun s c => uA s c ≤ 4096) (fun s c e => Puts e (.lease (uA s c)) false)
    ∧ RangeTraps (.lease f) (fun s c => 4096 < uA s c) 2
    ∧ Starts (.lrel f) (fun _ _ => True) (fun _ _ e => Puts e .lrel false)
    ∧ Starts (.leasem f) (fun _ _ => True) (fun _ c e => Brings c e .leasem false 0))
  ∧ ∀ s id o g, mapGet? s.ops id = some o → o.due ≤ s.now → o.ackLost = none → mapGet? s.groups o.group = some g →
    (∀ v, o.kind = .lease v → ∃ t, exec (.variableOpComplete id) s = .next t ∧ mapGet? t.ops id = none
      ∧ (t.group o.group).lease.mode = .declared ∧ (t.group o.group).lease.declared = v ∧ SameMemory s t)
    ∧ (o.kind = .lrel → ∃ t, exec (.variableOpComplete id) s = .next t ∧ mapGet? t.ops id = none
      ∧ (t.group o.group).lease.mode = .declared ∧ (t.group o.group).lease.declared = 0 ∧ SameMemory s t)
    ∧ (∀ r n, o.kind = .leasem → o.res = [r] → r.dest = .uni n → n < 64 → r.lanes = 1#32 → r.width = 32 →
      ∃ t, exec (.variableOpComplete id) s = .next t ∧ mapGet? t.ops id = none
      ∧ (t.group o.group).lease.mode = .measured
      ∧ vget (t.group o.group).q n 0#32 = BitVec.ofNat 32 g.lease.measured ∧ SameMemory s t)

/-- R201, R202: EMIT sends one record of each active lane, of its node's size, to the Rennet; a node that the launch
does not declare is the operand-range trap with detail 4, an address off 4 bytes the misaligned-access trap; ENQ reads
a 64-byte packet for a queue of the group's own context. (Of two traps the range's comes before the misalignment's:
log 110.) -/
def Obligations.WorkCreation : Prop :=
  ∀ f : Fields,
    (let node (s : State) (c : Ctx) (l : Nat) : Nat := (low 32 (opC s c l)).toNat
    let rec_ (s : State) (c : Ctx) (l : Nat) : Option NodeRec := s.nodeRec (s.gridOf c.key) (node s c l)
    let known (s : State) (c : Ctx) (l : Nat) : Prop := node s c l < 65536 ∧ (rec_ s c l).isSome = true
    Starts (.emit f)
      (fun s c => ∀ l ∈ lanesOf c.active, known s c l ∧ (address s c l).toNat % 4 = 0)
      (fun s c e => e.res = [] ∧ e.holds = false ∧ e.place = none
        ∧ (∃ ns, e.kind = some (.emit ns) ∧ ∀ l, l < 32 → laneOf ns l = low 32 (opC s c l))
        ∧ ∀ l ∈ lanesOf c.active, ∀ r, rec_ s c l = some r → Covers e.acc l (address s c l) r.recSize)
    ∧ RangeTraps (.emit f) (fun s c => ∃ l ∈ lanesOf c.active, ¬known s c l) 4
    ∧ (∀ l, Traps (.emit f) (fun s c => (∀ k ∈ lanesOf c.active, known s c k)
        ∧ Lowest c (fun k => (address s c k).toNat % 4 != 0) l) 0x06#8 fun _ _ => BitVec.ofNat 32 l)
    ∧ Buffer (.enq f) (fun s c => uC s c < 256 ∧ (s.queue (uC s c)).ctx.toNat = (s.group c.key).ctx) 64 (fun _ _ => 64)
      (fun s c => .enq (uC s c))
    ∧ RangeTraps (.enq f) (fun s c => 256 ≤ uC s c) 4
    ∧ PrivTraps (.enq f) (fun s c => uC s c < 256 ∧ (s.queue (uC s c)).ctx.toNat ≠ (s.group c.key).ctx))

/-- R203, R204: CREQ takes the lowest free slot of its context for a request of its port, peer and peer port, and
answers the ticket; CAWAIT waits for its ticket at most B microseconds, writing the predicate and the uniform latch;
their range traps. (Which slot is the lowest free one of a context: log 5, log 65; the order of the traps: log 110.) -/
def Sys2Proof.Stated.CircuitRequests : Prop :=
  ∀ f : Fields,
    (let bad (s : State) (c : Ctx) : Prop := uB s c % 65536 / 64 ≠ 0 ∨ 64 ≤ uB s c / 65536
    (∀ slot, Starts (.creq f)
      (fun s c => uA s c < 64 ∧ ¬bad s c ∧ s.freeSlot (s.group c.key).ctx = some slot)
      (fun s c e => Brings c e (.creq slot) false ((s.ticket slot).seq.toNat * 256 + slot)
        ∧ ∀ t n, (e.now t n).ticket slot = { s.ticket slot with
            state := 1, cause := 0#8, swus := 0#16, port := uA s c, peerPkg := uB s c / 65536, peerPort := uB s c % 64
            ctx := (s.group c.key).ctx, releasing := false }))
    ∧ RangeTraps (.creq f) (fun s c => 64 ≤ uA s c) 2
    ∧ RangeTraps (.creq f) (fun s c => uA s c < 64 ∧ bad s c) 3
    ∧ Starts (.cawait f) (fun s c => uB s c ≤ 60000000)
      (fun s c e => e.acc = [] ∧ e.holds = true ∧ e.place = none
        ∧ (∃ q, e.kind = some (.cawait (uA s c % 256) q (if uB s c = 0 then 0 else s.ns + uB s c * 1000))
          ∧ (s.ownsSlot (s.group c.key).ctx (uA s c % 256) = true → q = BitVec.ofNat 24 (uA s c / 256))
          ∧ (s.ownsSlot (s.group c.key).ctx (uA s c % 256) = false → q ≠ (s.ticket (uA s c % 256)).seq))
        ∧ ∃ p l, e.res = [p, l] ∧ p.dest = c.info.dest ∧ p.latch = false ∧ l.dest = .latchOnly ∧ l.latch = true ∧ l.width = 32)
    ∧ RangeTraps (.cawait f) (fun s c => 60000000 < uB s c) 3)

/-- R204: how a CAWAIT ends: code 0 with the predicate true for a live ticket, 2 for one refused, 3 failed, 4 broken
and 5 released or of a stale sequence; a limit of 0 ends it at once with code 1; a ticket in any other state waits. (A
slot of another context counts as a stale ticket: log 26; when the time-out is tested: log 69.) -/
def Sys2Proof.Stated.CircuitWaits : Prop :=
  ∀ s id o g slot q until_ p l n, mapGet? s.ops id = some o → o.due ≤ s.now → o.ackLost = none →
    o.kind = .cawait slot q until_ → mapGet? s.groups o.group = some g → o.res = [p, l] → p.dest = .upred n → n < 4 →
    p.latch = false → p.uniform = true → p.lanes = 1#32 → l.dest = .latchOnly → l.latch = true → l.uniform = true → l.lanes = 1#32 → l.width = 32 →
    (let t := s.ticket slot
    let ends (code : Nat) : Prop := ∃ u, exec (.variableOpComplete id) s = .next u ∧ mapGet? u.ops id = none
      ∧ vget (u.group o.group).h n false = decide (code = 0)
      ∧ (u.group o.group).ulat = ⟨BitVec.ofNat 64 code, false, some (g.epoch + 1), false⟩ ∧ SameMemory s u
    (t.seq ≠ q → ends 5) ∧ (t.seq = q → t.state = 0 → ends 5) ∧ (t.seq = q → t.state = 4 → ends 0)
    ∧ (t.seq = q → t.state = 5 → ends 2) ∧ (t.seq = q → t.state = 6 → ends 3) ∧ (t.seq = q → t.state = 7 → ends 4)
    ∧ (t.seq = q → (t.state = 1 ∨ t.state = 2 ∨ t.state = 3) → until_ = 0 → ends 1)
    ∧ (t.seq = q → (t.state = 1 ∨ t.state = 2 ∨ t.state = 3) → s.ns / 1000 ≤ until_ / 1000 → until_ ≠ 0 →
      ∃ u o', exec (.variableOpComplete id) s = .next u ∧ mapGet? u.ops id = some o' ∧ o'.kind = o.kind ∧ SameMemory s u))

/-- R205, R387: CUSE and CREL by what their ticket names; a CUSE's barrier records the circuit as the word issues,
keeps what it held, and no other barrier changes. -/
def Sys2Proof.Stated.CircuitUse : Prop :=
  ∀ f : Fields,
    (let slot (s : State) (c : Ctx) : Nat := uA s c % 256
    let owns (s : State) (c : Ctx) : Prop := s.ownsSlot (s.group c.key).ctx (slot s c) = true
    let held (s : State) (c : Ctx) : Prop := (s.ticket (slot s c)).state ≠ 0
      ∧ (s.ticket (slot s c)).seq = BitVec.ofNat 24 (uA s c / 256)
    let bar (s : State) (c : Ctx) : Prop := s.ownsClb (s.group c.key).ctx (uB s c) = true
    RangeTraps (.cuse f) (fun s c => 64 ≤ uB s c) 3
    ∧ PrivTraps (.cuse f) (fun s c => uB s c < 64 ∧ (¬owns s c ∨ ¬bar s c))
    ∧ RangeTraps (.cuse f) (fun s c => uB s c < 64 ∧ owns s c ∧ bar s c
        ∧ (¬held s c ∨ (s.ticket (slot s c)).releasing = true)) 2
    ∧ Starts (.cuse f) (fun s c => uB s c < 64 ∧ owns s c ∧ bar s c ∧ held s c ∧ (s.ticket (slot s c)).releasing = false)
      (fun s c e => Bare e ∧ e.kind = some .cuse ∧ e.holds = false ∧ e.place = none
        ∧ ∀ t n, e.now t n = t.useCircuit (slot s c) (uB s c))
    ∧ PrivTraps (.crel f) (fun s c => ¬owns s c)
    ∧ Starts (.crel f) (fun s c => owns s c ∧ ¬held s c) (fun _ _ e => Plain e ∧ Bare e ∧ e.kind = none)
    ∧ Starts (.crel f) (fun s c => owns s c ∧ held s c)
      (fun s c e => Bare e ∧ e.kind = some (.crel (slot s c) (s.ticket (slot s c)).seq) ∧ e.holds = true ∧ e.place = none
        ∧ ∀ t n, ((s.ticket (slot s c)).releasing = true → e.now t n = t)
          ∧ ((s.ticket (slot s c)).releasing = false → (e.now t n).ticket (slot s c)
            = { s.ticket (slot s c) with releasing := true, firstRel := 0 })))
  ∧ (∀ (s : State) n b, n ∈ mapGet (s.useCircuit n b).clbs b [] ∧ (∀ x ∈ mapGet s.clbs b [], x ∈ mapGet (s.useCircuit n b).clbs b [])
    ∧ ∀ k, k ≠ b → mapGet (s.useCircuit n b).clbs k [] = mapGet s.clbs k [])
  ∧ ∀ s id o, mapGet? s.ops id = some o → o.due ≤ s.now → o.ackLost = none → o.kind = .cuse →
    (mapGet? s.groups o.group).isSome = true → ∃ t, exec (.variableOpComplete id) s = .next t ∧ mapGet? t.ops id = none

/-- R206, R362: PLDRAIN and PLJOIN hold their program; a plane number above 15 is the operand-range trap; PLDRAIN is
refused when no other plane is live, and PLJOIN when its plane has no live or gated port. -/
def Obligations.Planes : Prop :=
  (∀ f : Fields,
    Starts (.pldrain f) (fun s c => uA s c < 16) (fun s c e => Brings c e (.pldrain (uA s c) false) true 0)
    ∧ Starts (.pljoin f) (fun s c => uA s c < 16) (fun s c e => Brings c e (.pljoin (uA s c)) true 0)
    ∧ ∀ i ∈ [Instr.pldrain f, .pljoin f], RangeTraps i (fun s c => 16 ≤ uA s c) 2)
  ∧ ∀ s id o r n p, mapGet? s.ops id = some o → o.due ≤ s.now → o.ackLost = none →
    (mapGet? s.groups o.group).isSome = true → o.res = [r] → r.dest = .upred n → n < 4 → r.lanes = 1#32 →
    (let answers (b : Bool) : Prop := ∃ t, exec (.variableOpComplete id) s = .next t ∧ mapGet? t.ops id = none
      ∧ vget (t.group o.group).h n false = b ∧ SameMemory s t
    (o.kind = .pldrain p false → (∀ q, q < 16 → q ≠ p → s.planeLive q = false) → answers false)
    ∧ (∀ b, o.kind = .pldrain p b → p < 16 → (b = true ∨ ∃ q, q < 16 ∧ q ≠ p ∧ s.planeLive q = true) → s.flitsOn p = false →
      answers true)
    ∧ (o.kind = .pljoin p → (∀ k ∈ planePorts p, (s.port k).state < 3) → answers false)
    ∧ (o.kind = .pljoin p → (∃ k ∈ planePorts p, 3 ≤ (s.port k).state) → answers true))

/-- R207: WSEND, WRECV and WPOLL: the message they read or the buffer they are to write, the length WPOLL answers, the
range of a message's length, the privilege trap of a session that is not open in the context, and the alignment of the
buffer. (The order of the three traps: log 110.) -/
def Sys2Proof.Stated.WheyIssue : Prop :=
  ∀ f : Fields,
    (let len (s : State) (c : Ctx) : Nat := uC s c / 65536
    let n (s : State) (c : Ctx) : Nat := uC s c % 65536
    let good (s : State) (c : Ctx) : Prop := 4 ≤ len s c ∧ len s c ≤ 1024 ∧ len s c % 4 = 0
    Buffer (.wsend f) (fun s c => good s c ∧ sessionOpen s c (n s c)) 4 len (fun s c => .wsend (n s c) (len s c))
    ∧ RangeTraps (.wsend f) (fun s c => ¬good s c) 4
    ∧ PrivTraps (.wsend f) (fun s c => good s c ∧ ¬sessionOpen s c (n s c))
    ∧ Starts (.wrecv f) (fun s c => sessionOpen s c (n s c) ∧ (address s c 0).toNat % 4 = 0)
      (fun s c e => e.kind = some (.wrecv (n s c) (len s c)) ∧ e.holds = true ∧ e.place = none ∧ Writes c true e.res)
    ∧ PrivTraps (.wrecv f) (fun s c => ¬sessionOpen s c (n s c))
    ∧ Traps (.wrecv f) (fun s c => sessionOpen s c (n s c) ∧ (address s c 0).toNat % 4 ≠ 0) 0x06#8 (fun _ _ => 0#32)
    ∧ Starts (.wpoll f) (fun s c => sessionOpen s c (n s c)) (fun s c e => Brings c e .nop false
        (((s.session (n s c)).inbox.head?.map List.length).getD 0))
    ∧ PrivTraps (.wpoll f) (fun s c => ¬sessionOpen s c (n s c)))

/-- R207, R337, R339: on an engine without an L1, a WSEND whose accesses may be made ends with the bytes that its die sees
in its buffer handed to the session's transport: the next SEQ, the message kept until it is acknowledged, and its frame on
the session's port; a session that has closed takes nothing. A WRECV waits while the session has no message and while an
older one waits for the same session; then it takes a buffer of as many bytes as the message has, at most C[31:16]. Once
they may be written it ends: the message's bytes stand in the buffer, the message is gone from the session, D is its full
length, and no other latest byte has changed. A session that has closed gives 0. -/
def Sys2Proof.Stated.WheyEnds : Prop :=
  ∀ s id o, Ready s id o → l1Core o.group = none → s.reds = [] → s.opReadsPoison o = false → (s.group o.group).barExec = [] →
    (∀ a ∈ o.acting, a.size ≤ 16 ∧ s.inTx o a.lane = false ∧ s.forwarded o a = none ∧ (placeOf s a.paNat = .near
      ∨ placeOf s a.paNat = .far ∨ placeOf s a.paNat = .cream ∨ placeOf s a.paNat = .hostWindow)) →
    (let d := dieOf o.group
    let waits (P : State → Op → Prop) : Prop := ∃ t o', exec (.variableOpComplete id) s = .next t
      ∧ mapGet? t.ops id = some o' ∧ o'.kind = o.kind ∧ SameMemory s t ∧ t.sessions = s.sessions ∧ P t o'
    (∀ n len, o.kind = .wsend n len →
      (let m := o.acting.flatMap fun a => (List.range a.size).map fun i => s.viewByte d (a.paNat + i)
      let x := s.session n
      ∃ t, exec (.variableOpComplete id) s = .next t ∧ mapGet? t.ops id = none ∧ SameMemory s t
        ∧ (x.state = 2 → (t.session n).unacked = x.unacked ++ [(x.nextSend, m, s.ns, 0)]
          ∧ (t.session n).nextSend = x.nextSend + 1#32 ∧ ∀ v, s.wheyVia n = some v →
            t.outbox = s.outbox ++ [frameOf s n v 0 1 x.nextSend (x.nextRecv - 1#32) m])
        ∧ (x.state ≠ 2 → t.sessions = s.sessions ∧ t.outbox = s.outbox)))
    ∧ ∀ n len, o.kind = .wrecv n len →
      (let x := s.session n
      let older : Prop := ∃ y ∈ s.ops, y.1 < id ∧ ∃ k, y.2.kind = .wrecv n k
      let D (t : State) (v : Nat) : Prop := mapGet? t.ops id = none
        ∧ ∀ r, o.res = [r] → r.lanes.getLsbD 0 = true → r.width ≤ 128 → HoldsValue t o r 0 (BitVec.ofNat 128 v)
      (x.state ≠ 2 → ∃ t, exec (.variableOpComplete id) s = .next t ∧ SameMemory s t ∧ D t 0)
      ∧ (x.state = 2 → x.inbox = [] ∨ older → waits fun _ o' => o'.acc = o.acc)
      ∧ ∀ m rest, x.state = 2 → x.inbox = m :: rest → ¬older →
        (∀ a, o.acc = [a] → a.skip = true → a.size = 0 → a.lane = 0 → 0 < min len m.length →
          (∀ va, s.hitLine o.group (s.group o.group).ctx va = none) →
          waits fun _ o' => o'.walked = false ∧ Covers o'.acc 0 a.va (min len m.length))
        ∧ ((o.acc.length ≠ 1 ∨ min len m.length = 0) → SlicesHoldDirty s →
          o.acting.Pairwise (fun a b => overlaps a.paNat a.size b.paNat b.size = false) →
          ∃ t, exec (.variableOpComplete id) s = .next t ∧ D t m.length ∧ (t.session n).inbox = rest
            ∧ (∀ i a, o.acting[i]? = some a → ∀ b, b < a.size → t.viewByte d (a.paNat + b)
              = (m[((o.acting.take i).map (·.size)).sum + b]?).getD 0#8 ∧ t.latestByte (a.paNat + b)
              = (m[((o.acting.take i).map (·.size)).sum + b]?).getD 0#8)
            ∧ ∀ y, (∀ a ∈ o.acting, y < a.paNat ∨ a.paNat + a.size ≤ y) → t.latestByte y = s.latestByte y)))

/-- R207, R337, R339: the Whey words at issue, and how a WSEND and a WRECV complete. -/
def Obligations.WheyWords : Prop := Sys2Proof.Stated.WheyIssue ∧ Sys2Proof.Stated.WheyEnds

/-- R208, R388: TMR: `.read` brings the package timer in ns; `.set` and `.cancel` change their timer of the context,
and `.cancel` ends the waits on it at once; `.wait` holds the program; a timer above 7 is the operand-range trap; a
`.wait` passes at once on a timer that is not armed. -/
def Obligations.Timers : Prop :=
  (∀ f : Fields,
    Starts (.tmrRead f) (fun _ _ => True) (fun s c e => Brings c e .nop false s.ns)
    ∧ Starts (.tmrSet f) (fun s c => uA s c < 8) (fun s c e => Bare e ∧ e.kind = none ∧ e.holds = false ∧ e.place = none
      ∧ ∀ t n x, t.context (t.group c.key).ctx = some x → (t.ns = s.ns → (e.now t n).context (t.group c.key).ctx
        = some { x with timers := x.timers.setIfInBounds (uA s c) (some (s.ns + uB s c * 1000)) }))
    ∧ Starts (.tmrCancel f) (fun s c => uA s c < 8) (fun s c e => Bare e ∧ e.kind = none ∧ e.holds = false ∧ e.place = none
      ∧ ∀ t n x, t.context (t.group c.key).ctx = some x → (e.now t n).context (t.group c.key).ctx
          = some { x with timers := x.timers.setIfInBounds (uA s c) none }
        ∧ ∀ y ∈ t.ops, y.2.kind = .tmrWait (uA s c) → (t.group y.2.group).ctx = (t.group c.key).ctx →
          mapGet? (e.now t n).ops y.1 = none)
    ∧ Starts (.tmrWait f) (fun s c => uA s c < 8) (fun s c e => Puts e (.tmrWait (uA s c)) true)
    ∧ ∀ i ∈ [Instr.tmrSet f, .tmrCancel f, .tmrWait f], RangeTraps i (fun s c => 8 ≤ uA s c) 2)
  ∧ ∀ s id o n, mapGet? s.ops id = some o → o.due ≤ s.now → o.ackLost = none → o.kind = .tmrWait n →
    (mapGet? s.groups o.group).isSome = true →
    (s.timerArmed (s.group o.group).ctx n = false → ∃ t, exec (.variableOpComplete id) s = .next t ∧ mapGet? t.ops id = none)
    ∧ (s.timerArmed (s.group o.group).ctx n = true → ∃ t o', exec (.variableOpComplete id) s = .next t
      ∧ mapGet? t.ops id = some o' ∧ o'.kind = o.kind)

/-- R209, R275, R372: EVTAKE holds its program while there is no event, and during a firmware update; it takes the
event whose queue has the highest PRIO, the oldest of equal ones, into D, and held events enter the queue as it has
room. EVPOST posts the event of A; QLOCK holds until the queue's lock is free and takes it; QFREE frees a lock that
this core holds, else it is the operand-range trap. -/
def Obligations.CommandCores : Prop :=
  (∀ f : Fields,
    Starts (.evtake f) (fun _ _ => True) (fun _ c e => Brings c e .evtake true 0)
    ∧ Starts (.evpost f) (fun _ _ => True) (fun s c e => Bare e ∧ e.kind = none ∧ e.holds = false ∧ e.place = none
      ∧ ∀ t n, e.now t n = t.postEvent (low 64 (opA s c 0)))
    ∧ Starts (.qlock f) (fun _ _ => True) (fun s c e => Puts e (.qlock (uA s c % 256)) true)
    ∧ Starts (.qfree f) (fun s c => mapGet? s.qlocks (uA s c % 256) = some c.key)
      (fun s c e => Bare e ∧ e.kind = none ∧ e.holds = false ∧ e.place = none
        ∧ ∀ t n, mapGet? (e.now t n).qlocks (uA s c % 256) = none)
    ∧ RangeTraps (.qfree f) (fun s c => mapGet? s.qlocks (uA s c % 256) ≠ some c.key) 2)
  ∧ (∀ (s : State) x, s.events.length < 4096 → s.heldEvts = [] →
    s.postEvent x = { s with events := s.events ++ [x] })
  ∧ ∀ s id o, mapGet? s.ops id = some o → o.due ≤ s.now → o.ackLost = none → (mapGet? s.groups o.group).isSome = true →
    (let prio (e : DWord) : Nat := (s.queue (e.extractLsb' 48 8).toNat).prio.toNat
    (∀ pre e post, o.kind = .evtake → s.fw.quiesced = false → s.events = pre ++ [e] ++ post → (∀ x ∈ pre, prio x < prio e) →
      (∀ x ∈ post, prio x ≤ prio e) → ∃ t, exec (.variableOpComplete id) s = .next t ∧ mapGet? t.ops id = none
        ∧ (∀ r, o.res = [r] → r.lanes.getLsbD 0 = true → r.width ≤ 128 → HoldsValue t o r 0 (e.setWidth 128))
        ∧ (let room := 4096 - (pre ++ post).length
          t.events = pre ++ post ++ s.heldEvts.take room ∧ t.heldEvts = s.heldEvts.drop room))
    ∧ (o.kind = .evtake → (s.events = [] ∨ s.fw.quiesced = true) → ∃ t o', exec (.variableOpComplete id) s = .next t
      ∧ mapGet? t.ops id = some o' ∧ o'.kind = o.kind ∧ t.events = s.events))
    ∧ (∀ q, o.kind = .qlock q → mapGet? s.qlocks q = none → ∃ t, exec (.variableOpComplete id) s = .next t
      ∧ mapGet? t.qlocks q = some o.group ∧ mapGet? t.ops id = none)
    ∧ (∀ q k, o.kind = .qlock q → mapGet? s.qlocks q = some k → ∃ t o', exec (.variableOpComplete id) s = .next t
      ∧ mapGet? t.qlocks q = some k ∧ mapGet? t.ops id = some o' ∧ o'.kind = o.kind)

/-- R211: TRAP and UTRAP take the user trap 0x11 at the address their selector gives, with detail A[15:0]; BKPT and
UBKPT the breakpoint trap 0x12, or, with a debugger attached, the stop; YIELD and UYIELD make their group ineligible
for A cycles, or for one pass when A is 0; A out of range is the operand-range trap. -/
def Sys2Proof.Stated.TrapsByInstruction : Prop :=
  ∀ f : Fields,
    (∀ i ∈ [Instr.trap f, .utrap f],
      Starts i (fun s c => firstA s c < 65536) (fun s c e => Bare e ∧ e.kind = none ∧ (∀ t n, e.now t n = t)
        ∧ ∃ p, e.place = some p ∧ ∀ t a m, p t [(a, m)] = (t.modGroup c.key fun g => g.placeAll [(a, m)]).takeTrap c.key a
          c.lanes 0x11#8 (BitVec.ofNat 32 (firstA s c)))
      ∧ RangeTraps i (fun s c => 65536 ≤ firstA s c) 2)
    ∧ (∀ i ∈ [Instr.bkpt f, .ubkpt f],
      Starts i (fun _ _ => True) (fun s c e => Bare e ∧ e.kind = none ∧ (∀ t n, e.now t n = t)
        ∧ ∃ p, e.place = some p ∧ ∀ t a m, p t [(a, m)] =
          (let u := t.modGroup c.key fun g => g.placeAll [(a, m)]
          if s.attachedTo c.key then u.stopGroup c.key a c.lanes else u.takeTrap c.key a c.lanes 0x12#8 0#32)))
    ∧ (∀ i ∈ [Instr.yield f, .uyield f],
      Starts i (fun s c => firstA s c ≤ 1024) (fun s c e => Bare e ∧ e.kind = none ∧ e.holds = false ∧ e.place = none
        ∧ ∀ t n, e.now t n = t.modGroup c.key fun g => if firstA s c = 0 then { g with yieldPass := true }
          else { g with yieldEnd := t.timeOf c.key + firstA s c + 1 })
      ∧ RangeTraps i (fun s c => 1024 < firstA s c) 2)

/-- R212 to R214: ERET returns from handler mode and is the privilege trap elsewhere; HALT ends its team with 0x0100
plus the cause in handler mode, stops the circuit processor or its command core, and is the privilege trap on a
partition outside handler mode. -/
def Sys2Proof.Stated.PrivilegedWords : Prop :=
  ∀ f : Fields,
    (let hm (s : State) (c : Ctx) : Bool := (s.group c.key).trap.hm
    let engine (s : State) (c : Ctx) : EngineKind := (s.group c.key).engine
    let group (s : State) (c : Ctx) : Prop := engine s c = .partition ∨ engine s c = .churn
    Starts (.eret f) (fun s c => hm s c = true) (fun _ c e => Bare e ∧ e.kind = none ∧ (∀ t n, e.now t n = t)
      ∧ ∃ p, e.place = some p ∧ ∀ t m, p t m = t.returnFromTrap c.key)
    ∧ PrivTraps (.eret f) (fun s c => hm s c = false)
    ∧ Starts (.halt f) (fun s c => group s c ∧ hm s c = true) (fun s c e => Bare e ∧ e.kind = none ∧ e.place = none
      ∧ ∀ t n, e.now t n = t.haltTeam (s.group c.key).team (0x0100#16 + (s.group c.key).trap.cause.setWidth 16))
    ∧ Starts (.halt f) (fun s c => engine s c = .circuit) (fun _ _ e => Bare e ∧ e.kind = none ∧ e.place = none
      ∧ ∀ t n, e.now t n = { t with cpHalt := true })
    ∧ Starts (.halt f) (fun s c => engine s c = .command) (fun _ c e => Does c e fun g => { g with halted := true })
    ∧ PrivTraps (.halt f) (fun s c => group s c ∧ hm s c = false))

/-- R213, R326: CRD reads TCAUSE, TDETAIL, TPC, TMASK and TVEC, on the circuit processor a slot's ticket state and a
barrier's state, and on a command core a word for each number from 0x200 up, which the spec does not give (a free value:
log 25); CWR sets TPC in handler mode and ignores the registers that are read-only, those of the circuit processor among
them, and by the model's choice those of the command cores (log 25). A number that is reserved or above 12 bits is the
operand-range trap with detail 5, one of another engine the privilege trap. -/
def Obligations.ControlRegisters : Prop :=
  ∀ f : Fields,
    (let n := f.imm.toNat
    let trap (s : State) (c : Ctx) : TrapRegs := (s.group c.key).trap
    let engine (s : State) (c : Ctx) : EngineKind := (s.group c.key).engine
    let other (s : State) (c : Ctx) : Prop := ¬(n < 0x200 ∧ engine s c = .circuit) ∧ ¬(0x200 ≤ n ∧ engine s c = .command)
    let hm (s : State) (c : Ctx) : Nat := if (trap s c).hm then 2 ^ 31 else 0
    (n < 7 → Starts (.crd f) (fun _ _ => True) (fun s c e => Brings c e .nop false (match n with
      | 0 => hm s c + (trap s c).cause.toNat
      | 1 => (trap s c).detail.toNat
      | 2 => (trap s c).pc.toNat % 2 ^ 32
      | 3 => (trap s c).pc.toNat / 2 ^ 32
      | 4 => (trap s c).mask.toNat
      | 5 => (trap s c).vec.toNat % 2 ^ 32
      | _ => (trap s c).vec.toNat / 2 ^ 32)))
    ∧ (0x100 ≤ n → n < 0x140 → Starts (.crd f) (fun s c => engine s c = .circuit) (fun s c e => Brings c e .nop false
      (let t := s.ticket (n - 0x100)
      if s.ownsSlot (s.group c.key).ctx (n - 0x100) then t.state * 2 ^ 29 + t.cause.toNat * 2 ^ 16 + t.swus.toNat else 0)))
    ∧ (0x140 ≤ n → n < 0x180 → Starts (.crd f) (fun s c => engine s c = .circuit) (fun s c e => Brings c e .nop false
      (let cs := mapGet s.clbs (n - 0x140) []
      if s.ownsClb (s.group c.key).ctx (n - 0x140) then s.clbState (n - 0x140) * 2 ^ 30 + 128 + cs.length else 0)))
    ∧ (n = 2 → Starts (.cwr f) (fun s c => (trap s c).hm = true) (fun s c e => Does c e fun g => { g with
        trap := { g.trap with pc := g.trap.pc.extractLsb' 32 32 ++ BitVec.ofNat 32 (firstA s c) } }))
    ∧ (n = 3 → Starts (.cwr f) (fun s c => (trap s c).hm = true) (fun s c e => Does c e fun g => { g with
        trap := { g.trap with pc := BitVec.ofNat 32 (firstA s c) ++ g.trap.pc.extractLsb' 0 32 } }))
    ∧ (n = 2 ∨ n = 3 → PrivTraps (.cwr f) fun s c => (trap s c).hm = false)
    ∧ (n = 0 ∨ n = 1 ∨ n = 4 ∨ n = 5 ∨ n = 6 → Starts (.cwr f) (fun _ _ => True) fun _ _ e => Plain e ∧ Bare e ∧ e.kind = none)
    ∧ (0x100 ≤ n → n < 0x180 → Starts (.cwr f) (fun s c => engine s c = .circuit) fun _ _ e => Plain e ∧ Bare e ∧ e.kind = none)
    ∧ (0x200 ≤ n → n < 4096 → Starts (.cwr f) (fun s c => engine s c = .command) (fun _ _ e => Plain e ∧ Bare e ∧ e.kind = none)
      ∧ Starts (.crd f) (fun s c => engine s c = .command) fun _ c e => e.acc = [] ∧ e.kind = some .nop ∧ e.holds = false
        ∧ e.place = none ∧ (∀ t n, (e.now t n).groups = t.groups ∧ SameMemory t (e.now t n))
        ∧ ∃ r v, e.res = [r] ∧ v < 2 ^ 32 ∧ ResultIs c r fun _ => BitVec.ofNat 128 v)
    ∧ ∀ i ∈ [Instr.crd f, .cwr f],
      (4096 ≤ n ∨ 7 ≤ n ∧ n < 0x100 → RangeTraps i (fun _ _ => True) 5)
      ∧ (0x180 ≤ n → n < 0x200 → RangeTraps i (fun s c => engine s c = .circuit) 5)
      ∧ (0x100 ≤ n → n < 4096 → PrivTraps i other))

/-- R210, R225: a precise trap of a partition's group outside handler mode, with a trap vector and no open
transaction: TCAUSE takes the cause and handler mode, TDETAIL the detail, TPC the address, TMASK the lanes, and the
path stands at TVEC (its low four bits are zero in a program counter, R22) with every register intact and no trap
noted; without a vector its team ends with 0x0100 plus the cause, and in handler mode with 0x0133. -/
def Sys2Proof.Stated.TrapEntry : Prop :=
  ∀ s key pc lanes x d g, mapGet? s.groups key = some g → g.engine = .partition →
    (∀ l, l < 32 → laneOf g.tx l = none) →
    (let t := s.takeTrap key pc lanes x d
    (g.trap.hm = false → g.trap.vec ≠ 0#64 → lanes ≠ 0#32 → ∃ g', mapGet? t.groups key = some g'
      ∧ g'.trap = ⟨true, x, d, pc, lanes, g.trap.vec⟩
      ∧ (∀ l, l < 32 → lanes.getLsbD l = true → (lanesAt g' (aligned g.trap.vec)).getLsbD l = true)
      ∧ (∀ a l, l < 32 → a ≠ aligned g.trap.vec → lanes.getLsbD l = true → (lanesAt g' a).getLsbD l = false)
      ∧ (∀ a l, l < 32 → lanes.getLsbD l = false → (lanesAt g' a).getLsbD l = (lanesAt g a).getLsbD l)
      ∧ g' = { g with
          trap := g'.trap, table := g'.table, parked := g'.parked, waiting := g'.waiting, trapPend := none, replayFrom := g.seq }
      ∧ t = { s with groups := t.groups } ∧ SameOthers key s t)
    ∧ (g.trap.hm = false → g.trap.vec = 0#64 → t.agenda = .teamEnd g.team (0x0100#16 + x.setWidth 16) :: s.agenda
      ∧ (t.group key).halted = true)
    ∧ (g.trap.hm = true → t.agenda = .teamEnd g.team 0x0133#16 :: s.agenda ∧ (t.group key).halted = true))

/-- R212: the return from handler mode: HM clears, the handler's lanes that have not exited go on at TPC, and nothing else
of the package changes. -/
def Sys2Proof.Stated.TrapReturn : Prop :=
  ∀ s key g, mapGet? s.groups key = some g →
    (let t := s.returnFromTrap key
    ∃ g', mapGet? t.groups key = some g' ∧ g'.trap = { g.trap with hm := false }
      ∧ (∀ l, l < 32 → (g.trap.mask &&& ~~~g.exited).getLsbD l = true → (lanesAt g' (aligned g.trap.pc)).getLsbD l = true)
      ∧ g' = { g with trap := g'.trap, table := g'.table, parked := g'.parked, waiting := g'.waiting }
      ∧ t = { s with groups := t.groups } ∧ SameOthers key s t)

/-- R187, R188: copies and their batches. -/
def Obligations.Copies : Prop := Sys2Proof.Stated.CopyWords ∧ Sys2Proof.Stated.BatchWaits

/-- R191, R193, R194: TFEED and TDRAIN. -/
def Obligations.FeedAndDrain : Prop := Sys2Proof.Stated.FeedWords ∧ Sys2Proof.Stated.DrainWords

/-- R203 to R205, R387: CREQ, CAWAIT, CUSE and CREL. -/
def Obligations.Circuits : Prop := Sys2Proof.Stated.CircuitRequests ∧ Sys2Proof.Stated.CircuitWaits ∧ Sys2Proof.Stated.CircuitUse

/-- R210, R212, R225: taking a precise trap, and returning from it. -/
def Obligations.Traps : Prop := Sys2Proof.Stated.TrapEntry ∧ Sys2Proof.Stated.TrapReturn

/-- R211 to R214: traps by instruction, yielding, ERET and HALT. -/
def Obligations.SystemWords : Prop := Sys2Proof.Stated.TrapsByInstruction ∧ Sys2Proof.Stated.PrivilegedWords

/-! ## Words, steps and what every step keeps -/

namespace Sys2Proof.Stated

open Machine

/-- A field of a word written out: a level, an index, the mark and the negate bit (spec/02 R25). -/
def field (lvl : Level) (index : Nat) (mark := false) (neg := false) : Operand := ⟨lvl, BitVec.ofNat 8 index, mark, neg⟩

/-- `zero`, the field C00. -/
def zeroField : Operand := field .special 0
/-- `imm`, the field C04. -/
def immField : Operand := field .special 1

/-- The fields of a word whose guard is k7 and whose other fields are at their defaults. -/
def plainFields : Fields :=
  ⟨false, 7#3, 0#6, zeroField, zeroField, zeroField, zeroField, 0#4, 0#12, 0#4, false, .seq, 0#32⟩

/-- A byte of a word, the one at the lowest address first (spec/00 R1). -/
def byteAt (w : InstrWord) (n : Nat) : Byte := (w >>> (8 * n)).setWidth 8

end Sys2Proof.Stated

/-- R21, R24, R25, R36, R103, R104: the word of every instruction that is well formed on an engine decodes there to that
instruction, with every operand, mark, selector and immediate. -/
def Obligations.EncodedDecodes : Prop :=
  ∀ (e : EngineKind) (i : Instr), i.wellFormedOn e = true → ∃ w, encode i = some w ∧ decode e w = .ok i

/-- R21, R24: what an engine decodes from a word is well formed on that engine, and its word is that word: no two words
decode to one instruction, and no bit of a word is dropped. -/
def Obligations.DecodedEncodes : Prop :=
  ∀ (e : EngineKind) (w : InstrWord) (i : Instr), decode e w = .ok i → i.wellFormedOn e = true ∧ encode i = some w

/-- Words printed in spec/02, 05, 06, 07 and 08, decoded. -/
def Obligations.PrintedWords : Prop :=
  decode .partition 0x0400_9010_010C_04C0_0100_0000_0000_0064 = .ok (.iadd { plainFields with
      guardNeg := true, guardSel := 1#3, d := field .main 4, a := field .main 4, b := immField, st := 1#4, imm := 100#32 })
  ∧ decode .partition 0x0400_7408_8000_16C0_0201_23C0_FFFF_FFFD = .ok (.iadd { plainFields with
      d := field .oper 2, a := field .latch 0, b := field .main 5 true, st := 2#4, wt := 0x012#12, sf := 3#4, yd := true
      nx := .loop, imm := 0xFFFFFFFD#32 })
  ∧ decode .partition 0x8040_7C00_C00C_0001_4000_0050_0000_0001 = .ok (.unop { plainFields with
      c := field .main 5, nx := .jidx, imm := 1#32 })
  ∧ decode .partition 0x10A0_7024_0050_0802_6500_0000_0000_0000 = .ok (.ffma { plainFields with
      mod := 0x20#6, d := field .main 9, a := field .main 1 false true, b := field .main 2, c := field .main 9 true
      st := 5#4 })
  ∧ decode .partition 0x2540_7C00_020D_8401_2000_0200_0000_0040 = .ok (.st .b32 .ga { plainFields with
      a := field .main 8, b := field .special 0x61, c := field .main 4 true, sf := 2#4, imm := 64#32 })
  ∧ decode .partition 0x3810_7C00_C04C_00C0_0000_0000_0000_0004 = .ok (.bar { plainFields with
      mod := 0x10#6, a := immField, imm := 4#32 })
  ∧ decode .partition 0x0040_7C00_C00C_00C0_0000_0001_0000_0000 = .error 1

/-- R22, R24, R210: with a path chosen whose group may issue, whose lanes still stand at their address and whose bytes
are translated and can be read (no migration or held line keeps them, R303, R262), a step is `exec` of the instruction
that those sixteen bytes decode to, at the state in which the path is the one that executes; where they fail a check
of R24 it is the illegal-instruction trap 0x01 with the check's number, once no older access of the group can fault
(R210). With nothing chosen it is `exec` of the next event: the head of the agenda, else an input whose cycle has come
(a command's requester is then the one it names); and with none of these time passes: a base-die cycle where the last
core cycle ended one that has still to run (R18), else a core cycle. (The order of what happens at one moment is log
1, one cycle counter for all cores log 3, the wait of the trap log 60.) -/
def Obligations.StepRunsDecoded : Prop :=
  (∀ (s : State) (c : Cur) (rest : List Cur) (g : Group) (pa key : Nat) (r : Rights) (big : Bool) (w : InstrWord),
    s.chosen = c :: rest → mapGet? s.groups c.group = some g →
    (let s' : State := { s with chosen := rest, cur := c }
    let die := dieOf c.group
    let va : VAddr := g.codeSpace ++ c.pc
    s'.mayRun c.group = true → g.hasPath c.pc c.lanes = true → s'.stallOver c.group = true →
    (s'.tluHit die g.ctx va).isSome = true → s'.translate die g.ctx va .fetch = .ok pa key r big →
    s'.homeReached die pa = true → s'.pageFrozen pa = false → s'.lineFree die (lineOf pa) = true →
    s'.readsPoison pa = false → (∀ n, n < 16 → s'.viewByte die (pa + n) = byteAt w n) →
    (∀ i, decode g.engine w = .ok i → step s = exec i s')
    ∧ ∀ n, decode g.engine w = .error n →
      (s'.olderFault c.group g.seq = false → step s = .next (s'.takeTrap c.group c.pc c.lanes 0x01#8 (BitVec.ofNat 32 n)))
      ∧ (s'.olderFault c.group g.seq = true → step s = .next s')))
  ∧ ∀ s : State, s.chosen = [] →
    (∀ e t, s.agenda = e :: t → step s = exec e.toInstr { s with agenda := t })
    ∧ (∀ n e t, s.agenda = [] → s.inputs = (n, e) :: t → n ≤ s.now →
      step s = exec e.toInstr { s with inputs := t, asker := e.requester.getD s.asker })
    ∧ (s.agenda = [] → (∀ n e t, s.inputs = (n, e) :: t → s.now < n) →
      (s.baseDue = 0 → ∃ t, step s = .next t ∧ t.cycle = s.cycle + 1#64 ∧ t.baseCycle = s.baseCycle
        ∧ t.timer = s.timer + BitVec.ofNat 64 ((s.timerAcc + 40) / s.power.clk.toNat)
        ∧ t.baseDue = (s.baseAcc + 64) / s.power.clk.toNat ∧ t.baseAcc = (s.baseAcc + 64) % s.power.clk.toNat
        ∧ (s.peerAsks = [] → s.heldEnds = [] → t.groups = s.groups))
      ∧ (∀ n, s.baseDue = n + 1 → ∃ t, step s = .next t ∧ t.baseCycle = s.baseCycle + 1#64 ∧ t.baseDue = n
        ∧ t.cycle = s.cycle ∧ t.timer = s.timer ∧ t.groups = s.groups))

/-- What reset leaves, of the values the spec gives: queues disabled with every register 0, PWRCTL at 2,400 W and 45 °C,
PWRSTAT at CLK 96, ports dark with cause 0 and no ticket, links' and error logs' counts 0, no event, no context. -/
def Obligations.ResetValues : Prop :=
  (let s := State.reset
  (∀ q, q < 256 → ∀ r, r < 8 → s.devWord (0x100000 + 0x40 * q + 8 * r) = 0)
  ∧ s.devWord 0x500000 = 2400 * 2 ^ 16 + 45 * 2 ^ 8 + 96 * 2 ^ 32
  ∧ (∀ p, p < 64 → s.devWord (0x200000 + 0x200 * p) = 0 ∧ (s.port p).ticket = none)
  ∧ (∀ k, k < 4 → s.devWord (0x300000 + 0x40 * k) = 0 ∧ s.devWord (0x400000 + 0x1000 * k) = 0)
  ∧ s.events = [] ∧ s.qlocks = [] ∧ s.contexts = [] ∧ s.groups = [] ∧ s.hostErr = false)

/-- The memory of the reset state is in canonical form, and every byte of it reads as the model's choice for a byte that
nothing has written (log 11). -/
def Obligations.ResetMemory : Prop :=
  Memory.wf State.reset.mem = true ∧ ∀ a, memGet State.reset.mem a = memDefault

/-- Whatever a step does (an instruction, an event or a cycle), memory in canonical form stays so: addresses rise
strictly, and no listed byte equals what an unlisted one reads as, so equal memories are equal data. -/
def Obligations.StepKeepsMemoryCanonical : Prop :=
  ∀ s t : State, Memory.wf s.mem = true → step s = .next t → Memory.wf t.mem = true

/-! ## Steps of the package's other agents -/

namespace Sys2Proof.Stated

open Machine

/-- `exec` of `i` at `s` answers a next state, and of it `P` holds. -/
def After (i : Instr) (s : State) (P : State → Prop) : Prop := ∃ t, exec i s = .next t ∧ P t

/-- The event changes nothing. -/
def Idle (i : Instr) (s : State) : Prop := exec i s = .next s

/-- One group is what it was but for its lease, and every other group and all of memory are untouched. -/
def OnlyLease (s t : State) (k : Nat) (g : Group) (l : Lease) : Prop :=
  mapGet? t.groups k = some { g with lease := l } ∧ SameOthers k s t ∧ SameMemory s t

end Sys2Proof.Stated

open Sys2Proof Sys2Proof.Machine Sys2Proof.Stated in
/-- ISSUE_SELECT of a stage with one group and one path, on a cycle on which the path's pipe takes a word: the path is
chosen, and the group's next issue lies after its stall count (spec/02 R34, spec/10 R243). A stage with no group chooses
nothing. -/
def Sys2Proof.Stated.IssueSelection : Prop :=
  (∀ s part k g e uniform st, s.stageKeys part = [k] → mapGet? s.groups k = some g → g.table = [e]
    → s.pathReady k e = .ready uniform st false → (uniform = false → s.laneFree part = true)
    → After (.issueSelect part) s fun t => t.chosen = s.chosen ++ [⟨k, e.pc, e.lanes, s.timeOf k + st + 1⟩]
      ∧ t.ops = s.ops ∧ SameMemory s t)
  ∧ (∀ s part, s.stageKeys part = [] → Idle (.issueSelect part) s)

open Sys2Proof Sys2Proof.Machine Sys2Proof.Stated in
/-- The events of the lease controllers. BOOST_DECAY takes 64 from a boost (R234); LEASE_OVERRUN_DEACTIVATE
deactivates the youngest active unprotected group of a core whose sum exceeds its budget, and changes nothing when the
sum fits or one group is active (R238); ACTIVATION_EVALUATE, of a core with one group and that one inactive, activates
it, by force after 100 µs and then protected for 10 µs, but for a group just deactivated (R239, R240);
PROTECTION_EXPIRY ends protection and tests the sum again (R240); DORMANT_ENTRY makes a group dormant that has waited
for 1,024 cycles, for the debugger too (R237, spec/21 R380). -/
def Sys2Proof.Stated.LeaseControllers : Prop :=
  (∀ s k g, mapGet? s.groups k = some g →
    After (.boostDecay k) s fun t => OnlyLease s t k g { g.lease with boost := g.lease.boost - 64 })
  ∧ (∀ s core, s.leaseSum core ≤ s.leaseBudget core ∨ s.activeCount core ≤ 1 → Idle (.leaseOverrunDeactivate core) s)
  ∧ (∀ s core k g, s.leaseBudget core < s.leaseSum core → 1 < s.activeCount core → s.canDeactivate core = [k]
    → mapGet? s.groups k = some g → After (.leaseOverrunDeactivate core) s fun t =>
      OnlyLease s t k g { g.lease with act := .inactive, inactiveSince := s.ns, recentlyOff := true })
  ∧ (∀ s k g, s.groups = [(k, g)] → g.engine = .partition → k < 0x10000 → g.lease.act = .inactive →
    After (.activationEvaluate (coreOf k)) s fun t => OnlyLease s t k g { g.lease with
      recentlyOff := false
      act := if g.lease.inactiveSince + 100000 ≤ s.ns ∨ g.lease.recentlyOff = false then .active else .inactive
      protectedUntil := if g.lease.inactiveSince + 100000 ≤ s.ns then s.ns + 10000 else g.lease.protectedUntil })
  ∧ (∀ s k g, mapGet? s.groups k = some g → g.lease.protectedUntil ≠ 0 → g.lease.protectedUntil ≤ s.ns →
    After (.protectionExpiry k) s fun t => OnlyLease s t k g { g.lease with protectedUntil := 0 }
      ∧ t.agenda = s.agenda ++ if t.overBudget (coreOf k) then [.leaseOverrunDeactivate (coreOf k)] else [])
  ∧ (∀ s k g w, mapGet? s.groups k = some g → g.wait = some w →
    After (.dormantEntry k) s fun t => OnlyLease s t k g { g.lease with
      act := if w.cycle + 1024 ≤ s.now then .dormant else g.lease.act })

open Sys2Proof Sys2Proof.Machine Sys2Proof.Stated in
/-- The steps that choose what issues and those of the activation controllers (spec/10 R234, R237-R240, R243). -/
def Obligations.IssueAndLeaseEvents : Prop := Sys2Proof.Stated.IssueSelection ∧ Sys2Proof.Stated.LeaseControllers

open Sys2Proof Sys2Proof.Machine Sys2Proof.Stated in
/-- The wait-swap (spec/09 R226-R228, spec/15 R297). WAIT_SWAP_CHECK begins the save of a team that may leave, on a
halted die too (spec/18 R355), into a slot of its context's save area on its cluster that no other team holds; it
takes 1 µs and one ns for each 100 bytes (the bytes that are saved, counted as the model does: log 30), and no team
leaves with a group that has neither ended nor waited longer than WTHRESH µs. At the end of the save the team's slots
go free and its groups stand saved, their latches empty and their filters without entries; the bytes of its slot of
the save area have been written, with values the spec does not give (log 30), and no others. TEAM_RETURN seats it
again, the youngest of its core. (That the saved groups stand in the state beside the bytes: log 30.) -/
def Sys2Proof.Stated.WaitSwaps : Prop :=
  (∀ s part n x, s.partTeams part = [n] → s.team? n = some x →
    (s.mayLeave n x = true → After (.waitSwapCheck part) s fun t => t.groups = s.groups ∧ SameMemory s t
      ∧ ∃ slot, t.team? n = some { x with swap := .saving (s.ns + 1000 + s.saveBytes n x / 100), saveSlot := slot }
        ∧ slot < 64 ∧ ∀ y ∈ s.teams, y.2.ctx = x.ctx → y.2.core / 4 = x.core / 4 → y.2.swap ≠ .resident → y.2.saveSlot ≠ slot)
    ∧ (∀ c p, s.context x.ctx = some c → p ∈ s.teamGroups n → p.2.done = false
      → p.2.waitedPast s.ns (c.wthresh * 1000) = false → Idle (.waitSwapCheck part) s))
  ∧ (∀ s n x e, s.team? n = some x → x.swap = .saving e →
    (s.ns < e → Idle (.waitSwapSaveEnd n) s)
    ∧ (e ≤ s.ns → After (.waitSwapSaveEnd n) s fun t =>
      (∃ y, t.team? n = some y ∧ y.swap = .out ∧ y.saved.map (·.2) = (s.teamGroups n).map fun p => p.2.saved)
      ∧ (∀ k, mapGet? t.groups k = if k ∈ (s.teamGroups n).map (·.1) then none else mapGet? s.groups k)
      ∧ ∀ c, s.context x.ctx = some c →
        (let slot := c.saveArea (x.core / 4) + 6 * 2 ^ 20 + x.saveSlot * c.teamSave
        ∀ a, a < slot ∨ slot + c.teamSave ≤ a →
          (∀ d, t.viewByte d a = s.viewByte d a) ∧ t.latestByte a = s.latestByte a)))
  ∧ (∀ s n x, s.team? n = some x → x.swap = .out → x.ended = false →
    (s.mayReturn n x = false → Idle (.teamReturn n) s)
    ∧ (s.mayReturn n x = true → s.runsOn x.ctx (x.core / 4) = true
      → s.fitsCore x.core x.deepSize n (x.saved.map (·.2)) = true → After (.teamReturn n) s fun t =>
        (∃ y, t.team? n = some y ∧ y.swap = .resident ∧ y.saved = [] ∧ y.age = s.nextId ∧ y.core = x.core)
        ∧ t.nextId = s.nextId + 1))

open Sys2Proof Sys2Proof.Machine Sys2Proof.Stated in
/-- The distributors (spec/09 R217-R219, R229, R230). TEAM_PLACE places the team at the low end of its cluster's range
on the best core that takes it, the range's low end then taken and no resident group disturbed, and does nothing with
nothing to place; DISTRIBUTOR_STEAL moves the upper half of the largest range of its die's clusters. (Ranges go before
the Rennet's teams: log 29.) -/
def Sys2Proof.Stated.Distributors : Prop :=
  (∀ s cl r l x c, (s.ranges.filter fun r => r.cluster = cl) = [r] → s.launch? r.grid = some l → l.chc = none
    → s.serves cl r.grid l = true → rangeOrders l r = [x] → s.bestCore cl x = some c
    → (s.die (cl / 8)).heldRecs = [] → After (.teamPlace cl) s fun t =>
      (∃ y, t.team? s.nextId = some y ∧ y.grid = r.grid ∧ y.core = c ∧ y.ctx = l.ctx ∧ y.index = x.index
        ∧ y.ngrp = l.desc.groups ∧ y.age = s.nextId ∧ y.swap = .resident ∧ y.ended = false)
      ∧ t.ranges = takeLow r s.ranges ∧ t.nextId = s.nextId + 1
      ∧ (∀ k g, mapGet? s.groups k = some g → mapGet? t.groups k = some g) ∧ SameMemory s t)
  ∧ (∀ s cl, (∀ r ∈ s.ranges, r.cluster ≠ cl) → (s.die (cl / 8)).toPlace = [] → (s.die (cl / 8)).heldRecs = []
    → Idle (.teamPlace cl) s)
  ∧ (∀ s cl g r, s.stealable cl = [g] → s.couldPlace cl g = true → r ∈ s.ranges → r.grid = g
    → largestRange ((sortBy (s.ranges.filter fun r => r.grid = g) fun a b => a.cluster ≤ b.cluster).filter fun r =>
      r.cluster / 8 = cl / 8 && r.cluster != cl) = some r
    → After (.distributorSteal cl) s fun t => t.teams = s.teams ∧ t.groups = s.groups
      ∧ ∀ y, y ∈ t.ranges ↔ (y ∈ s.ranges ∧ y ≠ r) ∨ y = { r with hi := r.lo + (r.hi - r.lo + 1) / 2 }
        ∨ y = ⟨g, cl, r.lo + (r.hi - r.lo + 1) / 2, r.hi⟩)
  ∧ (∀ s cl, s.stealable cl = [] → Idle (.distributorSteal cl) s)

open Sys2Proof Sys2Proof.Machine Sys2Proof.Stated in
/-- Ends (spec/02 R43, spec/09 R225). TEAM_END stops a team's groups; while an access of one that has left its core is
in flight, or, its groups there, a copy of it that the Pail has accepted or a macro-operation queued as it ended, the
team stays, ended, and without any it goes with all its groups. A group whose lanes have all exited and whose flags
are set releases its slot, the team ending with code 0 with its last, though stores past their fault points are in
flight, which go on; one with a lane left does not. (When a slot is released: log 22; what outlives the end of its
team: log 41.) -/
def Sys2Proof.Stated.Ends : Prop :=
  (∀ s n x code, s.team? n = some x → (∀ p ∈ s.ops, p.2.group ∉ s.teamKeys n) → (∀ c ∈ s.copies, c.2.team ≠ n) →
    (∀ cl ∈ s.clusters, cl.2.churn.macros = []) →
    After (.teamEnd n code) s fun t => t.team? n = none ∧ ∀ k ∈ s.teamKeys n, mapGet? t.groups k = none)
  ∧ (∀ s n x code p, s.team? n = some x → p ∈ s.ops → p.2.group ∈ s.teamKeys n → p.2.left = true →
    After (.teamEnd n code) s fun t => (∃ ms, t.team? n = some { x with ended := true, macros := ms }) ∧ p ∈ t.ops
      ∧ ∀ k ∈ s.teamKeys n, ∃ g, mapGet? t.groups k = some g ∧ (g.engine = .partition ∧ g.team = n → g.halted = true))
  ∧ (∀ s n x code, s.team? n = some x → s.teamKeys n ≠ [] → ((∃ c ∈ s.copies, c.2.team = n) ∨ x.ended = true ∧
      ∃ cl ∈ s.clusters, ∃ m ∈ cl.2.churn.macros, m.op ∈ x.macros) →
    After (.teamEnd n code) s fun t => (∃ ms, t.team? n = some { x with ended := true, macros := ms })
      ∧ t.copies = s.copies ∧ t.clusters = s.clusters ∧ SameMemory s t
      ∧ ∀ k ∈ s.teamKeys n, ∃ g, mapGet? t.groups k = some g ∧ (g.engine = .partition ∧ g.team = n → g.halted = true))
  ∧ (∀ s k g, mapGet? s.groups k = some g → g.done = false → Idle (.groupSlotRelease k) s)
  ∧ (∀ s k g, mapGet? s.groups k = some g → isGhost k = false → g.engine = .partition ∨ g.engine = .command → g.done = true
    → g.flagsSet = true → (∀ p ∈ s.ops, p.2.group ≠ k) → g.batches = [] → g.openBatch = none →
    After (.groupSlotRelease k) s fun t => mapGet? t.groups k = none ∧ SameOthers k s t ∧ SameMemory s t)
  ∧ (∀ s k g, mapGet? s.groups k = some g → g.engine = .partition → isGhost k = false → g.done = true → g.flagsSet = true
    → (∀ p ∈ s.ops, p.2.group = k → p.2.pastFault = true ∧ p.2.kind.goesOn = true) → g.batches = [] → g.openBatch = none →
    After (.groupSlotRelease k) s fun t => mapGet? t.groups k = none ∧ t.ops.map (·.1) = s.ops.map (·.1) ∧ SameMemory s t)
  ∧ (∀ s k g x, mapGet? s.groups k = some g → g.engine = .partition → isGhost k = false → g.done = true → g.flagsSet = true
    → (∀ p ∈ s.ops, p.2.group ≠ k) → s.teamGroups g.team = [(k, g)] → s.team? g.team = some x → x.saved = []
    → After (.groupSlotRelease k) s fun t => t.agenda.head? = some (.teamEnd g.team 0#16))

open Sys2Proof Sys2Proof.Machine Sys2Proof.Stated in
/-- The Rennet (spec/09 R231, spec/14 R279, R280). RENNET_RECORD_ACCEPT takes the oldest held record once it fits;
RENNET_BATCH_TIMEOUT makes a team of a node's records 10 µs after the last, or at once for the fullest node of a store
more than seven-eighths full; RENNET_STALL_END discards the records of a launch that has stood still for 1 s with an
EMIT held; the launch ends with 0x0024, if it has no error yet, and every live team of it is to end. -/
def Sys2Proof.Stated.Rennets : Prop :=
  (∀ s d h rest, (s.die d).heldRecs = h :: rest →
    ((s.die d).fits h.bytes.length = false → Idle (.rennetRecordAccept d) s)
    ∧ ((s.die d).fits h.bytes.length = true → After (.rennetRecordAccept d) s fun t => (t.die d).heldRecs = rest
      ∧ ((∃ q ∈ (t.die d).queues, q.grid = h.grid ∧ q.node = h.node ∧ h.bytes ∈ q.records)
        ∨ ∃ q ∈ (t.die d).toPlace, q.grid = h.grid ∧ q.node = h.node ∧ h.bytes ∈ q.records)))
  ∧ (∀ s d, (s.die d).heldRecs = [] → Idle (.rennetRecordAccept d) s)
  ∧ (∀ s d grid node q, ((s.die d).queues.find? fun q => q.grid = grid && q.node = node) = some q → q.records ≠ [] →
    (s.ns < q.lastNs + 10000 → (s.die d).storeBytes ≤ 458752 → Idle (.rennetBatchTimeout d grid node) s)
    ∧ (q.lastNs + 10000 ≤ s.ns ∨ s.reliefNode d = some q → s.dieHalted d = false → After (.rennetBatchTimeout d grid node) s fun t =>
      (t.die d).toPlace = (s.die d).toPlace
        ++ [⟨grid, node, q.launched, q.records.take (min q.records.length (s.batchOf grid node))⟩]))
  ∧ (∀ s grid l, s.launch? grid = some l →
    (s.ns < l.moveNs + 1000000000 → Idle (.rennetStallEnd grid) s)
    ∧ (l.moveNs + 1000000000 ≤ s.ns → (∃ d ∈ s.dies, ∃ h ∈ d.2.heldRecs, h.grid = grid) →
      After (.rennetStallEnd grid) s fun t =>
        (∀ d ∈ t.dies, (∀ h ∈ d.2.heldRecs, h.grid ≠ grid) ∧ (∀ q ∈ d.2.queues, q.grid ≠ grid)
          ∧ ∀ q ∈ d.2.toPlace, q.grid ≠ grid)
        ∧ (l.error = 0#16 → ∀ l', t.launch? grid = some l' → l'.error = 0x0024#16)
        ∧ ∀ x ∈ s.teams, x.2.grid = grid → x.2.ended = false → .teamEnd x.1 0#16 ∈ t.agenda))

open Sys2Proof Sys2Proof.Machine Sys2Proof.Stated in
/-- The steps that place teams, swap them, end them and make them of records (spec/02 R43, spec/09 R217-R232, spec/14
R279, R280). -/
def Obligations.TeamEvents : Prop :=
  Sys2Proof.Stated.WaitSwaps ∧ Sys2Proof.Stated.Distributors ∧ Sys2Proof.Stated.Ends ∧ Sys2Proof.Stated.Rennets

namespace Sys2Proof.Stated

open Machine

/-- A copy's next piece goes to memory of this package, reduces nothing, encodes nothing and counts in no barrier. -/
def PlainPiece (c : Copy) : Prop :=
  c.shape.red = 0 ∧ c.shape.comp = false ∧ c.shape.dkind = false ∧ c.shape.remote = false ∧ c.shape.cbEn = false

/-- A physical address of memory that the slices cache. -/
def Cacheable (s : State) (pa : Nat) : Prop :=
  placeOf s pa = .near ∨ placeOf s pa = .far ∨ placeOf s pa = .cream ∨ placeOf s pa = .hostWindow

/-- The macro-operation at the head of a cluster's queue may go on. -/
def AtHead (s : State) (cl : Nat) (m : MacroOp) (rest : List MacroOp) : Prop :=
  (s.churn cl).macros = m :: rest ∧ s.stoppedAt cl = false ∧ m.fault = none ∧ m.lastAt = none

end Sys2Proof.Stated

open Sys2Proof Sys2Proof.Machine Sys2Proof.Stated in
/-- R188, R189, R331: a copy that runs delivers its next piece when all of it is translated and may go, and stands at the
piece after it, or ends; the bytes of a plain one are then its destination's, its source elements' bytes in order. A
piece to a peer is sent, and kept until the peer has it (FABRIC_FLIT_ACK, of PortEvents). A piece that waits at a held
line is counted when it is served. A piece not translated is walked for first, and one that may not go takes its place
at the lines it waits for; a copy whose circuit-live barrier has broken ends whether it runs or is suspended, and one
that waits for it starts when it is live. (How long a piece takes is free: log 2; how pieces deliver: log 66.) -/
def Sys2Proof.Stated.CopyPieces : Prop :=
  (∀ s id c, mapGet? s.copies id = some c → s.copyRuns c = true → (c.shape.clbEn && s.clbState c.shape.clb = 2) = false
    → s.storeWaits id = false → s.pieceMapped c = true →
    (s.pieceReady id c = true → c.shape.remote = false → After (.copyPieceDeliver id) s fun t =>
      if t.storeWaits id then ∃ e, mapGet? t.copies id = some { c with error := e }
      else if c.next + c.pieceLen < c.total then
        ∃ e rest, mapGet? t.copies id = some { c with next := c.next + c.pieceLen, error := e, carry := rest, issueNs := s.ns }
      else mapGet? t.copies id = none)
    ∧ (s.pieceReady id c = true → c.shape.remote = true → c.shape.dkind = false → After (.copyPieceDeliver id) s fun t =>
      ∃ e p, p.peer = c.shape.peers.getD c.dest 0 ∧ p.ns = s.ns ∧ p.count = c.pieceLen + c.blocksDone.length ∧
        (let sent : Copy := { c with error := e, carry := [], issueNs := s.ns, out := c.out ++ [p] }
        mapGet? t.copies id = some
          (if c.next + c.pieceLen < c.total ∨ c.dest + 1 = c.shape.peers.length then { sent with next := c.next + c.pieceLen }
          else { sent with next := 0, dest := c.dest + 1 })))
    ∧ (∀ pa, s.pieceReady id c = true → PlainPiece c → s.reds = [] → s.pieceReadsPoison c = false
      → s.copyPa c (c.dstVa c.next) .write = some pa → Cacheable s pa → SlicesHoldDirty s →
      After (.copyPieceDeliver id) s fun t => c.next + c.pieceLen < c.total → ∀ a, t.latestByte a =
        if pa ≤ a ∧ a < pa + c.pieceLen then
          let n := c.next + (a - pa)
          BitVec.ofNat 8 (s.srcElem c (n / c.shape.z) / 256 ^ (n % c.shape.z))
        else s.latestByte a)
    ∧ (s.pieceReady id c = false → After (.copyPieceDeliver id) s fun t => mapGet? t.copies id = some c
      ∧ SameMemory s t ∧ ∀ l ∈ s.pieceLines id c, id ∈ t.lineQueue l))
  ∧ (∀ s id c, mapGet? s.copies id = some c → s.copyRuns c = true → (c.shape.clbEn && s.clbState c.shape.clb = 2) = false
    → s.storeWaits id = true → c.shape.remote = false →
    (s.parkServed c.die id = false → Idle (.copyPieceDeliver id) s)
    ∧ (s.parkServed c.die id = true → After (.copyPieceDeliver id) s fun t => t.storeWaits id = false
      ∧ mapGet? t.copies id = if c.next + c.pieceLen < c.total then
          some { c with next := c.next + c.pieceLen, carry := [], issueNs := s.ns } else none))
  ∧ (∀ s id c, mapGet? s.copies id = some c → c.shape.clbEn = true → s.clbState c.shape.clb = 2 →
    After (.copyPieceDeliver id) s fun t => mapGet? t.copies id = none)
  ∧ (∀ s id c, mapGet? s.copies id = some c → s.copyRuns c = true → (c.shape.clbEn && s.clbState c.shape.clb = 2) = false
    → s.storeWaits id = false → s.pieceMapped c = false →
    After (.copyPieceDeliver id) s fun t => t.agenda = .pageWalk (.copy id) :: s.agenda)
  ∧ (∀ s id c, mapGet? s.copies id = some c → s.copyRuns c = false → (c.shape.clbEn = false ∨ s.clbState c.shape.clb ≠ 2) →
    Idle (.copyPieceDeliver id) s)
  ∧ (∀ s id c, mapGet? s.copies id = some c → c.started = false →
    (s.clbState c.shape.clb = 1 → After (.clbCopyTest id) s fun t =>
      mapGet? t.copies id = some { c with started := true, issueNs := s.ns })
    ∧ (s.clbState c.shape.clb = 2 → After (.clbCopyTest id) s fun t => mapGet? t.copies id = none)
    ∧ (s.clbState c.shape.clb ≠ 1 → s.clbState c.shape.clb ≠ 2 → Idle (.clbCopyTest id) s))

open Sys2Proof Sys2Proof.Machine Sys2Proof.Stated in
/-- R195, R196, R199: MZERO leaves its tile +0, MMOV `.copy` copies it and `.drain` hands it to the drain buffer while
that has room; a step of an MMA whose scales are present adds to every element of its tile, once rounded, the exact
sum of its 32-byte row of A and column of B, and an MMA leaves the queue 24 cycles after its last step. Nothing moves
while the cluster stands stopped. -/
def Sys2Proof.Stated.MacroOperations : Prop :=
  (∀ s cl m rest, AtHead s cl m rest → m.begun = false →
    (m.kind = .mzero → After (.macroStep cl) s fun t => (t.churn cl).macros = rest ∧ mapGet? t.ops m.op = none
      ∧ ∀ n, mapGet ((t.churn cl).tile m.tile) n 0#32 = 0#32)
    ∧ (m.kind = .mmovCopy → After (.macroStep cl) s fun t => (t.churn cl).macros = rest ∧ mapGet? t.ops m.op = none
      ∧ (t.churn cl).tile m.q = (s.churn cl).tile m.tile)
    ∧ (m.kind = .mmovDrain → (s.churn cl).drain.length < 4 → After (.macroStep cl) s fun t =>
      (t.churn cl).macros = rest ∧ mapGet? t.ops m.op = none
      ∧ (t.churn cl).drain.map (·.tile) = (s.churn cl).drain.map (·.tile) ++ [(s.churn cl).tile m.tile])
    ∧ (m.kind = .mmovDrain → 4 ≤ (s.churn cl).drain.length → Idle (.macroStep cl) s))
  ∧ (∀ s cl m rest, AtHead s cl m rest → m.begun = true → m.kind = .mma → m.bs = false → m.missing (s.churn cl) = none →
    After (.macroStep cl) s fun t =>
      (∃ m', (t.churn cl).macros = m' :: rest ∧ m'.step = m.step + 1
        ∧ (m'.lastAt = if m.step + 1 = m.steps then some s.now else none))
      ∧ ∀ r j, r < 64 → j < 32 → mapGet ((t.churn cl).tile m.tile) (32 * r + j) 0#32 =
        accumulate (mapGet ((s.churn cl).tile m.tile) (32 * r + j) 0#32)
          (chunkSum (fmtOf ((s.churn cl).fed (2 * m.step)).fmt) ((s.churn cl).scaleVal (m.aBlock (s.churn cl) r))
            ((s.churn cl).scaleVal (m.bBlock (s.churn cl) j)) (((s.churn cl).fed (2 * m.step)).bytes (32 * r) 32)
            (((s.churn cl).fed (2 * m.step + 1)).bytes (32 * j) 32)))
  ∧ (∀ s cl m rest, (s.churn cl).macros = m :: rest → s.stoppedAt cl = true → Idle (.macroStep cl) s)
  ∧ (∀ s cl m rest n, (s.churn cl).macros = m :: rest → m.kind = .mma ∨ m.kind = .mmag → m.lastAt = some n →
    (s.now < n + 24 → Idle (.macroComplete cl) s)
    ∧ (n + 24 ≤ s.now → After (.macroComplete cl) s fun t => (t.churn cl).macros = rest ∧ mapGet? t.ops m.op = none))

open Sys2Proof Sys2Proof.Machine Sys2Proof.Stated in
/-- R193, R300, R307: a scale byte that is missing and not being read is 0 where its TID has no registration; where
its registration's address is translated the byte there is read, to come later (once its line is held no longer, R262),
and where it is not, it is walked for.
A byte that has come enters the cache, or, when its TID has been registered since the read, goes to the waiting step
alone. A walk that succeeds leaves the translation in the unit; one held by a migration changes nothing. -/
def Sys2Proof.Stated.WalksAndScales : Prop :=
  (∀ s cl tid block, (∀ r ∈ (s.churn cl).scaleRead, ¬(r.tid = tid ∧ r.block = block))
    → mapGet? (s.churn cl).scales tid = none → (s.churn cl).stepByte = [] →
    After (.scaleCacheMissRead cl tid block) s fun t => (t.churn cl).scale? (tid, block) = some 0#8)
  ∧ (∀ s cl tid block base pa, (∀ r ∈ (s.churn cl).scaleRead, ¬(r.tid = tid ∧ r.block = block))
    → mapGet? (s.churn cl).scales tid = some base → s.churnPa cl (base + BitVec.ofNat 80 block, .read) = some pa → s.readsPoison pa = false → s.reds = []
    → Cacheable s pa → (s.lineFree (cl / 8) (lineOf pa) = true → After (.scaleCacheMissRead cl tid block) s fun t =>
      (t.churn cl).scaleRead = (s.churn cl).scaleRead ++ [⟨tid, block, s.viewByte (cl / 8) pa, s.now + s.nextDelay, false⟩]
        ∧ SameMemory s t)
      ∧ (s.lineFree (cl / 8) (lineOf pa) = false → Idle (.scaleCacheMissRead cl tid block) s))
  ∧ (∀ s cl tid block r, (s.churn cl).scaleRead = [r] → r.tid = tid → r.block = block →
    (s.now < r.due → Idle (.scaleCacheMissRead cl tid block) s)
    ∧ (r.due ≤ s.now → After (.scaleCacheMissRead cl tid block) s fun t => (t.churn cl).scaleRead = []
      ∧ (r.stale = false → (s.churn cl).stepByte = [] → (t.churn cl).scale? (tid, block) = some r.byte)
      ∧ (r.stale = true → (t.churn cl).scaleByte = (s.churn cl).scaleByte
        ∧ (t.churn cl).stepByte.head? = some ((tid, block), r.byte))))
  ∧ (∀ s cl tid block base, (∀ r ∈ (s.churn cl).scaleRead, ¬(r.tid = tid ∧ r.block = block))
    → mapGet? (s.churn cl).scales tid = some base → s.churnPa cl (base + BitVec.ofNat 80 block, .read) = none →
    After (.scaleCacheMissRead cl tid block) s fun t => t.agenda = .pageWalk (.churnOp cl) :: s.agenda)
  ∧ (∀ s key pc g, mapGet? s.groups key = some g →
    (∀ pa k r big, s.translate (dieOf key) g.ctx (g.fetchVa pc) .fetch = .ok pa k r big →
      After (.pageWalk (.fetch key pc)) s fun t =>
        (t.tluHit (dieOf key) g.ctx (g.fetchVa pc)).isSome = true ∧ t.groups = s.groups ∧ (s.keyed = [] → SameMemory s t))
    ∧ (s.translate (dieOf key) g.ctx (g.fetchVa pc) .fetch = .hold → Idle (.pageWalk (.fetch key pc)) s))

open Sys2Proof Sys2Proof.Machine Sys2Proof.Stated in
/-- R156, R157, R177, R204, R208, R261, R323: what a time-out does. A store whose acknowledgement is lost for 50 µs
makes its group replayable with a record of cause 0x23, or ends the team where no record can be written; a commit that
lacks a die's acknowledgement then aborts every lane with code 2; a remote operation unanswered for 10 ms ends its team,
and a copy with a piece that long unacknowledged by a peer with no live port ends; a WWAIT is
read again as at its first read; a CAWAIT past its time ends as it does when it is tested; a timer that expires is
unarmed and its waits end. (When a phase that is not timed ends is free: log 2.) -/
def Sys2Proof.Stated.TimeOuts : Prop :=
  (∀ s id o st a rest g, mapGet? s.ops id = some o → s.ackMayBeLost id o = true → s.ackStateFits id o st = true → o.acting = a :: rest
    → mapGet? s.groups o.group = some g → g.engine = .partition → After (.ackLostTimeout id st) s fun t =>
      (∃ g' f, mapGet? t.groups o.group = some g' ∧ g'.fault = some f ∧ f.cause = 0x23#8 ∧ f.ack = true ∧ f.state = st
        ∧ f.seq = o.seq)
      ∨ t.agenda.head? = some (.teamEnd g.team 0x0123#16))
  ∧ (∀ s id o st, mapGet? s.ops id = some o → s.ackMayBeLost id o = false ∨ s.ackStateFits id o st = false →
    Idle (.ackLostTimeout id st) s)
  ∧ (∀ s id o g, mapGet? s.ops id = some o → o.kind = .xend → o.left = true → mapGet? s.groups o.group = some g →
    (s.ns < o.issueNs + 50000 ∨ o.mask = 0#8 → Idle (.xendAckTimeout id) s)
    ∧ (o.issueNs + 50000 ≤ s.ns → o.mask ≠ 0#8 → o.res = [] → After (.xendAckTimeout id) s fun t => mapGet? t.ops id = none
      ∧ ∃ g', mapGet? t.groups o.group = some g' ∧ ∀ l, l < 32 → o.active.getLsbD l = true → laneOf g'.tx l = none
        ∧ (laneOf g.tx l ≠ none → (laneOf g'.xcode l).extractLsb' 0 8 = 2#8)))
  ∧ (∀ s id o g, mapGet? s.ops id = some o → o.kind.remote = true → o.left = true → mapGet? s.groups o.group = some g →
    (s.ns < o.issueNs + 10000000 → Idle (.fabricTimeout (.op id)) s)
    ∧ (o.issueNs + 10000000 ≤ s.ns → g.engine = .partition → After (.fabricTimeout (.op id)) s fun t =>
      t.agenda = .teamEnd g.team 0x0131#16 :: s.agenda))
  ∧ (∀ s id c, mapGet? s.copies id = some c →
    ((c.shape.remote = true ∧ c.started = true ∧ (∃ p ∈ c.out, p.ns + 10000000 ≤ s.ns ∧ s.stripeTo p.peer = []))
      ∨ s.copyLost c = true → After (.fabricTimeout (.copy id)) s fun t => mapGet? t.copies id = none)
    ∧ (s.copyLost c = false → Idle (.fabricTimeout (.copy id)) s))
  ∧ (∀ s id o cond operands, Ready s id o → o.kind = .wwait cond operands →
    ∃ t, exec (.wwaitReread id) s = .next t ∧ exec (.variableOpComplete id) s = .next t)
  ∧ (∀ s id o slot seq untilNs, mapGet? s.ops id = some o → (mapGet? s.groups o.group).isSome = true → o.due ≤ s.now
    → o.ackLost = none → o.kind = .cawait slot seq untilNs →
    (s.caExpired untilNs = true → ∃ t, exec (.cawaitTimeout id) s = .next t ∧ exec (.variableOpComplete id) s = .next t
      ∧ mapGet? t.ops id = none)
    ∧ (s.caExpired untilNs = false → Idle (.cawaitTimeout id) s))
  ∧ (∀ s ctx n c, s.context ctx = some c →
    (∀ x, vget c.timers n none = some x → x ≤ s.ns → After (.timerExpiry ctx n) s fun t =>
      (∃ c', t.context ctx = some c' ∧ vget c'.timers n none = none)
      ∧ ∀ p ∈ s.ops, p.2.kind = .tmrWait n → (s.group p.2.group).ctx = ctx → mapGet? t.ops p.1 = none)
    ∧ (∀ x, vget c.timers n none = some x → s.ns < x → Idle (.timerExpiry ctx n) s))

open Sys2Proof Sys2Proof.Machine Sys2Proof.Stated in
/-- The steps of the Pail, the Churn and the translation units, and the time-outs of operations in flight (spec/07,
spec/08, spec/11, spec/15, spec/17). -/
def Obligations.EngineEvents : Prop :=
  Sys2Proof.Stated.CopyPieces ∧ Sys2Proof.Stated.MacroOperations ∧ Sys2Proof.Stated.WalksAndScales
    ∧ Sys2Proof.Stated.TimeOuts

namespace Sys2Proof.Stated

open Machine

/-- The residency of a partition is `r`, and after the event `P` holds of it. -/
def Resides (i : Instr) (s : State) (part : BitVec 64) (P : State → Residency → Prop) : Prop :=
  After i s fun t => ∃ r', t.residOf part = some r' ∧ P t r'

/-- No translation unit holds a translation of a context that overlaps a range. -/
def Untranslated (t : State) (ctx lo n : Nat) : Prop :=
  ∀ x ∈ t.tlb, x.ctx = ctx → overlaps x.page.toNat (if x.big then 2 ^ 33 else 2 ^ 18) lo n = false

end Sys2Proof.Stated

open Sys2Proof Sys2Proof.Machine Sys2Proof.Stated in
/-- R215, R389: when the handler launched for one record has ended with RESOLVE = 1 in it and no reserved byte set,
the groups that held the fault hold it no longer and the record is resolved. Nothing is during a firmware update
(R372), or while a page's migration holds an unresolved record (R303). -/
def Sys2Proof.Stated.FaultsResolved : Prop :=
  (∀ s ctx, s.fw.quiesced = true ∨ s.ringHeld ctx = true → Idle (.faultResolution ctx) s)
  ∧ (∀ s ctx grid l i c r, s.fw.quiesced = false → s.ringHeld ctx = false → s.handlersDone ctx = [(grid, l)] → l.handler = some (i, 1, 0, 0)
    → s.context ctx = some c → c.unresF = [i] → c.unresA = [] → s.readRecord ctx false i = some r
    → recordReserved false r = false → fieldOf r 0x38 1 = 1 → After (.faultResolution ctx) s fun t =>
      (∃ c', t.context ctx = some c' ∧ c'.unresF = [])
      ∧ ∀ h ∈ s.faultHolders ctx false i, ∃ g, mapGet? t.groups h.1 = some g ∧ g.fault = none)

open Sys2Proof Sys2Proof.Machine Sys2Proof.Stated in
/-- R290 to R296: the context chosen for a partition stops it when it may displace the resident; at rest, resident and
standby change places and the chosen one runs; the standby image spills to its save areas, which take values the spec
does not give (log 30), unless its context owns a queue of priority 31, and an image fills a free Crock; a context
that has waited 3 ms for its partition with work is due from now; a quantum that has run out ends; an uncorrectable
error in an image disables its context's queues and one in a team's save area ends the team with 0x0026. -/
def Sys2Proof.Stated.Residencies : Prop :=
  (∀ s part r r1 c, s.residOf part = some r → r.chosen = none → s.fw.quiesced = false → (s.noteWork r).residOf part = some r1 →
    (s.noteWork r).choice r1 = some c → r.resident ≠ some c → (s.noteWork r).mayDisplace r1 c = true → Resides (.residentChoice part) s part fun _ r' =>
      r'.chosen = some c ∧ r'.stopped = true ∧ r'.resident = r.resident ∧ r'.standby = r.standby)
  ∧ (∀ s part, s.fw.quiesced = true → Idle (.residentChoice part) s)
  ∧ (∀ s part r c, s.residOf part = some r → r.chosen = some c → (∃ x, (c, x) ∈ s.sharers part) → r.stopped = true →
    (s.atRest part = false → Idle (.crockExchange part) s)
    ∧ (s.atRest part = true → r.standby = some c → Resides (.crockExchange part) s part fun _ r' =>
      r'.resident = some c ∧ r'.standby = r.resident ∧ r'.chosen = none ∧ r'.stopped = false ∧ r'.sinceNs = s.ns))
  ∧ (∀ s part r c, s.residOf part = some r → r.standby = some c →
    (s.owns31 c = true → Idle (.imageSpill part) s)
    ∧ (s.owns31 c = false → Resides (.imageSpill part) s part fun t r' => r' = { r with standby := none }
      ∧ ∀ x, s.context c = some x → ∀ a, (∀ cl, cl < 64 → part.getLsbD cl = true →
        a < x.saveArea cl ∨ x.saveArea cl + 6 * 2 ^ 20 ≤ a) → (∀ d, t.viewByte d a = s.viewByte d a) ∧ t.latestByte a = s.latestByte a))
  ∧ (∀ s part r ctx x, s.residOf part = some r → r.standby = none → r.resident ≠ some ctx → (ctx, x) ∈ s.sharers part →
    Resides (.imageFill part ctx) s part fun _ r' => r' = { r with standby := some ctx })
  ∧ (∀ s ctx c r, s.context ctx = some c → s.residOf c.part = some r → r.resident ≠ some ctx → c.dueSince = none →
    c.gainedAt ≠ 0 → max c.leftAt c.gainedAt + 3000000 ≤ s.ns → (s.demand ctx r).isSome = true →
    After (.contextDue ctx) s fun t => t.context ctx = some { c with dueSince := some s.ns }
      ∧ t.agenda = s.agenda ++ [.residentChoice c.part])
  ∧ (∀ s part r e, s.residOf part = some r → r.quantum = some e →
    (s.ns < e → Idle (.quantumExpiry part) s)
    ∧ (e ≤ s.ns → Resides (.quantumExpiry part) s part fun t r' => r' = { r with quantum := none }
      ∧ t.agenda = s.agenda ++ [.residentChoice part]))
  ∧ (∀ s n, After (.crockUncorrectable (.team n)) s fun t => t.agenda = .teamEnd n 0x0026#16 :: s.agenda
    ∧ ∀ p ∈ t.groups, p.2.engine = .partition → p.2.team = n → p.2.halted = true)
  ∧ (∀ s ctx, After (.crockUncorrectable (.image ctx)) s fun t =>
    ∀ q, (t.queue q).ctx.toNat = ctx → (t.queue q).en = false)

open Sys2Proof Sys2Proof.Machine Sys2Proof.Stated in
/-- R288, R301, R303, R304: a mapping that changes leaves its entry in the table and no unit with a translation of its
range, but none unmaps a page of a save area, at any level; a migration to another die first sets MIG in the leaf of a
page of near or far memory (it moves within the one or within the other: log 97), and at its home's next turn the leaf
names the new page, MIG clear and its other fields as they were; one given up after 50 µs has MIG clear and ADDR as it
was. -/
def Sys2Proof.Stated.Mappings : Prop :=
  (∀ s ctx va lvl e a, s.entryOf ctx va lvl = some a → s.unmapsSave (s.entryAt a) e lvl = true →
    Idle (.mappingChange ctx va lvl e) s)
  ∧ (∀ s ctx va lvl e a, s.entryOf ctx va lvl = some a → s.unmapsSave (s.entryAt a) e lvl = false → s.slices = [] → After (.mappingChange ctx va lvl e) s fun t =>
    t.entryAt a = e ∧ Untranslated t ctx (va.toNat - va.toNat % levelSpan lvl) (levelSpan lvl))
  ∧ (∀ s ctx va lvl e, s.entryOf ctx va lvl = none → Idle (.mappingChange ctx va lvl e) s)
  ∧ (∀ s ctx va dst leaf, s.migs = [] → s.entryOf ctx va 0 = some leaf →
    (s.entryAt leaf).getLsbD 0 = true → (s.entryAt leaf).getLsbD 1 = true → (s.entryAt leaf).getLsbD 7 = false →
    s.pageGood (entryAddr (s.entryAt leaf)) = true → s.pageGood dst.toNat = true →
    ownerOf dst.toNat ≠ ownerOf (entryAddr (s.entryAt leaf)) → placeOf s dst.toNat = placeOf s (entryAddr (s.entryAt leaf)) →
    After (.pageMigration ctx va dst) s fun t => t.entryAt leaf = (s.entryAt leaf ||| 0x80#64)
      ∧ t.migs = [⟨ctx, pageOf va false, BitVec.ofNat 52 (entryAddr (s.entryAt leaf)), dst, false, s.ns, []⟩]
      ∧ Untranslated t ctx (pageOf va false).toNat (2 ^ 18))
  ∧ (∀ s ctx va dst leaf, s.migs = [] → s.entryOf ctx va 0 = some leaf → placeOf s dst.toNat ≠ placeOf s (entryAddr (s.entryAt leaf)) →
    Idle (.pageMigration ctx va dst) s)
  ∧ (∀ s va m leaf, s.migs = [m] → m.moved = false → m.page = pageOf va false → s.pageHeld m.oldPa.toNat = false →
    s.entryOf m.ctx m.page 0 = some leaf → After (.pageMigration m.ctx va m.newPa) s fun t =>
      t.entryAt leaf = ((s.entryAt leaf &&& 0xFFF000000003FF7F#64) ||| m.newPa.setWidth 64)
      ∧ t.migs = [{ m with moved := true }] ∧ Untranslated t m.ctx m.page.toNat (2 ^ 18))
  ∧ (∀ s va m leaf, s.migs = [m] → m.moved = false → m.page = pageOf va false → s.entryOf m.ctx va 0 = some leaf →
    (s.ns < m.startNs + 50000 → Idle (.migrationAbandon m.ctx va) s)
    ∧ (m.startNs + 50000 ≤ s.ns → After (.migrationAbandon m.ctx va) s fun t =>
      t.entryAt leaf = (s.entryAt leaf &&& ~~~0x80#64) ∧ t.migs = [{ m with moved := true, newPa := m.oldPa }]))

open Sys2Proof Sys2Proof.Machine Sys2Proof.Stated in
/-- The steps of firmware that resolve faults, choose what is resident and change mappings (spec/08 R215, R389,
spec/15 R289 to R304). -/
def Obligations.ContextEvents : Prop :=
  Sys2Proof.Stated.FaultsResolved ∧ Sys2Proof.Stated.Residencies ∧ Sys2Proof.Stated.Mappings

namespace Sys2Proof.Stated

open Machine

/-- A ring packet of type `ty` stands in hand, at the index the timeline waits for, with nothing of its queue in
flight. -/
def InHand (s : State) (q : Nat) (x : FrontItem) (ty : Nat) : Prop :=
  s.front = some x ∧ x.queue = q ∧ (packetOf x.bytes).type = ty ∧ x.child = none ∧ (s.queue q).inFlight = []
    ∧ (s.queue q).complete = [] ∧ ((s.queue q).tlv - (s.queue q).tlInit).toNat = x.index

/-- Does the migration of a page keep the record of a packet of the ring from being written? -/
def RecordHeld (s : State) (q : Nat) (x : FrontItem) : Prop :=
  s.completionHeld ⟨q, x.index, 0, 0#64, 0, 0#16, false, none, 0⟩ = true

/-- The packet in hand completes: the front end is free and QRPTR has risen by one; the timeline has too, unless the
record's page is being migrated (in state `u`, in which the packet's work is done): then the completion waits. -/
def Completes (i : Instr) (s u : State) (q : Nat) (x : FrontItem) : Prop :=
  After i s fun t => t.front = none ∧ (t.queue q).rptr = (s.queue q).rptr + 1#64
    ∧ (¬RecordHeld u q x → (t.queue q).tlv = (s.queue q).tlv + 1#64 ∧ (t.queue q).inFlight = [] ∧ t.heldEnds = s.heldEnds)
    ∧ (RecordHeld u q x → (t.queue q).tlv = (s.queue q).tlv ∧ (t.queue q).inFlight = [x.index]
      ∧ ∃ c, t.heldEnds = s.heldEnds ++ [c] ∧ c.queue = q ∧ c.index = x.index)

/-- A checked launch of the type goes out: it stands under the next number, as the packet has it, and QRPTR has risen. -/
def Launches (t s : State) (q : Nat) (l : Launch) : Prop :=
  t.front = none ∧ (t.queue q).rptr = (s.queue q).rptr + 1#64 ∧ s.nextId < t.nextId
    ∧ ∃ l', t.launch? s.nextId = some l' ∧ l'.packet = l.packet ∧ l'.desc = l.desc ∧ l'.startNs = s.ns ∧ l'.counter = l.counter

end Sys2Proof.Stated

open Sys2Proof Sys2Proof.Machine Sys2Proof.Stated in
/-- R253, R254, R305, R378: what the host does. An access of BAR 2 that no window of the context takes in, or that the
window's rights do not allow, is answered unsupported; one whose page is frozen is tried again; a read takes the bytes
at their home and a write leaves its bytes there. A line of the coherent window that the host reads is its latest and
the host shares it; what it writes is what every die sees. A snoop without an answer and an uncorrectable error put
the link in its error state, and a reset takes it out. (What the host does comes only through inputs: log 71; an
access to a page under migration waits: log 75.) -/
def Sys2Proof.Stated.HostAccesses : Prop :=
  (∀ s ctx offset acc, s.windowAt ctx offset (HostAccess.size acc) = none →
    After (.hostBar2Access ctx offset acc) s fun t => t.outbox = s.outbox ++ [.unsupported] ∧ SameMemory s t)
  ∧ (∀ s ctx offset n w, s.windowAt ctx offset n = some w →
    (w.rd = false → After (.hostBar2Access ctx offset (.read n)) s fun t => t.outbox = s.outbox ++ [.unsupported])
    ∧ (∀ ps, w.rd = true → s.reds = [] → s.keyed = [] → (∀ p ∈ ps, placeOf s p.1 ≠ .regs)
      → hostParts s ctx .read (bufferAccesses 0 (w.va + BitVec.ofNat 80 (offset - w.bar)) n) = some (some ps) →
      After (.hostBar2Access ctx offset (.read n)) s fun t => SameMemory s t ∧ t.outbox = s.outbox
        ++ [.hostRead (ps.flatMap fun p => readWith (memGet s.mem) p.1 p.2) (ps.any fun p => s.readsPoison p.1)])
    ∧ (w.rd = true → hostParts s ctx .read (bufferAccesses 0 (w.va + BitVec.ofNat 80 (offset - w.bar)) n) = some none →
      After (.hostBar2Access ctx offset (.read n)) s fun t =>
        t.inputs = (s.now + 1, .hostBar2Access ctx offset (.read n)) :: s.inputs))
  ∧ (∀ s ctx offset bs w pa, s.windowAt ctx offset bs.length = some w → w.wr = true → s.reds = [] → s.keyed = []
    → placeOf s pa = .near ∨ placeOf s pa = .far ∨ placeOf s pa = .cream ∨ placeOf s pa = .hostWindow
    → hostParts s ctx .write (bufferAccesses 0 (w.va + BitVec.ofNat 80 (offset - w.bar)) bs.length)
      = some (some [(pa, bs.length)]) →
    After (.hostBar2Access ctx offset (.write bs)) s fun t => ∀ a, memGet t.mem a =
      if pa ≤ a then (bs[a - pa]?).getD (memGet s.mem a) else memGet s.mem a)
  ∧ (∀ s offset, offset < 0x4000000 → s.hostErr = false → s.reds = [] → After (.hostWindowRead offset) s fun t =>
    t.outbox = s.outbox ++ [.hostRead (readWith s.latestByte (windowPa (offset - offset % 128)) 128)
      (s.poisonAt (windowPa (offset - offset % 128)))]
    ∧ lineOf (windowPa offset) ∈ t.hostShares ∧ SameMemory s t)
  ∧ (∀ s offset bs, offset + bs.length ≤ 0x4000000 → s.hostErr = false → s.reds = [] → s.log = [] → SlicesHoldDirty s →
    After (.hostWindowWrite offset bs) s fun t => ∀ a, t.latestByte a =
      (if windowPa offset ≤ a then (bs[a - windowPa offset]?).getD (s.latestByte a) else s.latestByte a)
      ∧ ∀ d, t.viewByte d a = t.latestByte a)
  ∧ (∀ s, After .hostSnoopTimeout s fun t => t = { s with hostErr := true, hostShares := [] })
  ∧ (∀ s, After .cxlUncorrectableError s fun t => t = { s with hostErr := true, hostShares := [] })
  ∧ (∀ s, s.boot.ready = true → s.accepts s.asker = true → After .hostLinkReset s fun t =>
    t.hostErr = false ∧ t.hostShares = [] ∧ SameMemory s t)

open Sys2Proof Sys2Proof.Machine Sys2Proof.Stated in
/-- R6, R236, R267, R268, R281, R376: writes of registers. A doorbell that would lower QWPTR or overfill the ring is
ignored, and any other one moves QWPTR; QCTL takes PRIO, LOGSZ up to 12 and CTX while the queue is disabled, and EN
set, which takes effect from the last step of a start on (spec/21 R369; log 104), clears QWPTR and QRPTR and takes
TLINIT from QTLV; a base of a disabled queue takes the value; ICW keeps its budget for a value outside 1 to 4,096, and
a new budget acts from the next evaluation. -/
def Sys2Proof.Stated.RegistersWritten : Prop :=
  (∀ s n (w : DWord), let q := s.queue n
    (w.toNat < q.wptr.toNat ∨ q.size < w.toNat - q.rptr.toNat → Idle (.doorbell n w) s)
    ∧ (q.wptr.toNat < w.toNat → w.toNat - q.rptr.toNat ≤ q.size → After (.doorbell n w) s fun t =>
      t.queue n = { q with wptr := w } ∧ ∀ k, k ≠ n → t.queue k = s.queue k))
  ∧ (∀ s n (v : Word), let q := s.queue n
    let en : Bool := v.getLsbD 31 && s.boot.ready
    (q.en = true → After (.qctlWrite n v) s fun t => t.queue n = { q with en := en })
    ∧ (q.en = false → After (.qctlWrite n v) s fun t => ∃ x, t.queue n = x ∧ x.en = en
      ∧ x.prio = v.extractLsb' 20 5 ∧ x.ctx = v.extractLsb' 8 8
      ∧ x.logsz = (if (v.extractLsb' 16 4).toNat ≤ 12 then v.extractLsb' 16 4 else q.logsz)
      ∧ x.qbase = q.qbase ∧ x.qspace = q.qspace ∧ x.qcbase = q.qcbase ∧ x.tlv = q.tlv ∧ x.ph = q.ph
      ∧ (en = true → x.wptr = 0#64 ∧ x.rptr = 0#64 ∧ x.tlInit = q.tlv)
      ∧ (en = false → x.wptr = q.wptr ∧ x.rptr = q.rptr ∧ x.tlInit = q.tlInit)))
  ∧ (∀ s (v : DWord), ∃ t, exec (.registerWrite 0x500000 4 v) s = .next t ∧ exec (.pwrctlWrite (v.setWidth 32)) s = .next t)
  ∧ (∀ s n (v : DWord), n < 256 →
    ((s.queue n).en = false → After (.registerWrite (0x100008 + 0x40 * n) 8 v) s fun t =>
      t.queue n = { s.queue n with qbase := v })
    ∧ ((s.queue n).en = true → Idle (.registerWrite (0x100008 + 0x40 * n) 8 v) s)
    ∧ Idle (.registerWrite (0x100028 + 0x40 * n) 8 v) s)
  ∧ (∀ s ctx c (v : Word), s.context ctx = some c → After (.icwWrite ctx v) s fun t => ∃ c', t.context ctx = some c'
    ∧ c'.icw.getLsbD 31 = v.getLsbD 31 ∧ c'.icw.extractLsb' 13 18 = 0#18
    ∧ (1 ≤ (v.extractLsb' 0 13).toNat → (v.extractLsb' 0 13).toNat ≤ 4096 → c'.icw.extractLsb' 0 13 = v.extractLsb' 0 13)
    ∧ ((v.extractLsb' 0 13).toNat = 0 ∨ 4096 < (v.extractLsb' 0 13).toNat →
      c'.icw.extractLsb' 0 13 = c.icw.extractLsb' 0 13)
    ∧ (c.budFrom = [] → t.budgetOf ctx = icwBudget c.icw
      ∧ ∀ u : State, u.contexts = t.contexts → 256 * (s.now / 256 + 1) ≤ u.now → u.budgetOf ctx = icwBudget c'.icw))

open Sys2Proof Sys2Proof.Machine Sys2Proof.Stated in
/-- R269, R270, R274, R282, R284, R333: the front end takes up the packet that is next; NOP, WAIT, FLUSH and a
reserved type complete there, as does a launch with a reserved bit; a checked LAUNCH or GRAPH goes to the
distributors, a SCRIPT to the circuit processor or, with no place free or others held already, among those held; a
change of phase is cleaned for first, and a held script is taken up when a place is free. A completion whose record
lies in a page under migration waits, and with it the timeline (R281, R300; the model's reading: log 75). (Of equal
queues the lowest: log 5.) -/
def Sys2Proof.Stated.Packets : Prop :=
  (∀ s, s.frontRuns = false → Idle .packetDispatch s)
  ∧ (∀ s q u x, s.frontRuns = true → s.nextQueue (s.enabledQueues.filter fun q => (s.readyItem q).2.isSome) = some q
    → s.readyItem q = (u, some x) → After .packetDispatch s fun t =>
      t.front = some x ∧ t.agenda.head? = some (packetEvent q (packetOf x.bytes).type))
  ∧ (∀ s q x, InHand s q x 0 → Completes (.nopPacket q) s s q x)
  ∧ (∀ s q x, InHand s q x 4 → Completes (.waitPacket q) s s q x)
  ∧ (∀ s q x, InHand s q x 5 → packetReserved x.bytes = true ∨ (packetOf x.bytes).flushGood = false →
    Completes (.flushPacket q) s s q x)
  ∧ (∀ s q x, InHand s q x 5 → packetReserved x.bytes = false → (packetOf x.bytes).flushGood = true →
    Completes (.flushPacket q) s (s.flushRange (s.queue q).ctx.toNat (packetOf x.bytes)) q x)
  ∧ (∀ s q x ty, 6 ≤ ty → InHand s q x ty → Completes (.reservedPacket q) s s q x)
  ∧ (∀ s q x, x.launch = none → packetReserved x.bytes = true →
    (InHand s q x 1 → Completes (.launchPacket q) s s q x) ∧ (InHand s q x 2 → Completes (.graphPacket q) s s q x)
      ∧ (InHand s q x 3 → Completes (.scriptPacket q) s s q x))
  ∧ (∀ s q x l, x.launch = some l → x.child = none → s.front = some x → x.queue = q → (packetOf x.bytes).type = l.packet.type
    → s.phaseChange q l.packet = false →
    (l.packet.type = 1 → After (.launchPacket q) s fun t => Launches t s q l ∧ t.ranges = s.ranges
      ++ distribute s.nextId (l.packet.nteam / (if l.packet.cwidth < 2 then 1 else l.packet.cwidth)) (s.partitionOf l.ctx))
    ∧ (∀ c, l.packet.type = 2 → s.seedCluster (s.partitionOf l.ctx) = some c → After (.graphPacket q) s fun t =>
      Launches t s q l ∧ t.ranges = s.ranges ++ [⟨s.nextId, c, 0, 1⟩])
    ∧ (∀ i, l.packet.type = 3 → s.freeScript = some i → After (.scriptPacket q) s fun t => Launches t s q l
      ∧ ∃ g, mapGet? t.groups (scriptKey i) = some g ∧ g.engine = .circuit ∧ g.exited = 0xFFFFFFFE#32
        ∧ g.table = [⟨entryPc l.packet.desc l.desc, 1#32, 0⟩] ∧ g.ctx = l.ctx)
    ∧ (l.packet.type = 3 → s.freeScript = none → After (.scriptPacket q) s fun t =>
      t.scripts = s.scripts ++ [x] ∧ t.front = none))
  ∧ (∀ s q x l u, InHand s q x 3 → x.launch = none → packetReserved x.bytes = false → (packetOf x.bytes).launchGood = true →
    s.checkLaunchReads (s.baseLaunch x) = (u, .pass l) → l.packet.type = 3 → u.freeScript = none ∨ u.scripts ≠ [] →
    After (.scriptPacket q) s fun t => t.scripts = u.scripts ++ [{ x with launch := some l }] ∧ t.front = none)
  ∧ (∀ s q x l, s.front = some x → x.launch = some l → x.queue = q → s.phaseChange q l.packet = true →
    After (.phaseCleaning q) s fun t => (t.queue q).ph = l.packet.phase
      ∧ t.agenda.head? = some (packetEvent q l.packet.type))
  ∧ (∀ s q x, s.freeScript ≠ none → s.frontRuns = true
    → s.nextQueue (s.enabledQueues.filter fun q => s.scripts.any fun x => x.queue = q) = some q
    → (s.scripts.find? fun x => x.queue = q) = some x → After .scriptHeldStart s fun t => t.front = some x
      ∧ t.scripts = s.scripts.erase x ∧ t.agenda.head? = some (.scriptPacket q))

open Sys2Proof Sys2Proof.Machine Sys2Proof.Stated in
/-- R284, R250: a FLUSH over a range. With WB set every byte of a line of the range stands at its home as it was
latest and no slice holds a modified copy of the line; with INV set no L1 and no slice holds a copy of one, so that
with INV alone what a slice alone held is gone. Every other byte is what it was latest, and every die sees it so; the
lines that the packet's completion record is written to are left out. Of a line every copy is treated, under whatever
address it is cached, and stores still under way become visible first (the model's reading: log 33). -/
def Sys2Proof.Stated.FlushedLines : Prop :=
  ∀ s q x, InHand s q x 5 → packetReserved x.bytes = false → (packetOf x.bytes).flushGood = true → s.keyed = [] →
    (∀ y ∈ s.dirty, ∃ l ∈ s.slices, l.pline = lineOf y.1 ∧ l.modified = true) → (∀ r ∈ s.log, r.parked = false) →
    (let p := packetOf x.bytes
    let ctx := (s.queue q).ctx.toNat
    let wb : Prop := p.flags.getLsbD 1 = true
    let inv : Prop := p.flags.getLsbD 2 = true
    let within (a : Nat) : Prop := s.rangeHas ctx (vaddr p.space p.addr).toNat p.len (lineOf a) = true
    let recorded (a : Nat) : Prop := ∃ pa k r big, (s.flushRange ctx p).walk ctx
      (s.recordVa ⟨q, x.index, 0, 0#64, 0, 0#16, false, none, 0⟩) .write = .ok pa k r big
        ∧ (lineOf a = lineOf pa ∨ lineOf a = lineOf (pa + 31))
    wb ∨ inv → After (.flushPacket q) s fun t => ∀ a, ¬recorded a →
      (wb → within a → memGet t.mem a = s.latestByte a ∧ ∀ l ∈ t.slices, l.pline = lineOf a → l.modified = false)
      ∧ (inv → within a → (∀ l ∈ t.slices, l.pline ≠ lineOf a) ∧ ∀ core, ∀ l ∈ t.l1Of core, l.pline ≠ lineOf a)
      ∧ (inv ∧ ¬wb ∧ within a → t.latestByte a = memGet (s.showAll fun _ => true).mem a)
      ∧ (¬(inv ∧ ¬wb ∧ within a) → t.latestByte a = s.latestByte a)
      ∧ ∀ d, d < 8 → t.viewByte d a = t.latestByte a)

open Sys2Proof Sys2Proof.Machine Sys2Proof.Stated in
/-- R368: a command core that traps starts again at its vector with its locks freed, and one that traps again within 1
s is out. -/
def Sys2Proof.Stated.CommandCoreTraps : Prop :=
  ∀ s i g, mapGet? s.groups (commandKey i) = some g →
    ((∀ n, mapGet? s.cmcTrapNs i = some n → n + 1000000000 ≤ s.ns) → After (.cmcTrap i) s fun t =>
      (∃ g', mapGet? t.groups (commandKey i) = some g' ∧ g'.table = [⟨g.trap.vec, 1#32, 0⟩] ∧ g'.halted = false
        ∧ g'.exited = 0xFFFFFFFE#32) ∧ (∀ x ∈ t.qlocks, x.2 ≠ commandKey i) ∧ mapGet? t.cmcTrapNs i = some s.ns)
    ∧ (∀ n, mapGet? s.cmcTrapNs i = some n → s.ns < n + 1000000000 → After (.cmcTrap i) s fun t =>
      i ∈ t.cmcOut ∧ mapGet? t.groups (commandKey i) = none ∧ ∀ x ∈ t.qlocks, x.2 ≠ commandKey i)

open Sys2Proof Sys2Proof.Machine Sys2Proof.Stated in
/-- The steps of the host, of the front end and of the command cores (spec/10 R236, spec/11 R253, R254, spec/14,
spec/15 R305, spec/21 R368, R376, R378). -/
def Obligations.HostAndFrontEvents : Prop :=
  Sys2Proof.Stated.HostAccesses ∧ Sys2Proof.Stated.RegistersWritten ∧ Sys2Proof.Stated.Packets
    ∧ Sys2Proof.Stated.FlushedLines ∧ Sys2Proof.Stated.CommandCoreTraps

namespace Sys2Proof.Stated

open Machine

/-- A buffer after an acknowledgement: what the ACK covers has left it. -/
def acked (x : LinkDir) (a : BitVec 16) : List LinkFlit := x.buffer.filter fun b => 0 < (b.seq - a).toInt

/-- The SEQs of a list of flits from one on. -/
def seqsFrom (bs : List LinkFlit) (q : BitVec 16) : List (BitVec 16) := (bs.filter fun b => 0 ≤ (b.seq - q).toInt).map (·.seq)

/-- A good flit of a KIND: 240 bytes of payload, zeros in its reserved bytes, and its CRC. -/
def GoodFlit (f : Flit) (kind : Byte) : Prop :=
  f.payload.length = 240 ∧ f.kind = kind ∧ f.rsv = 0#24 ∧ f.crc = (flitBytes f).foldl crcByte 0#64

/-- The receiver of a direction owes a NAK for the SEQ it expects, one per 0.1 µs at most, and retrains at the fourth. -/
def OwesNak (t s : State) (k : Nat) (d : Bool) : Prop :=
  let x := (s.link k).dir d
  let y := (t.link k).dir d
  y.expect = x.expect
    ∧ ((∀ n, x.lastNak = some n → n + 100 ≤ s.ns) → y.failures = x.failures + 1
      ∧ (x.failures < 3 → y.nak = true ∧ y.lastNak = some s.ns)
      ∧ (3 ≤ x.failures → t.agenda.head? = some (.linkRetrain k)))
    ∧ ∀ n, x.lastNak = some n → s.ns < n + 100 → y.failures = x.failures ∧ y.nak = x.nak

/-- A flit that arrives on link `k` and fails a check is counted and taken no further. -/
def BadFlit (i : Instr) (s : State) (k : Nat) (d : Bool) : Prop :=
  After i s fun t => (t.link k).crc = min 0xFFFFFFFF ((s.link k).crc + 1) ∧ OwesNak t s k d ∧ SameMemory s t

/-- A resend round from a SEQ is due in a direction whose replay buffer is now `buf`: it begins at once, and what it sends
again counts in REPLAYS, when each of them has been sent once; else it is kept for then. -/
def RoundFrom (t s : State) (k : Nat) (d : Bool) (buf : List LinkFlit) (q : BitVec 16) : Prop :=
  let x := (t.link k).dir d
  x.buffer = buf
    ∧ ((∀ b ∈ buf, b.sent.isSome = true) → x.round = none ∧ (seqsFrom buf q ≠ [] → x.again = seqsFrom buf q
      ∧ (t.link k).replays = min 65535 ((s.link k).replays + (seqsFrom buf q).length)))
    ∧ ((∃ b ∈ buf, b.sent = none) → x.round = some q ∧ (t.link k).replays = (s.link k).replays)

/-- A test of a link's lanes leaves it in a state and at a width, stamped in LKSTEP. -/
def LinkAt (t s : State) (k st lanes : Nat) : Prop :=
  (t.link k).state = st ∧ (t.link k).lanes = lanes ∧ (t.link k).step = BitVec.ofNat 32 (s.ns / 1000)

/-- Traffic resumes on a link at a width, and at 32 lanes on its upper half or its lower: every flit sent and not yet
acknowledged goes again first, and counts in REPLAYS. -/
def Resumes (t s : State) (k lanes : Nat) (upper : Bool) : Prop :=
  let sent (d : Bool) : List (BitVec 16) := (((s.link k).dir d).buffer.filter fun b => b.sent.isSome).map (·.seq)
  LinkAt t s k 1 lanes ∧ (t.link k).upper = upper ∧ (∀ d, ((t.link k).dir d).again = sent d)
    ∧ (t.link k).replays = min 65535 ((s.link k).replays + (sent true).length + (sent false).length)

end Sys2Proof.Stated

open Sys2Proof Sys2Proof.Machine Sys2Proof.Stated in
/-- R341, R342, R345, R356: flits on a die-to-die link that carries traffic, good by their KIND, zeros in their reserved
bytes and their CRC-64 (its bit order and start: log 34). A good flit frees what its ACK covers. A data flit in order is
taken, its message going on or reaching its home; a duplicate changes nothing more; an early one and a bad one, which is
counted, make the receiver owe a NAK, at most one per 0.1 µs, and a fourth failure of a SEQ starts retraining. A good NAK
makes a resend round from its ACK + 1 due, and so does a time-out of 2 µs from the oldest flit; a round begins once every
flit of the buffer has been sent, and what it sends counts in REPLAYS. No end has more than 512 flits in its replay buffer
by taking up messages. The NAK owed goes out before all else, with the ACK of the SEQ before the one expected. Reading
LKCRC clears it. -/
def Sys2Proof.Stated.LinkFlits : Prop :=
  (∀ s k d (f : Flit), k < 4 → (s.link k).state = 1 → let x := (s.link k).dir d
    (GoodFlit f 1#8 → After (.linkDataFlit k d f) s fun t =>
      ((t.link k).dir (!d)).buffer = acked ((s.link k).dir (!d)) f.ack ∧ (t.link k).crc = (s.link k).crc ∧ SameMemory s t
      ∧ (f.seq = x.expect → ((t.link k).dir d).expect
        = if ∃ b ∈ x.buffer, b.seq = f.seq ∧ b.sent.isSome = true then x.expect + 1#16 else x.expect)
      ∧ (∀ b m r, f.seq = x.expect → x.buffer = [b] → b.seq = f.seq → b.sent.isSome = true → b.msgs = [m] → r ∈ s.reqs →
        r.op = m.op → r.lane = m.lane →
        (m.back = false → m.dst = linkInto k d → r.stage = .out → { r with stage := .home } ∈ t.reqs)
        ∧ (m.back = true → m.src = linkInto k d → r.stage = .back → r ∉ t.reqs))
      ∧ ((f.seq - x.expect).toInt < 0 → ((t.link k).dir d).expect = x.expect ∧ ((t.link k).dir d).failures = x.failures)
      ∧ (0 < (f.seq - x.expect).toInt → OwesNak t s k d))
    ∧ (¬GoodFlit f 1#8 → BadFlit (.linkDataFlit k d f) s k d)
    ∧ (GoodFlit f 0#8 → After (.linkIdleFlit k d f) s fun t => ((t.link k).dir d).expect = x.expect
      ∧ ((t.link k).dir (!d)).buffer = acked ((s.link k).dir (!d)) f.ack ∧ SameMemory s t)
    ∧ (¬GoodFlit f 0#8 → BadFlit (.linkIdleFlit k d f) s k d)
    ∧ (GoodFlit f 2#8 → After (.linkNak k d f) s fun t =>
      RoundFrom t s k (!d) (acked ((s.link k).dir (!d)) f.ack) (f.ack + 1#16) ∧ SameMemory s t)
    ∧ (¬GoodFlit f 2#8 → BadFlit (.linkNak k d f) s k d))
  ∧ (∀ s k d (f : Flit), (s.link k).state ≠ 1 → Idle (.linkDataFlit k d f) s ∧ Idle (.linkIdleFlit k d f) s
    ∧ Idle (.linkNak k d f) s ∧ Idle (.linkResendTimeout k d) s)
  ∧ (∀ s k d b rest n, k < 4 → (s.link k).state = 1 → let x := (s.link k).dir d
    x.buffer = b :: rest → b.sent = some n →
    (s.ns < n + 2000 ∨ x.again ≠ [] ∨ x.round ≠ none → Idle (.linkResendTimeout k d) s)
    ∧ (n + 2000 ≤ s.ns → x.again = [] → x.round = none → After (.linkResendTimeout k d) s fun t =>
      RoundFrom t s k d x.buffer b.seq))
  ∧ (∀ n (x : LinkDir), (fillFlits n x).buffer.length ≤ max 512 x.buffer.length
    ∧ (x.round ≠ none ∨ x.again ≠ [] → fillFlits n x = x))
  ∧ (∀ (s : State) k d, k < 4 → (s.link k).state = 1 → ((s.link k).dir d).nextNs ≤ s.ns → ((s.link k).dir !d).nak = true →
    ((s.link k).dir d).round = none → let t := s.sendLink k d
    ((t.link k).dir !d).nak = false ∧ ∃ at_ f, ((t.link k).dir d).wire = ((s.link k).dir d).wire ++ [(at_, f)]
      ∧ f.kind = 2#8 ∧ f.ack = ((s.link k).dir !d).expect - 1#16)
  ∧ (∀ s k, k < 4 → After (.lkcrcRead k) s fun t => t.link k = { s.link k with crc := 0 })

open Sys2Proof Sys2Proof.Machine Sys2Proof.Stated in
/-- R344, R357: four failures of one SEQ or eight resend rounds within 100 µs put a link into retraining, which keeps its
replay buffers; a test of its lanes leaves it at 64 lanes, or at 32 where only one half is good or it had stepped down, or
down, which is reported; a link that is down comes back the same way, reported too, and stays down while neither half is
good; traffic resumes with what was sent and not acknowledged. Around a link that is down each end learns what the other
has delivered, and its buffer empties. A link-state flit that fails its check is counted at the link that brought it, and
comes again (log 34). (What management is told of a link: log 35.) -/
def Sys2Proof.Stated.LinkTraining : Prop :=
  (∀ s k, k < 4 → (s.link k).state = 1 →
    (4 ≤ (s.link k).up.failures ∨ 4 ≤ (s.link k).down.failures
      ∨ 8 ≤ ((s.link k).up.rounds.filter fun n => s.ns < n + 100000).length
      ∨ 8 ≤ ((s.link k).down.rounds.filter fun n => s.ns < n + 100000).length) →
    After (.linkRetrain k) s fun t => LinkAt t s k 2 (s.link k).lanes
      ∧ ∀ d, ((t.link k).dir d).buffer = ((s.link k).dir d).buffer ∧ ((t.link k).dir d).wire = [])
  ∧ (∀ s k, (s.link k).state ≠ 1 → Idle (.linkRetrain k) s)
  ∧ (∀ s k (good : BitVec 64), k < 4 →
    let lower := good.extractLsb' 0 32 = 0xFFFFFFFF#32
    let upper := good.extractLsb' 32 32 = 0xFFFFFFFF#32
    let before := (s.link k).lanes
    ((s.link k).state = 2 →
      (lower → upper → After (.linkRetrainEnd k good) s fun t => Resumes t s k (if before = 32 then 32 else 64) false)
      ∧ (lower → ¬upper → After (.linkRetrainEnd k good) s fun t => Resumes t s k 32 false)
      ∧ (¬lower → upper → After (.linkRetrainEnd k good) s fun t => Resumes t s k 32 true)
      ∧ (¬lower → ¬upper → After (.linkRetrainEnd k good) s fun t => LinkAt t s k 3 before
        ∧ t.outbox = s.outbox ++ [.management 3 [BitVec.ofNat 8 k]]))
    ∧ ((s.link k).state ≠ 2 → Idle (.linkRetrainEnd k good) s)
    ∧ ((s.link k).state = 3 →
      (lower → upper → After (.linkDownRetest k good) s fun t => Resumes t s k (if before = 32 then 32 else 64) false
        ∧ t.outbox = s.outbox ++ [.management 1 [BitVec.ofNat 8 k]])
      ∧ (lower → ¬upper → After (.linkDownRetest k good) s fun t => Resumes t s k 32 false)
      ∧ (¬lower → upper → After (.linkDownRetest k good) s fun t => Resumes t s k 32 true)
      ∧ (¬lower → ¬upper → Idle (.linkDownRetest k good) s))
    ∧ ((s.link k).state ≠ 3 → Idle (.linkDownRetest k good) s))
  ∧ (∀ s k d (f : Flit), k < 4 →
    ((s.link k).state = 3 → ((s.link k).dir (!d)).told = false → GoodFlit f 3#8 → After (.linkStateFlit k d f) s fun t =>
      ((t.link k).dir (!d)).buffer = [] ∧ ((t.link k).dir (!d)).expect = ((s.link k).dir (!d)).nextSeq
      ∧ ((t.link k).dir (!d)).told = true ∧ (t.link k).replays = (s.link k).replays ∧ SameMemory s t)
    ∧ ((s.link k).state = 3 → ((s.link k).dir (!d)).told = false → ¬GoodFlit f 3#8 → After (.linkStateFlit k d f) s fun t =>
      (let v := if d then (k + 1) % 4 else (k + 3) % 4
      (t.link v).crc = min 0xFFFFFFFF ((s.link v).crc + 1)) ∧ ((t.link k).dir d).stateAt.isSome = true
      ∧ ((t.link k).dir (!d)).buffer = ((s.link k).dir (!d)).buffer)
    ∧ ((s.link k).state ≠ 3 ∨ ((s.link k).dir (!d)).told = true → Idle (.linkStateFlit k d f) s))

open Sys2Proof Sys2Proof.Machine Sys2Proof.Stated in
/-- The steps of the die-to-die links (spec/18 R341 to R345, spec/19 R356, R357). -/
def Obligations.LinkEvents : Prop := Sys2Proof.Stated.LinkFlits ∧ Sys2Proof.Stated.LinkTraining

namespace Sys2Proof.Stated

open Machine

/-- A port is dark with a cause, its lasers off and its keys gone; a ticket that held it and is not being released
takes the cause, broken where the port was live or gated and failed where it was coming up (R312, R313, R327). -/
def Dark (t s : State) (n : Nat) (cause : BitVec 8) : Prop :=
  (t.port n).state = 0 ∧ (t.port n).cause = cause ∧ (t.port n).lights = false ∧ (t.port n).keys = .off
    ∧ ∀ slot, (s.port n).ticket = some slot → (s.ticket slot).firstRel = 0 →
      (t.ticket slot).state = (if 3 ≤ (s.port n).state then 7 else 6) ∧ (t.ticket slot).cause = cause

/-- A lane may lock: it is not retired, retraining, or off for the temperature last reported. -/
def CouldLock (l : OptLane) : Prop := l.retire = false ∧ l.retraining = false ∧ ¬(l.sampled = true ∧ rateFor l.temp = 0)

/-- The highest rate whose band holds a temperature in 0.01 °C, in units of 100 Gb/s (R316). -/
def bandRate (x : BitVec 16) : Nat :=
  let c := x.toInt
  if 3500 ≤ c ∧ c ≤ 7000 then 4 else if 3300 ≤ c ∧ c ≤ 7200 then 3 else if 3100 ≤ c ∧ c ≤ 7400 then 2
  else if 2900 ≤ c ∧ c ≤ 7600 then 1 else 0

/-- A temperature 0.50 °C or more inside the band of a rate. -/
def DeepIn (x : BitVec 16) (rate : Nat) : Prop :=
  2700 + 200 * (rate : Int) + 50 ≤ x.toInt ∧ x.toInt ≤ 7800 - 200 * (rate : Int) - 50

/-- A key agreement's message with a peer's identity key of the pod roster, its three parts in full, and a signature that
verifies (R334). -/
def KeysGood (s : State) (m : List Byte) (ok : Bool) : Prop :=
  m.length = 227 ∧ s.ident.peerKnown ((m.drop 56).take 57) = true ∧ ok = true

/-- A message of a TYPE whose LEN and reserved bytes are as R328 has them. -/
def WellMade (m : SwitchMsg) (kind : BitVec 8) : Prop := m.kind = kind ∧ m.len = 32#16 ∧ m.rsv = 0#56 ∧ m.rsv2 = 0#64

/-- A switch's message of a TYPE names the present ticket of its slot. -/
def Names (s : State) (m : SwitchMsg) (kind : BitVec 8) : Prop :=
  WellMade m kind ∧ m.slot.toNat < 64 ∧ (s.ticket m.slot.toNat).seq = m.seq

/-- The 32 bytes of a message to a switch (R328): VER 1, TYPE, LEN 32, XID, the plane, and in the body the package,
its switch port, the peer and its switch port. -/
def agentBytes (kind slot : Nat) (seq : BitVec 24) (plane pkg port peer peerPort : Nat) : List Byte :=
  [1#8, BitVec.ofNat 8 kind, 32#8, 0#8, BitVec.ofNat 8 slot, seq.extractLsb' 0 8, seq.extractLsb' 8 8, seq.extractLsb' 16 8, BitVec.ofNat 8 plane]
    ++ List.replicate 7 0#8
    ++ [BitVec.ofNat 8 pkg, BitVec.ofNat 8 port, BitVec.ofNat 8 peer, BitVec.ofNat 8 peerPort] ++ List.replicate 12 0#8

/-- Lane `i` of port `n`, after the event, is what it was with `P` changed. -/
def LaneAfter (i : Instr) (s : State) (n l : Nat) (P : OptLane → OptLane → Prop) : Prop :=
  After i s fun t => P ((s.port n).lane l) ((t.port n).lane l)

/-- The slot is free, its sequence number one on, and its port without a ticket. -/
def Freed (t s : State) (n : Nat) : Prop :=
  (t.ticket n).state = 0 ∧ (t.ticket n).seq = (s.ticket n).seq + 1#24
    ∧ (t.port (s.ticket n).port).ticket ≠ some n

end Sys2Proof.Stated

open Sys2Proof Sys2Proof.Machine Sys2Proof.Stated in
/-- R312, R313, R334, R335, R362: a port comes up through settling, training and key agreement, its plane's drain
gating it, and goes dark with the cause of what failed; lanes that lock keep that while training fails, and a lock
time-out gives 0x03 where every lane that could lock has; a Whey session's keys open it or its failed agreement closes
it. An agreement fails unless the message has its three parts, the peer's key is in the pod roster and its signature
verifies. After 2^32 frames in a direction or an hour fresh keys are agreed while traffic goes on, in use from each
side's marked frame. (Rosters before the first start are free: log 14; a lane whose temperature is unknown counts as
inside: log 37.) -/
def Sys2Proof.Stated.PortsUpAndDown : Prop :=
  (∀ s n, let p := s.port n
    (p.state = 0 → p.lights = true → After (.portSettled n) s fun t => t.port n = { p with
      state := 1, sinceNs := s.ns, lanes := p.lanes.map fun l => { l with locked := false } })
    ∧ (p.state ≠ 0 ∨ p.lights = false → Idle (.portSettled n) s))
  ∧ (∀ s n (up : LanesUp), let p := s.port n
    let q := p.lanes.mapIdx fun (i : Nat) (l : OptLane) => l.trained (up.locked.getLsbD i) (up.trained.getLsbD i)
    (∀ i, i < 4 → ((vget q i OptLane.reset).locked = up.locked.getLsbD i)
      ∧ (vget q i OptLane.reset).failed = !(up.locked.getLsbD i && up.trained.getLsbD i))
    ∧ (p.state = 1 → 2 ≤ (q.toList.filter OptLane.usable).length → After (.portTrained n up) s fun t =>
      (t.port n).state = 2 ∧ (t.port n).lanes = q ∧ (t.port n).keys.agree.isSome = true
      ∧ ∃ m, m.length = 56 + 57 + 114 ∧ t.outbox = s.outbox ++ [.keyShare n m])
    ∧ (p.state = 1 → (q.toList.filter OptLane.usable).length < 2 → After (.portTrained n up) s fun t =>
      t.port n = { p with lanes := q })
    ∧ (p.state ≠ 1 → Idle (.portTrained n up) s))
  ∧ (∀ s n (open_ : BitVec 4), (s.port n).state = 1 →
    (s.ns < (s.port n).sinceNs + 2000000 → Idle (.portLockTimeout n open_) s)
    ∧ ((s.port n).sinceNs + 2000000 ≤ s.ns →
      ((∃ i, i < 4 ∧ open_.getLsbD i = true ∧ CouldLock ((s.port n).lane i)) →
        After (.portLockTimeout n open_) s fun t => Dark t s n 0x02#8)
      ∧ ((∀ i, i < 4 → open_.getLsbD i = true → ¬CouldLock ((s.port n).lane i)) →
        After (.portLockTimeout n open_) s fun t => Dark t s n 0x03#8)))
  ∧ (∀ s n m ok, (s.port n).state = 2 →
    (KeysGood s m ok → After (.keyAgreementComplete ⟨.port n, m, ok⟩) s fun t =>
      (t.port n).state = (if s.drained.getLsbD (planeOf n) then 4 else 3)
      ∧ (t.port n).keyGen = (s.port n).keyGen + 1 ∧ (t.port n).sent = 0 ∧ (t.port n).frames = 0
      ∧ (t.port n).keys.agree = none ∧ (t.port n).keys.send.key.length = 32 ∧ (t.port n).keys.recv.key.length = 32
      ∧ ∀ slot, (s.port n).ticket = some slot → (t.ticket slot).state = 4)
    ∧ (¬KeysGood s m ok → After (.keyAgreementComplete ⟨.port n, m, ok⟩) s fun t => Dark t s n 0x06#8)
    ∧ After (.keyAgreementTimeout (.port n)) s fun t => Dark t s n 0x06#8)
  ∧ (∀ s n m ok, n ≠ 0 → (s.session n).state = 1 →
    (KeysGood s m ok → After (.keyAgreementComplete ⟨.session n, m, ok⟩) s fun t => (t.session n).state = 2
      ∧ (t.session n).keyGen = (s.session n).keyGen + 1 ∧ (t.session n).keys.send.key.length = 32)
    ∧ (¬KeysGood s m ok → After (.keyAgreementComplete ⟨.session n, m, ok⟩) s fun t => (t.session n).state = 0)
    ∧ After (.keyAgreementTimeout (.session n)) s fun t => (t.session n).state = 0)
  ∧ (∀ (s : State) key, s.ident.podSet = true → s.ident.peerKnown key = s.ident.podRoster.contains key)
  ∧ (∀ (s : State) who d m, (s.agreedKeys who d m).1.key ++ (s.agreedKeys who d m).2.key =
      let k := ((List.range 88).map (Config.shakeByte ((List.range 56).map (Config.sharedByte d (m.take 56))
        ++ (let low := bytesLow identityKey (peerIdentity m)
          (if low then ephemeralKey d ++ m.take 56 else m.take 56 ++ ephemeralKey d)
            ++ (if low then identityKey ++ peerIdentity m else peerIdentity m ++ identityKey) ++ s.transcript low who))))
      if bytesLow identityKey (peerIdentity m) then k.take 64 else (k.drop 32).take 32 ++ k.take 32)
  ∧ (∀ s n, let p := s.port n
    3 ≤ p.state → p.keys.agree = none → p.keys.next = none →
    (2 ^ 32 ≤ p.frames ∨ 2 ^ 32 ≤ p.sent ∨ p.keyNs + 3600000000000 ≤ s.ns → After (.rekey (.port n)) s fun t =>
      (t.port n).state = p.state ∧ (t.port n).keys.agree.isSome = true ∧ (t.port n).keys.send = p.keys.send
      ∧ ∃ m, t.outbox = s.outbox ++ [.keyShare n m])
    ∧ (p.frames < 2 ^ 32 → p.sent < 2 ^ 32 → s.ns < p.keyNs + 3600000000000 → Idle (.rekey (.port n)) s))
  ∧ (∀ s n m ok, let p := s.port n
    3 ≤ p.state →
    (KeysGood s m ok → After (.keyAgreementComplete ⟨.port n, m, ok⟩) s fun t => (t.port n).state = p.state
      ∧ (t.port n).keyGen = p.keyGen + 1 ∧ (t.port n).keyNs = s.ns ∧ (t.port n).frames = 0 ∧ (t.port n).sent = 0
      ∧ (t.port n).keys.mark = true ∧ (t.port n).keys.recv = p.keys.recv ∧ (t.port n).keys.next.isSome = true)
    ∧ (¬KeysGood s m ok → After (.keyAgreementComplete ⟨.port n, m, ok⟩) s fun t => Dark t s n 0x06#8))
  ∧ (∀ s n, 3 ≤ (s.port n).state → (s.port n).lastNs + 100000 ≤ s.ns → After (.peerLost n) s fun t => Dark t s n 0x08#8)
  ∧ (∀ s n, s.ns < (s.port n).lastNs + 100000 → Idle (.peerLost n) s)
  ∧ (∀ s n, (s.port n).state ≠ 0 → 16 ≤ (s.port n).badAuth → After (.authFailureDark n) s fun t => Dark t s n 0x07#8)
  ∧ (∀ s n l, (s.port n).state ≠ 0 → l < 4 → After (.laserChannelFailure n l) s fun t =>
    Dark t s n 0x04#8 ∧ ((t.port n).lane l).failed = true)

open Sys2Proof Sys2Proof.Machine Sys2Proof.Stated in
/-- R316 to R321: a lane out of its band steps down at once and retrains, and up one step after 10 ms well inside the
band above, whichever of the two events brings its temperature; a worn one is retired, as is one that software retires;
a poll reads bias and wear, a tap sample keeps least and most, PCAP clears them to the present value; a module that is
removed takes its ports dark and clears what its lanes keep, one of 64 channels is taken and any other refused. -/
def Sys2Proof.Stated.LanesAndModules : Prop :=
  (∀ s n k (x : BitVec 16) i, i ∈ [.laneRateStepDown n k x, .laneRateStepUp n k x] → k < 4 → LaneAfter i s n k fun l l' =>
    l'.temp = x ∧ l'.sampled = true
    ∧ (bandRate x < l.rate → l'.rate = bandRate x ∧ l'.retraining = decide (bandRate x ≠ 0) ∧ l'.highSince = none)
    ∧ (l.rate ≤ bandRate x → 4 ≤ l.rate ∨ ¬DeepIn x (l.rate + 1) → l'.rate = l.rate ∧ l'.highSince = none)
    ∧ (l.rate ≤ bandRate x → l.rate < 4 → DeepIn x (l.rate + 1) → match l.highSince with
      | none => l'.rate = l.rate ∧ l'.highSince = some s.ns
      | some a => if s.ns < a + 10000000 then l'.rate = l.rate ∧ l'.highSince = some a
        else l'.rate = l.rate + 1 ∧ l'.retraining = true ∧ l'.highSince = none))
  ∧ (∀ s n i, i < 4 → LaneAfter (.laneRetire n i) s n i fun l l' => l'.retire =
    (l.retire || (l.noted && decide (3 * l.bias0.toNat ≤ 2 * l.bias.toNat))))
  ∧ (∀ s n i (v : Word), (v.getLsbD 31 = true → i < 4 → LaneAfter (.lstatRetireWrite n i v) s n i fun _ l' => l'.retire = true)
    ∧ (v.getLsbD 31 = false → Idle (.lstatRetireWrite n i v) s))
  ∧ (∀ s n i (v : Word), (v.getLsbD 0 = true → i < 4 → LaneAfter (.pcapWrite n v) s n i fun l l' =>
      let now (x : BitVec 48) : BitVec 48 := x.extractLsb' 0 16 ++ x.extractLsb' 0 16 ++ x.extractLsb' 0 16
      l' = { l with cpl := now l.cpl, spl := now l.spl, modTap := now l.modTap })
    ∧ (v.getLsbD 0 = false → Idle (.pcapWrite n v) s))
  ∧ (∀ s n i (cpl spl mod : BitVec 16), i < 4 → LaneAfter (.tapSample n i cpl spl mod) s n i fun l l' =>
    ∀ old new x, (old, new, x) ∈ [(l.cpl, l'.cpl, cpl), (l.spl, l'.spl, spl), (l.modTap, l'.modTap, mod)] →
      new.extractLsb' 0 16 = x ∧ (new.extractLsb' 16 16).toInt = min (old.extractLsb' 16 16).toInt x.toInt
      ∧ (new.extractLsb' 32 16).toInt = max (old.extractLsb' 32 16).toInt x.toInt)
  ∧ (∀ s n i, i < 4 → LaneAfter (.laneRetrainEnd n i) s n i fun l l' => l' = { l with retraining := false })
  ∧ (∀ s m n i bias x, m < 4 → n < 16 → i < 4 → vget s.modules m 0 = 64 →
    LaneAfter (.moduleMonitorPoll m bias x) s (16 * m + n) i fun l l' => l'.bias = bias.getD (4 * n + i) 0#16
      ∧ l'.wear = (l.noted && decide (13 * l.bias0.toNat ≤ 10 * l'.bias.toNat)))
  ∧ (∀ s m n i, m < 4 → n < 16 → i < 4 → After (.laserModuleRemove m) s fun t => vget t.modules m 0 = 0
    ∧ (t.port (16 * m + n)).state = 0 ∧ (t.port (16 * m + n)).lights = false
    ∧ ((s.port (16 * m + n)).state ≠ 0 → (t.port (16 * m + n)).cause = 0x04#8)
    ∧ ((t.port (16 * m + n)).lane i).retire = false ∧ ((t.port (16 * m + n)).lane i).age = 0#32)
  ∧ (∀ s m channels n, m < 4 → n < 16 →
    (channels = 64 → After (.laserModuleInsert m channels) s fun t => vget t.modules m 0 = 64 ∧ t.ports = s.ports)
    ∧ (channels ≠ 64 → After (.laserModuleInsert m channels) s fun t => t.modules = s.modules
      ∧ (t.port (16 * m + n)).cause = 0x04#8))

open Sys2Proof Sys2Proof.Machine Sys2Proof.Stated in
/-- R161, R188, R189, R252, R322, R323, R325, R335: a flit that arrives on a live port in sequence is taken and
acknowledged, a load that it asks for is answered with the latest bytes of the place it is translated to in the bound
context, or refused where there is none; an early one is kept, one already seen discarded; the marked one brings the
peer's new keys into use; one that fails authentication is counted, with the port to go dark at sixteen in a row. An
acknowledgement frees what it covers: a piece of a copy is then in its peer's memory, and a copy ends with the last of
its pieces. It is counted as a frame of the stripe's first port (the model's choice: log 91). A flit unacknowledged
for 20 µs goes out on another port of its stripe; a stripe is the live ports to the peer on planes not drained. (How a
round trip is smoothed is opaque: log 38.) -/
def Sys2Proof.Stated.FabricFlits : Prop :=
  (∀ s n (q : Word) good pay, (s.port n).state = 3 → good ≠ .bad → let peer := (s.port n).peerPkg.toNat
    (q = (s.peerLink peer).nextRecv → (s.peerLink peer).early = [] → After (.fabricFlitReceive n q good pay) s fun t =>
      (t.peerLink peer).nextRecv = q + 1#32 ∧ (t.port n).badAuth = 0 ∧ (t.port n).lastNs = s.ns
      ∧ (t.port n).frames = (s.port n).frames + 1
      ∧ (∀ r, s.peerAsks = [] → pay = [] → good = .marked → (s.port n).keys.next = some r → (t.port n).keys.recv = r ∧ (t.port n).keys.next = none)
      ∧ (s.peerAsks = [] → pay = [] → t.outbox = s.outbox ++ [.fabricAck peer q])
      ∧ (∀ r count, s.peerAsks = [] → pay = [r] → r.ask = .load count → s.askPlace peer r = none →
        t.outbox = s.outbox ++ [.peerAnswer peer r.tag false false [], .fabricAck peer q])
      ∧ (∀ r count pa k big, s.peerAsks = [] → pay = [r] → r.ask = .load count → s.reds = [] → s.keyed = [] → Cacheable s pa →
        s.askPlace peer r = some (some (pa, k, big)) → t.outbox = s.outbox
          ++ [.peerAnswer peer r.tag true (s.readsPoison pa) (readWith s.latestByte pa count), .fabricAck peer q]))
    ∧ (0 < (q - (s.peerLink peer).nextRecv).toInt → (∀ e ∈ (s.peerLink peer).early, e.1 ≠ q) →
      After (.fabricFlitReceive n q good pay) s fun t => (s.peerAsks = [] →
        (t.peerLink peer).nextRecv = (s.peerLink peer).nextRecv
        ∧ t.outbox = s.outbox ++ [.fabricAck peer ((s.peerLink peer).nextRecv - 1#32)]
        ∧ (t.peerLink peer).early = (s.peerLink peer).early ++ [(q, pay)]))
    ∧ ((q - (s.peerLink peer).nextRecv).toInt < 0 → s.peerAsks = [] → After (.fabricFlitReceive n q good pay) s fun t =>
      t.peerLink peer = s.peerLink peer ∧ t.outbox = s.outbox ++ [.fabricAck peer ((s.peerLink peer).nextRecv - 1#32)]))
  ∧ (∀ s n q pay, 3 ≤ (s.port n).state → After (.fabricFlitReceive n q .bad pay) s fun t =>
      (t.port n).badAuth = (s.port n).badAuth + 1
      ∧ (15 ≤ (s.port n).badAuth → t.agenda = .authFailureDark n :: s.agenda) ∧ t.peerLinks = s.peerLinks)
  ∧ (∀ s n q good pay, (s.port n).state = 4 → good ≠ .bad → After (.fabricFlitReceive n q good pay) s fun t =>
      (t.port n).badAuth = 0 ∧ (t.port n).lastNs = s.ns ∧ t.peerLinks = s.peerLinks ∧ t.outbox = s.outbox)
  ∧ (∀ s n (q : Word) auth pay, (s.port n).state < 3 → Idle (.fabricFlitReceive n q auth pay) s)
  ∧ (∀ s peer (q : Word), After (.fabricFlitAck peer q) s fun t =>
    (t.peerLink peer).unacked = ((s.peerLink peer).unacked.filter fun u => 0 < (u.seq - q).toInt)
    ∧ (∀ n rest, (s.peerLink peer).stripe = n :: rest → (t.port n).frames = (s.port n).frames + 1)
    ∧ ∀ id c x, s.copies = [(id, c)] → c.shape.remote = true → c.total ≤ c.next → c.out = [x] → x.peer = peer →
      (∃ u ∈ (s.peerLink peer).unacked, u.seq = x.seq ∧ (u.seq - q).toInt ≤ 0) → mapGet? t.copies id = none
        ∧ ∀ va bs, x.stores = [(va, bs)] → x.reds = [] → bs.length ≤ 128 → t.peerBytes peer x.ctx va bs.length = bs)
  ∧ (∀ s peer (q : Word) p p' n lost, (s.peerLink peer).stripe = [p, p'] → p ≠ p' → 0 < (s.port p').rate →
    (s.peerLink peer).unacked = [⟨q, p, n, lost⟩] →
    (s.ns < n + 20000 → Idle (.fabricResendTimeout peer q) s)
    ∧ (n + 20000 ≤ s.ns → After (.fabricResendTimeout peer q) s fun t =>
      ∃ hit, (t.peerLink peer).unacked = [⟨q, p', s.ns, hit⟩]))
  ∧ (∀ s peer, After (.stripeRecompute peer) s fun t => ∀ n, n ∈ (t.peerLink peer).stripe ↔
    n < 64 ∧ (s.port n).state = 3 ∧ (s.port n).peerPkg.toNat = peer ∧ s.drained.getLsbD (planeOf n) = false)

open Sys2Proof Sys2Proof.Machine Sys2Proof.Stated in
/-- R327 to R330, R361: what the switches' messages, which session 0 has brought, and time-outs do: a ticket connecting
turns its port's lasers on, a refused one takes the reason, a released one's slot is free, and a broken circuit's port
goes dark; one that names no present ticket changes nothing; CONNECT and RELEASE go out again every 10 ms on Whey
session 0, and the switch answers RELEASED 10 ms after the first RELEASE, unless it is silent; a HELLO is heard, one
goes to each switch (with the package's first switch port, the model's choice: log 92), and three missed leave a switch
silent. -/
def Sys2Proof.Stated.SwitchAgents : Prop :=
  (∀ s (m : SwitchMsg), switchBytes m ∈ (s.session 0).inbox → let n := m.slot.toNat
    let x := s.ticket n
    (x.state = 2 → x.firstRel = 0 →
      (Names s m 2#8 → After (.connected m) s fun t => (t.ticket n).swus = BitVec.ofNat 16 (min 0xFFFF m.value.toNat)
        ∧ (vget s.modules (x.port / 16) 0 = 64 → (t.ticket n).state = 3 ∧ (t.port x.port).lights = true
          ∧ (t.port x.port).peerPkg = BitVec.ofNat 6 x.peerPkg)
        ∧ (vget s.modules (x.port / 16) 0 ≠ 64 → (t.port x.port).state = 0 ∧ (t.port x.port).cause = 0x04#8))
      ∧ (Names s m 3#8 → After (.refused m) s fun t => (t.ticket n).state = 5 ∧ (t.ticket n).cause = m.value.setWidth 8))
    ∧ (Names s m 5#8 → x.firstRel ≠ 0 → After (.released m) s fun t => Freed t s n)
    ∧ (Names s m 6#8 → x.state = 3 ∨ x.state = 4 → x.firstRel = 0 → (s.port x.port).lights = true →
      After (.broken m) s fun t => Dark t s x.port 0x09#8)
    ∧ (WellMade m 7#8 → m.plane.toNat < 16 → After (.hello m) s fun t =>
      vget t.hellos m.plane.toNat 0 = s.ns ∧ t.silent.getLsbD m.plane.toNat = false)
    ∧ ∀ i k, (i, k) ∈ [(Instr.connected m, 2#8), (.refused m, 3#8), (.released m, 5#8), (.broken m, 6#8)] → ¬Names s m k →
      After i s fun t => t.tickets = s.tickets ∧ t.ports = s.ports)
  ∧ (∀ s m, switchBytes m ∉ (s.session 0).inbox → Idle (.connected m) s ∧ Idle (.refused m) s ∧ Idle (.released m) s
    ∧ Idle (.broken m) s ∧ Idle (.hello m) s)
  ∧ (∀ s v, s.wheyVia 0 = some v → After .helloSend s fun t => t.outbox = s.outbox ++ (List.range 16).map fun p =>
    frameOf s 0 v p 1 ((s.session 0).nextSend + BitVec.ofNat 32 p) ((s.session 0).nextRecv - 1#32)
      (agentBytes 7 0 0#24 p s.package (4 * s.package) 0 0))
  ∧ (∀ s p, p < 16 → (s.ns < vget s.hellos p 0 + 300000000 → Idle (.switchSilent p) s)
    ∧ (vget s.hellos p 0 + 300000000 ≤ s.ns → After (.switchSilent p) s fun t => t.silent.getLsbD p = true))
  ∧ (∀ s n, let x := s.ticket n
    let msg (v kind : Nat) : Sent := frameOf s 0 v 0 1 (s.session 0).nextSend ((s.session 0).nextRecv - 1#32)
      (agentBytes kind n x.seq (x.port % 16) s.package (4 * s.package + x.port / 16) x.peerPkg
        (4 * x.peerPkg + x.peerPort / 16))
    (s.ns < x.sentNs + 10000000 → Idle (.connectRetry n) s)
    ∧ (x.sentNs + 10000000 ≤ s.ns → x.firstRel ≠ 0 → After (.connectRetry n) s fun t =>
      (∀ v, s.wheyVia 0 = some v → t.outbox = s.outbox ++ [msg v 4]) ∧ (t.ticket n).sentNs = s.ns)
    ∧ (x.sentNs + 10000000 ≤ s.ns → x.firstRel = 0 → x.state = 2 → After (.connectRetry n) s fun t =>
      (∀ v, s.wheyVia 0 = some v → t.outbox = s.outbox ++ [msg v 1]) ∧ (t.ticket n).sentNs = s.ns)
    ∧ (x.firstRel = 0 ∨ s.ns < x.firstRel + 10000000 ∨ s.silent.getLsbD (x.port % 16) = true → Idle (.releaseTimeout n) s)
    ∧ (n < 64 → x.firstRel ≠ 0 → x.firstRel + 10000000 ≤ s.ns → s.silent.getLsbD (x.port % 16) = false →
      After (.releaseTimeout n) s fun t => ∃ m, Names s m 5#8 ∧ m.slot.toNat = n ∧ switchBytes m ∈ (t.session 0).inbox
        ∧ t.agenda = .released m :: s.agenda ∧ t.tickets = s.tickets))

open Sys2Proof Sys2Proof.Machine Sys2Proof.Stated in
/-- The steps of the ports, their lanes and modules, the fabric and the switch agents (spec/17 R311 to R335, spec/20 R361,
R362). -/
def Obligations.PortEvents : Prop :=
  Sys2Proof.Stated.PortsUpAndDown ∧ Sys2Proof.Stated.LanesAndModules ∧ Sys2Proof.Stated.FabricFlits
    ∧ Sys2Proof.Stated.SwitchAgents

namespace Sys2Proof.Stated

open Machine

/-- A command that management is refused: one answer says so, and nothing else changes. -/
def Refused (i : Instr) (s : State) (code : Nat) : Prop :=
  After i s fun t => t.outbox = s.outbox ++ [.refusedCmd code] ∧ SameMemory s t ∧ t.contexts = s.contexts ∧ t.fw = s.fw
    ∧ t.boot = s.boot ∧ t.power = s.power ∧ t.ident = s.ident

/-- Management accepts the requester: the package is ready, and it is in a secure session with a certificate of the
operator roster (R377). -/
def Accepted (s : State) (who : Nat) : Prop :=
  s.boot.ready = true ∧ ∃ cert, mapGet? s.ident.secure who = some cert ∧ s.ident.operator cert = true

/-- A count that saturates, one higher. -/
def onMore (w : Word) : Word := BitVec.ofNat 32 (min 0xFFFFFFFF (w.toNat + 1))

/-- The handover structure that firmware finds is one that its image accepts: its major version, and zeros in every
reserved byte (R373). -/
def HandoverGood (s : State) : Prop :=
  let r := readWith s.latestByte s.fw.handed 64
  fieldOf r 1 1 = s.fw.running.major.toNat ∧ fieldOf r 2 2 = 0 ∧ fieldOf r 0x30 16 = 0

/-- A frame as R336 and R337 have it: a local session's with EtherType 0x88B5, a wide-area one's as UDP with hop limit 64,
the session's port pair and a checksum that holds; VER 1, a TYPE that exists, LEN and zeros in its reserved bytes. -/
def WellFramed (x : Session) (f : WheyFrame) : Prop :=
  f.ver = 1#8 ∧ f.kind ∈ [1#8, 2#8, 3#8] ∧ f.len.toNat ≤ 1024 ∧ f.message.length = f.len.toNat ∧ f.rsv = 0#144
    ∧ match f.outer with
      | .ether e => x.kind ≠ 2 ∧ e = 0x88B5#16
      | .udp next hops src dst sum => x.kind = 2 ∧ next = 17#8 ∧ hops = 64#8 ∧ src = x.rport ∧ dst = x.lport ∧ sum = true

/-- A start step's limit in milliseconds (R369). -/
def stepMs (n : Nat) : Nat := [0, 50, 200, 10, 500, 2000, 300, 50, 1000, 500, 3000, 100].getD n 0

/-- Every command core stands at its vector, with what it held given back. -/
def CoresStart (t s : State) : Prop := ∀ i g, i < 12 → mapGet? s.groups (commandKey i) = some g →
  ∃ g', mapGet? t.groups (commandKey i) = some g' ∧ g'.table = [⟨g.trap.vec, 1#32, 0⟩] ∧ g'.halted = false
    ∧ ∀ x ∈ t.qlocks, x.2 ≠ commandKey i

/-- A line found uncorrectable: poisoned, counted at its home's base die, and its address with its row in RASADDR. -/
def LineLost (t s : State) (pa row : Nat) : Prop :=
  t.poisonAt pa = true ∧ (t.rasOf (homeBase pa)).ue = onMore (s.rasOf (homeBase pa)).ue
    ∧ (t.rasOf (homeBase pa)).addr = BitVec.ofNat 64 (row * 2 ^ 52 + pa / 128 * 128)

end Sys2Proof.Stated

open Sys2Proof Sys2Proof.Machine Sys2Proof.Stated in
/-- R328, R336 to R339: a frame that breaks the framing is counted, one of a session that fails authentication
discarded; a message in order is delivered and acknowledged, another not, and on session 0 a switch's message is then
heard; a frame of TYPE 3 brings the peer's part of a key agreement, and a marked one its new keys into use; a message
unacknowledged for its interval goes out again, and a session with none acknowledged for TMO closes; a good record of
a session that is closed begins its key agreement with a frame of TYPE 3, one of KIND 0 closes it, and a bad one
changes nothing. A local frame has EtherType 0x88B5, a wide-area one is an IPv6 packet with hop limit 64 that holds
UDP with the session's port pair. A message is acknowledged by a frame of TYPE 2 with SEQ 0, on the lowest port that
may carry it (the model's choices: log 92). -/
def Sys2Proof.Stated.WheyPlane : Prop :=
  (∀ s (f : WheyFrame), s.wheyPort f.port = false ∨ ¬WellFramed (s.session f.session.toNat) f →
    After (.wheyFrameReceive f) s fun t => t.wheyDrops = s.wheyDrops + 1 ∧ t.sessions = s.sessions)
  ∧ (∀ s (f : WheyFrame), let n := f.session.toNat
    let x := s.session n
    WellFramed x f → s.wheyPort f.port = true →
    (x.ports.getLsbD f.port = false ∨ (x.state = 2 ∧ f.auth = false) ∨ (x.state ≠ 2 ∧ ¬(x.state = 1 ∧ f.kind = 3#8)) →
      Idle (.wheyFrameReceive f) s)
    ∧ (x.ports.getLsbD f.port = true → x.state = 1 → f.kind = 3#8 →
      exec (.wheyFrameReceive f) s = exec (.keyAgreementComplete ⟨.session n, f.message, f.auth⟩) s)
    ∧ (x.ports.getLsbD f.port = true → x.state = 2 → f.auth = true → f.kind = 3#8 → n ≠ 0 →
      After (.wheyFrameReceive f) s fun t =>
        (KeysGood s f.message true → (t.session n).keyGen = x.keyGen + 1 ∧ (t.session n).keys.next.isSome = true)
        ∧ (¬KeysGood s f.message true → (t.session n).state = 0))
    ∧ (x.ports.getLsbD f.port = true → x.state = 2 → f.auth = true → f.kind ≠ 3#8 → After (.wheyFrameReceive f) s fun t =>
      let answer (ack : Word) : Prop := ∀ v, s.wheyVia n = some v → t.outbox = s.outbox ++ [frameOf s n v 0 2 0#32 ack []]
      (t.session n).unacked = (x.unacked.filter fun u => !seqLe u.1 f.ack)
      ∧ (t.session n).lastAck = s.ns ∧ (t.session n).frames = x.frames + 1
      ∧ (∀ r, f.mark = true → x.keys.next = some r → (t.session n).keys.recv = r ∧ (t.session n).keys.next = none)
      ∧ (f.kind = 1#8 → f.seq = x.nextRecv → (t.session n).nextRecv = x.nextRecv + 1#32 ∧ answer x.nextRecv
        ∧ (n ≠ 0 → (t.session n).inbox = x.inbox ++ [f.message])
        ∧ (n = 0 → ∀ m, f.message = switchBytes m → WellMade m 2#8 → (t.session n).inbox = x.inbox ++ [f.message]
          ∧ t.agenda = .connected m :: s.agenda))
      ∧ (f.kind = 1#8 → f.seq ≠ x.nextRecv → (t.session n).inbox = x.inbox ∧ answer (x.nextRecv - 1#32))
      ∧ (f.kind = 2#8 → (t.session n).inbox = x.inbox ∧ t.outbox = s.outbox)))
  ∧ (∀ s n (q : Word) m at_ k, let x := s.session n
    x.unacked = [(q, m, at_, k)] → x.state = 2 →
    let wait := min 8000000000 (max 1000000 (2 * x.srttNs) * 2 ^ min k 13)
    (s.ns < at_ + wait → Idle (.wheyRetransmitTimeout n q) s)
    ∧ (at_ + wait ≤ s.ns → After (.wheyRetransmitTimeout n q) s fun t => (∀ v, s.wheyVia n = some v → t.outbox = s.outbox
        ++ [frameOf s n v 0 1 q (x.nextRecv - 1#32) m]) ∧ (t.session n).unacked = [(q, m, s.ns, k + 1)]))
  ∧ (∀ (x : Session) v load,
    (x.kind ≠ 2 → (x.outer v load).drop 12 = [0x88#8, 0xB5#8])
    ∧ (x.kind = 2 → ((x.outer v load).drop 12).take 3 = [0x86#8, 0xDD#8, 0x60#8] ∧ ((x.outer v load).drop 20).take 2 = [17#8, 64#8]
      ∧ ((x.outer v load).drop 54).take 4 = (leBytes 2 x.lport.toNat).reverse ++ (leBytes 2 x.rport.toNat).reverse))
  ∧ (∀ s n, let x := s.session n
    n ≠ 0 → x.state = 2 → x.unacked ≠ [] →
    (s.ns < x.lastAck + x.tmoMs * 1000000 → Idle (.wheySessionTimeout n) s)
    ∧ (x.lastAck + x.tmoMs * 1000000 ≤ s.ns → After (.wheySessionTimeout n) s fun t => (t.session n).state = 0))
  ∧ (∀ s n r, 0 < n → n < 1024 → sessionGood r = true →
    (fieldOf r 0 1 = 0 → After (.wheySessionOpen n r) s fun t => (t.session n).state = 0)
    ∧ (fieldOf r 0 1 ≠ 0 → (s.session n).state = 0 → (s.context (fieldOf r 1 1)).isSome = true →
      After (.wheySessionOpen n r) s fun t => (t.session n).state = 1 ∧ (t.session n).kind = fieldOf r 0 1
        ∧ (t.session n).ctx = fieldOf r 1 1 ∧ (t.session n).tmoMs = fieldOf r 4 4
        ∧ ∀ v, ((List.range 8).find? fun p => (fieldOf r 2 1).testBit p && s.wheyPort p) = some v →
          ∃ m outer h mark, m.length = 56 + 57 + 114 ∧ t.outbox = s.outbox ++ [.whey v outer h m mark]
            ∧ h = [1#8, 3#8] ++ leBytes 2 n ++ leBytes 4 0 ++ leBytes 4 0xFFFFFFFF ++ leBytes 2 227 ++ List.replicate 18 0#8))
  ∧ (∀ s, Idle (.wheySessionTimeout 0) s)
  ∧ (∀ s n r, sessionGood r = false → Idle (.wheySessionOpen n r) s)

open Sys2Proof Sys2Proof.Machine Sys2Proof.Stated in
/-- R365 to R367: patrol scrub counts a line it has corrected and poisons and logs one it cannot; an uncorrectable
error poisons the register, operand, latch or deep-window entry it strikes in every lane, drops the line of an L1,
victim or translation entry it strikes, poisons a modified slice line and drops a clean one, poisons and logs a line
of memory, and in a Churn ends the macro-operation at its head and the controller's program; reading RASCE or RASUE
clears it. (Every uncorrectable error is counted: log 45; the codes of reports: log 35.) -/
def Sys2Proof.Stated.SoftErrors : Prop :=
  (∀ s (pa : PAddr), Cacheable s pa.toNat → Idle (.patrolScrub pa .clean) s
    ∧ (After (.patrolScrub pa .corrected) s fun t => (t.rasOf (homeBase pa.toNat)).ce
        = onMore (s.rasOf (homeBase pa.toNat)).ce ∧ SameMemory s t ∧ t.poisoned = s.poisoned)
    ∧ After (.patrolScrub pa .uncorrectable) s fun t => LineLost t s pa.toNat (memoryRow s pa.toNat))
  ∧ (∀ s k g, mapGet? s.groups k = some g → dieOf k < 8 →
    let ue (t : State) : Prop := (t.rasOf (dieOf k / 2)).ue = onMore (s.rasOf (dieOf k / 2)).ue
    (∀ n e, mapGet? g.x n = some e → After (.uncorrectableError (.mainReg k n)) s fun t => ue t ∧ ∃ g',
      mapGet? t.groups k = some g' ∧ mapGet? g'.x n = some { e with poison := true })
    ∧ (∀ n, After (.uncorrectableError (.operReg k n)) s fun t => ue t ∧ ∃ g',
      mapGet? t.groups k = some g' ∧ .oper n ∈ g'.poison)
    ∧ (After (.uncorrectableError (.laneLatch k)) s fun t => ue t ∧ ∃ g',
      mapGet? t.groups k = some g' ∧ ∀ l, (laneOf g'.lat l).poison = true)
    ∧ (After (.uncorrectableError (.uniLatch k)) s fun t => ue t ∧ ∃ g', mapGet? t.groups k = some g' ∧ g'.ulat.poison = true)
    ∧ ∀ e, After (.uncorrectableError (.deepEntry k e)) s fun t => ue t ∧ ∃ g',
      mapGet? t.groups k = some g' ∧ ∀ l, l < 32 → .deep e l ∈ g'.poison)
  ∧ (∀ s core (pa : PAddr), After (.uncorrectableError (.l1Line core pa)) s fun t =>
    ∀ l ∈ t.l1Of core, l.pline ≠ lineOf pa.toNat)
  ∧ (∀ s core place, After (.uncorrectableError (.victim core place)) s fun t =>
    mapGet t.victims core [] = (mapGet s.victims core []).eraseIdx place)
  ∧ (∀ s unit place, After (.uncorrectableError (.tlu unit place)) s fun t =>
    (t.tlb.filter fun e => e.tlu = unit) = (s.tlb.filter fun e => e.tlu = unit).eraseIdx place
      ∧ (t.tlb.filter fun e => e.tlu ≠ unit) = s.tlb.filter fun e => e.tlu ≠ unit)
  ∧ (∀ s base (pa : PAddr), After (.uncorrectableError (.slice base pa)) s fun t =>
    if s.slices.any (fun l => l.base = base && l.pline = lineOf pa.toNat && l.modified) then t.poisonAt pa.toNat = true
    else ∀ l ∈ t.slices, ¬(l.base = base ∧ l.pline = lineOf pa.toNat))
  ∧ (∀ s (pa : PAddr) site, site ∈ [ErrorSite.creamOrWindow pa, .stackedDram pa, .lpddr6 pa] → homeBase pa.toNat < 4 →
    After (.uncorrectableError site) s fun t => LineLost t s pa.toNat (memoryRow s pa.toNat))
  ∧ (∀ s ctx, After (.uncorrectableError (.crock ctx)) s fun t => ∀ q, (t.queue q).ctx.toNat = ctx → (t.queue q).en = false)
  ∧ (∀ s cl m rest g, cl < 64 → (s.churn cl).macros = m :: rest → mapGet? s.groups (churnKey cl) = some g → g.engine = .churn →
    After (.uncorrectableError (.churn cl)) s fun t => (t.churn cl).macros = rest.filter (·.begun)
      ∧ ∃ g', mapGet? t.groups (churnKey cl) = some g' ∧ g'.table = [] ∧ g'.exited = 0xFFFFFFFF#32)
  ∧ (∀ s b, b < 4 → (After (.rasceRead b) s fun t => t.rasOf b = { s.rasOf b with ce := 0#32 })
    ∧ After (.rasueRead b) s fun t => t.rasOf b = { s.rasOf b with ue := 0#32 })

open Sys2Proof Sys2Proof.Machine Sys2Proof.Stated in
/-- R376: a sample above a limit takes the clock 25 MHz down, not below 1.2 GHz, and one under both limits, held for
10 ms, 25 MHz up, not above 2.4 GHz; the dies halt once the coolant plate has stood 15 °C over its limit for 100 ms
and go on at 1.2 GHz once at or under it for 1 s; PWRCTL takes limits in their ranges. (At or under a limit counts as
within it: log 48.) -/
def Sys2Proof.Stated.PowerAndCooling : Prop :=
  (∀ s (pwr : BitVec 16) (tcp : BitVec 8), let p := s.power
    let above := p.plimit.toNat < pwr.toNat ∨ p.tlimit.toNat < tcp.toNat
    After (.powerSample pwr tcp) s fun t => t.power.pwr = pwr ∧ t.power.tcp = tcp
      ∧ (above → 48 < p.clk.toNat → t.power.clk = p.clk - 1#8) ∧ (above → p.clk.toNat ≤ 48 → t.power.clk = p.clk)
      ∧ (∀ n, ¬above → p.underNs = some n → n + 10000000 ≤ s.ns → p.clk.toNat < 96 → t.power.clk = p.clk + 1#8)
      ∧ (∀ n, ¬above → p.underNs = some n → s.ns < n + 10000000 → t.power.clk = p.clk))
  ∧ (∀ s n, s.power.halted = none → s.power.hotNs = some n →
    (s.ns < n + 100000000 → Idle .thermalHalt s)
    ∧ (n + 100000000 ≤ s.ns → After .thermalHalt s fun t => (∀ d, d < 8 → (t.die d).thermHalt = true)
      ∧ t.power.halted = some s.ns ∧ t.outbox = s.outbox ++ [.management 5 []]))
  ∧ (∀ s n m, s.power.halted = some n → s.power.coolNs = some m →
    (s.ns < m + 1000000000 → Idle .thermalHaltEnd s)
    ∧ (m + 1000000000 ≤ s.ns → After .thermalHaltEnd s fun t => (∀ d, d < 8 → (t.die d).thermHalt = false)
      ∧ t.power.halted = none ∧ t.power.clk = 48#8))
  ∧ (∀ s (v : Word), After (.pwrctlWrite v) s fun t =>
    t.power.plimit = (if 1200 ≤ (v.extractLsb' 16 16).toNat ∧ (v.extractLsb' 16 16).toNat ≤ 2400 then v.extractLsb' 16 16
      else s.power.plimit)
    ∧ t.power.tlimit = (if 20 ≤ (v.extractLsb' 8 8).toNat ∧ (v.extractLsb' 8 8).toNat ≤ 60 then v.extractLsb' 8 8
      else s.power.tlimit))

open Sys2Proof Sys2Proof.Machine Sys2Proof.Stated in
/-- R369 to R374: a start whose steps all pass leaves the package ready with the record cleared and signed, and the
command cores started at their vectors (log 95); one that finds no record with a good signature and zeros in its
reserved bytes takes it as none. A third failed one leaves the package in recovery, as does a step that failed in
spite of its ALT bit; a step that has not ended within its limit is recorded as failed and the next start begins; a
heartbeat missed puts the old slot back with ROLLBACK set, its digest measured again and the command cores started;
FWSLOT takes a heartbeat, which resumes dispatch, and clears ROLLBACK by a one, but not in the cycle in which it was
set (R6); an image that finds another major version or a reserved byte that is not 0 in the handover structure writes
no heartbeat. (A failed step ends its start: log 47.) -/
def Sys2Proof.Stated.StartsAndUpdates : Prop :=
  (∀ s cream, let b := s.boot
    let good : Prop := b.signed = b.head ∧ ∀ x ∈ b.spare, x = 0#8
    (¬good ∨ b.state = 0 → After (.packageStart 0xFFFF#16 cream) s fun t =>
      t.boot.ready = true ∧ t.boot.recovery = false ∧ t.boot.state = 0 ∧ t.boot.fails = 0#32 ∧ t.contexts = []
      ∧ t.boot.signed = t.boot.head ∧ t.boot.spare = List.replicate 62 0#8
      ∧ (good → t.boot.starts = b.starts + 1#16) ∧ (¬good → t.boot.starts = 1#16)
      ∧ (∀ p ∈ t.groups, p.2.engine = .command)
      ∧ ∀ i g, i < 12 → mapGet? s.groups (commandKey i) = some g → g.engine = .command →
        ∃ g', mapGet? t.groups (commandKey i) = some g' ∧ g'.table = [⟨g.trap.vec, 1#32, 0⟩] ∧ g'.halted = false)
    ∧ (∀ pass, good → b.state ≠ 0 → b.fails.toNat = 2 ∨ (b.state = 2 ∧ b.alt.getLsbD b.step = true) →
      After (.packageStart pass cream) s fun t => t.boot.recovery = true ∧ t.boot.ready = false
        ∧ t.boot.fails = b.fails + 1#32))
  ∧ (∀ s reason pass, s.boot.ready = true ∨ s.boot.at_ = 0 ∨ s.ns < stepMs s.boot.at_ * 1000000 →
    Idle (.startStepTimeout reason pass) s)
  ∧ (∀ s reason pass, s.boot.ready = false → s.boot.at_ ≠ 0 → stepMs s.boot.at_ * 1000000 ≤ s.ns → ∃ t, exec (.startStepTimeout reason pass) s = .next t
    ∧ exec (.packageStart pass s.cream.toList)
      { s with boot := Boot.write { s.boot with step := s.boot.at_, state := 2, reason := reason } } = .next t)
  ∧ (∀ s n x, s.fw.armed = some n → s.fw.staged = some x →
    (s.ns < n ∨ s.fw.hbeat = true → Idle .heartbeatTimeout s)
    ∧ (n ≤ s.ns → s.fw.hbeat = false → After .heartbeatTimeout s fun t => t.fw.running = x ∧ t.fw.slot = (!s.fw.slot)
      ∧ t.fw.staged = some s.fw.running ∧ t.fw.rollback = true ∧ t.fw.armed = none
      ∧ vget t.ident.measured 2 [] = vget s.ident.measured 2 [] ++ [x.digest] ∧ CoresStart t s))
  ∧ (∀ s (v : Word) i, i ∈ [.hbeatWrite v, .rollbackClear v] → After i s fun t =>
      t.fw.rollback = (s.fw.rollback && (!v.getLsbD 30 || s.fw.rolledAt == some s.now))
      ∧ (s.fw.quiesced = false → t.fw.hbeat = (s.fw.hbeat || v.getLsbD 31) ∧ t.fw.quiesced = false)
      ∧ (s.fw.quiesced = true → HandoverGood s → v.getLsbD 31 = true →
        t.fw.hbeat = true ∧ t.fw.quiesced = false ∧ t.fw.armed = none)
      ∧ (s.fw.quiesced = true → ¬HandoverGood s ∨ v.getLsbD 31 = false →
        t.fw.hbeat = s.fw.hbeat ∧ t.fw.quiesced = true ∧ t.fw.armed = s.fw.armed))

open Sys2Proof Sys2Proof.Machine Sys2Proof.Stated in
/-- R287, R288, R306, R325, R367, R372, R373, R377: what management commands do once the package is ready, of a
requester inside a secure session whose certificate lies in the operator roster; others are refused (the refusal's
code is the model's own number). A context is created with a new key in its slot, and destroyed with its work and its
key; bindings, rosters, limits, images, an update, which starts the command cores (at their vectors: log 95), the
record cleared and the log read. A package in recovery takes images and the clearing of the record alone. (What is
answered before the package is ready: log 46; the codes: log 35.) -/
def Sys2Proof.Stated.ManagementCommands : Prop :=
  (∀ s ctx r res, Accepted s s.asker → contextGood r = true
    → s.mayCreate ctx (contextOf r res s.ident.draws s.ns) = true →
    After (.contextCreate ctx r res) s fun t => ∃ c, t.context ctx = some c ∧ c.ttbase = BitVec.ofNat 52 (fieldOf r 0 8)
      ∧ c.icw = BitVec.ofNat 32 (fieldOf r 8 4) ∧ c.part = BitVec.ofNat 64 (fieldOf r 0x10 8)
      ∧ c.keySlot = fieldOf r 0x0E 1 ∧ c.binds = res.binds ∧ c.ports = res.ports
      ∧ mapGet? t.keySlots c.keySlot = some s.ident.draws ∧ t.ident.draws = s.ident.draws + 1)
  ∧ (∀ s ctx r res, contextGood r = false → Refused (.contextCreate ctx r res) s 0)
  ∧ (∀ s ctx c, Accepted s s.asker → s.context ctx = some c → After (.contextDestroy ctx) s fun t =>
    t.context ctx = none ∧ mapGet? t.keySlots c.keySlot = none ∧ (∀ g ∈ t.groups, g.2.ctx ≠ ctx)
      ∧ (∀ x ∈ t.teams, x.2.ctx ≠ ctx) ∧ ∀ l ∈ t.launches, l.2.ctx ≠ ctx)
  ∧ (∀ s ctx c peer, Accepted s s.asker → s.context ctx = some c →
    (∀ k, After (.fabricBind ctx peer (some k)) s fun t =>
      t.context ctx = some { c with binds := mapSet c.binds peer k })
    ∧ After (.fabricBind ctx peer none) s fun t => t.context ctx = some { c with binds := mapDel c.binds peer })
  ∧ (∀ s keys, Accepted s s.asker →
    (After (.rosterSet true keys) s fun t => ∀ k, t.ident.peerKnown k = keys.contains k)
    ∧ After (.rosterSet false keys) s fun t => ∀ c, t.ident.operator c = keys.contains c)
  ∧ (∀ s x, s.boot.ready = true ∨ s.boot.recovery = true → s.accepts s.asker = true →
    (s.fw.quiesced = false → After (.firmwareStage x) s fun t => t.fw = { s.fw with staged := some x })
    ∧ After .recordClear s fun t => t.boot = Boot.write { s.boot with alt := 0#32, fails := 0#32, state := 0 })
  ∧ (∀ s x, Accepted s s.asker → s.fw.quiesced = false → s.front = none → s.fw.staged = some x →
    (x.signed = true → s.fw.minVer ≤ x.version → After .firmwareUpdate s fun t => t.fw.running = x
      ∧ t.fw.quiesced = true ∧ t.fw.slot = (!s.fw.slot) ∧ t.fw.staged = some s.fw.running
      ∧ t.fw.armed = some (s.ns + 50000000) ∧ CoresStart t s)
    ∧ (x.signed = false ∨ x.version < s.fw.minVer → After .firmwareUpdate s fun t => t.fw = s.fw))
  ∧ (∀ s b, Accepted s s.asker → b < 4 → After (.rasRead b) s fun t =>
    t.rasOf b = { s.rasOf b with ce := 0#32, ue := 0#32 } ∧ t.outbox = s.outbox ++ [.management 7
      (leBytes 4 (s.rasOf b).ce.toNat ++ leBytes 4 (s.rasOf b).ue.toNat ++ leBytes 8 (s.rasOf b).addr.toNat)])
  ∧ (∀ s (v : Word), Accepted s s.asker → After (.powerSet v) s fun t => t.power = s.power.written v)
  ∧ (∀ s i, ¬Accepted s s.asker → (∃ ctx r res, i = .contextCreate ctx r res)
    ∨ (∃ ctx, i = .contextDestroy ctx) ∨ (∃ ctx peer k, i = .fabricBind ctx peer k)
    ∨ (∃ b keys, i = .rosterSet b keys) ∨ i = .firmwareUpdate ∨ (∃ b, i = .rasRead b)
    ∨ (∃ v, i = .powerSet v) ∨ i = .hostLinkReset → Refused i s 0)
  ∧ (∀ s x, s.accepts s.asker = false ∨ s.boot.ready = false ∧ s.boot.recovery = false →
    Refused (.firmwareStage x) s 0 ∧ Refused .recordClear s 0)
  ∧ (∀ (s : State) (e : Event) n rest who, s.agenda = [] → s.inputs = (n, e) :: rest → n ≤ s.now → e.requester = some who →
    s.nextEvent = some (e, { s with inputs := rest, asker := who }))

open Sys2Proof Sys2Proof.Machine Sys2Proof.Stated in
/-- The steps of the Whey plane, of soft errors, power and firmware (spec/17 R336 to R339, spec/21). -/
def Obligations.PackageEvents : Prop :=
  Sys2Proof.Stated.WheyPlane ∧ Sys2Proof.Stated.SoftErrors ∧ Sys2Proof.Stated.PowerAndCooling
    ∧ Sys2Proof.Stated.StartsAndUpdates

namespace Sys2Proof.Stated

open Machine

/-- The responder's one answer with a code to a message; `P` holds of its bytes and of the state. -/
def Answers (i : Instr) (s : State) (code : Nat) (P : State → List Byte → Prop) : Prop :=
  After i s fun t => ∃ bytes, t.outbox = s.outbox ++ [.spdm code bytes] ∧ t.ident.draws = s.ident.draws + 1
    ∧ SameMemory s t ∧ t.ident.measured = s.ident.measured ∧ P t bytes

end Sys2Proof.Stated

open Sys2Proof Sys2Proof.Machine Sys2Proof.Stated in
/-- R379 to R382, R214: a debugger that management accepts attaches to a context that has none, halts a die that its
partition holds, which reports each group's stop (a report for each of its paths, parked and waiting ones among them,
the model's choice: log 96), and lets it go on, resumes a stopped group with a new epoch and an engine that HALT has
stopped (log 93), reads and writes the uniform registers of a stopped group, a write emptying its latches, and its
stop address, whose bits 3 to 0 stay 0. When it detaches, or its session ends, it is attached to nothing, and a die
that it alone had halted goes on. A request about a context that is another's or no debugger's, about a die it does
not own or that is not halted, or about a group that is not stopped or not the debugger's to inspect, is refused, as
is every request of a requester that is not accepted (the refusal's code is the model's own number). (The debugger
CFLAGS[1] names: log 49.) -/
def Sys2Proof.Stated.Debugger : Prop :=
  (∀ s who ctx c, Accepted s who → s.context ctx = some c →
    (c.attached = none → After (.debugAttach who ctx) s fun t => t.context ctx = some { c with attached := some who })
    ∧ (c.attached ≠ none → Refused (.debugAttach who ctx) s 1)
    ∧ (c.attached = some who → After (.debugDetach who ctx) s fun t =>
      (∃ c', t.context ctx = some c' ∧ c'.attached = none)
      ∧ ∀ d, d < 8 → wholeDie c.part d = true → (t.die d).dbgHalt = (s.die d).dbgHalt.filter (· ≠ who))
    ∧ (c.attached ≠ some who → Refused (.debugDetach who ctx) s 1))
  ∧ (∀ s who d, Accepted s who →
    (s.ownsDie who d = true → After (.debugHalt who d) s fun t => who ∈ (t.die d).dbgHalt
      ∧ ((s.die d).dbgHalt = [] → ∀ p ∈ s.groups, p.2.engine = .partition → isOut p.1 = false → dieOf p.1 = d → ∀ pc lanes,
        (∃ e ∈ p.2.table, e.pc = pc ∧ e.lanes = lanes) ∨ (∃ e ∈ p.2.parked, e.pc = pc ∧ e.lanes = lanes)
          ∨ (∃ e ∈ p.2.waiting, e.pc = pc ∧ e.lanes = lanes) →
        .stopReport (recordCore p.2 p.1) (p.1 % 64) pc lanes ∈ t.outbox))
    ∧ (s.ownsDie who d = false → Refused (.debugHalt who d) s 1)
    ∧ (s.ownsDie who d = true → (s.die d).dbgHalt ≠ [] → After (.debugResume who (.die d)) s fun t =>
      (t.die d).dbgHalt = [])
    ∧ (s.ownsDie who d = false ∨ (s.die d).dbgHalt = [] → Refused (.debugResume who (.die d)) s 1))
  ∧ (∀ s who k g, Accepted s who → mapGet? s.groups k = some g →
    (∀ p, g.stop = some p → s.attachedBy who g.ctx = true → After (.debugResume who (.group k)) s fun t =>
      ∃ g', mapGet? t.groups k = some g' ∧ g'.stop = none ∧ g'.epoch = g.epoch + 1)
    ∧ (g.stop = none → g.engine = .command → g.halted = true → s.attachedBy who g.ctx = true →
      After (.debugResume who (.group k)) s fun t => mapGet? t.groups k = some { g with halted := false })
    ∧ (g.stop = none → g.engine = .circuit → s.cpHalt = true → s.attachedBy who g.ctx = true →
      After (.debugResume who (.group k)) s fun t => t.cpHalt = false ∧ t.groups = s.groups)
    ∧ (s.attachedBy who g.ctx = false ∨ g.stop = none ∧ (g.engine = .partition ∨ g.engine = .churn) →
      Refused (.debugResume who (.group k)) s 1)
    ∧ (∀ n w, s.mayInspect who k g = true → n < 64 → vget g.q n 0#32 = w → After (.debugRead who k (.uni n)) s fun t =>
      t.outbox = s.outbox ++ [.debugValue [w.setWidth 128]] ∧ t.groups = s.groups)
    ∧ (∀ n v, s.mayInspect who k g = true → n < 64 → After (.debugWrite who k (.uni n) v) s fun t =>
      ∃ g', mapGet? t.groups k = some g' ∧ vget g'.q n 0#32 = v.value.setWidth 32 ∧ g'.epoch = g.epoch + 1
        ∧ ∀ l, (laneOf g'.lat l).tag = none)
    ∧ (∀ p v, g.stop = some p → s.attachedBy who g.ctx = true → After (.debugWrite who k .stopAddress v) s fun t =>
      ∃ g', mapGet? t.groups k = some g' ∧ g'.stop = some { p with pc := v.value.setWidth 64 &&& ~~~0xF#64 })
    ∧ (∀ obj v, s.mayInspect who k g = false → Refused (.debugRead who k obj) s 1 ∧ Refused (.debugWrite who k obj v) s 1))
  ∧ (∀ s who i, ¬Accepted s who → (∃ ctx, i = .debugAttach who ctx) ∨ (∃ ctx, i = .debugDetach who ctx)
    ∨ (∃ d, i = .debugHalt who d) ∨ (∃ x, i = .debugResume who x) ∨ (∃ k obj, i = .debugRead who k obj)
    ∨ (∃ k obj v, i = .debugWrite who k obj v) → Refused i s 1)
  ∧ (∀ s who, After (.spdmSessionEnd who) s fun t => who ∉ t.ident.exchanged ∧ mapGet? t.ident.secure who = none
    ∧ ∀ ctx c, s.context ctx = some c → c.attached = some who → ∃ c', t.context ctx = some c' ∧ c'.attached = none)

open Sys2Proof Sys2Proof.Machine Sys2Proof.Stated in
/-- R375, R377: in a package that is ready or in recovery each request of the SPDM exchange is answered once, with one
draw of random bits; the measurements' answer holds the digests of the four indices, and FINISH of a requester that
has exchanged keys leaves it in a secure session under the certificate it has shown. The codes are those of the
requests, which the spec does not give (log 16). -/
def Sys2Proof.Stated.SpdmResponder : Prop :=
  ∀ s msg, s.boot.ready = true ∨ s.boot.recovery = true →
    Answers (.getVersion msg) s 0x84 (fun _ _ => True)
    ∧ Answers (.getCapabilities msg) s 0xE1 (fun _ _ => True)
    ∧ Answers (.negotiateAlgorithms msg) s 0xE3 (fun _ _ => True)
    ∧ Answers (.getDigests msg) s 0x81 (fun _ _ => True)
    ∧ Answers (.getCertificate msg) s 0x82 (fun _ _ => True)
    ∧ Answers (.challenge msg) s 0x83 (fun _ _ => True)
    ∧ Answers (.getMeasurements msg) s 0xE0 (fun _ bytes => ∃ a b,
      bytes = a ++ (s.ident.measured.toList.flatMap fun ds => ds.flatMap fun d => d) ++ b)
    ∧ Answers (.keyExchange msg) s 0xE4 (fun t _ => s.asker ∈ t.ident.exchanged ∧ t.ident.secure = s.ident.secure)
    ∧ (∀ cert, Answers (.finish ⟨cert, msg⟩) s 0xE5 (fun t _ =>
      if s.asker ∈ s.ident.exchanged then mapGet? t.ident.secure s.asker = some cert ∧ s.asker ∉ t.ident.exchanged
      else t.ident.secure = s.ident.secure))

open Sys2Proof Sys2Proof.Machine Sys2Proof.Stated in
/-- The steps of management, of the debugger and of the responder (spec/15 R287, R306, spec/21 R375, R377, R379 to
R382). -/
def Obligations.DebugEvents : Prop :=
  Sys2Proof.Stated.ManagementCommands ∧ Sys2Proof.Stated.Debugger ∧ Sys2Proof.Stated.SpdmResponder
end

