-- ==== Sys2Proof/Laws/Map.lean ====
section
/-! SUPPORT. Laws of the finite maps: reading after writing, reading elsewhere, and the order of the keys. -/

namespace Sys2Proof.Machine

variable {α : Type}

@[simp] theorem mapGet?_nil (n : Nat) : mapGet? ([] : List (Nat × α)) n = none := rfl

/-- A value read at the key it was put at. -/
@[simp] theorem mapGet?_mapSet_self (m : List (Nat × α)) (n : Nat) (v : α) : mapGet? (mapSet m n v) n = some v := by
  induction m with
  | nil => simp [mapSet, mapGet?]
  | cons p t ih =>
    obtain ⟨k, w⟩ := p
    simp only [mapSet]
    split
    · simp [mapGet?]
    · split
      · simp [mapGet?]
      · next h => simp [mapGet?, h, ih]

/-- A value read at another key is what it was. -/
theorem mapGet?_mapSet_ne (m : List (Nat × α)) {n k : Nat} (v : α) (h : k ≠ n) :
    mapGet? (mapSet m n v) k = mapGet? m k := by
  induction m with
  | nil => simp [mapSet, mapGet?, h]
  | cons p t ih =>
    obtain ⟨j, w⟩ := p
    simp only [mapSet]
    split
    · simp [mapGet?, h]
    · split
      · next hj => subst hj; simp [mapGet?, h]
      · simp only [mapGet?]; split <;> simp [*]

/-- Reading after a write, in one form. -/
theorem mapGet?_mapSet (m : List (Nat × α)) (n k : Nat) (v : α) :
    mapGet? (mapSet m n v) k = if k = n then some v else mapGet? m k := by
  by_cases h : k = n
  · subst h; simp
  · simp [h, mapGet?_mapSet_ne m v h]

@[simp] theorem mapGet_mapSet_self (m : List (Nat × α)) (n : Nat) (v d : α) : mapGet (mapSet m n v) n d = v := by
  simp [mapGet]

theorem mapGet_mapSet_ne (m : List (Nat × α)) {n k : Nat} (v d : α) (h : k ≠ n) :
    mapGet (mapSet m n v) k d = mapGet m k d := by simp [mapGet, mapGet?_mapSet_ne m v h]

/-- A key that is deleted is gone. -/
@[simp] theorem mapGet?_mapDel_self (m : List (Nat × α)) (n : Nat) : mapGet? (mapDel m n) n = none := by
  induction m with
  | nil => rfl
  | cons p t ih =>
    obtain ⟨k, w⟩ := p
    by_cases h : k = n
    · simpa [mapDel, List.filter, h] using ih
    · have : mapDel ((k, w) :: t) n = (k, w) :: mapDel t n := by simp [mapDel, h]
      rw [this]; simp [mapGet?, Ne.symm h, ih]

/-- Deleting a key leaves every other one. -/
theorem mapGet?_mapDel_ne (m : List (Nat × α)) {n k : Nat} (h : k ≠ n) : mapGet? (mapDel m n) k = mapGet? m k := by
  induction m with
  | nil => rfl
  | cons p t ih =>
    obtain ⟨j, w⟩ := p
    by_cases hj : j = n
    · subst hj
      have : mapDel ((j, w) :: t) j = mapDel t j := by simp [mapDel]
      rw [this, ih]; simp [mapGet?, h]
    · have : mapDel ((j, w) :: t) n = (j, w) :: mapDel t n := by simp [mapDel, hj]
      rw [this]; simp only [mapGet?, ih]

/-! ## Rising keys -/

theorem mapSortedFrom_mono {a b : Nat} (h : a ≤ b) (m : List (Nat × α)) (hm : mapSortedFrom (some b) m = true) :
    mapSortedFrom (some a) m = true := by
  cases m with
  | nil => rfl
  | cons p t =>
    obtain ⟨k, w⟩ := p
    simp only [mapSortedFrom, Bool.and_eq_true, decide_eq_true_eq] at hm ⊢
    exact ⟨by omega, hm.2⟩

theorem mapSortedFrom_weaken (b : Option Nat) (m : List (Nat × α)) (hm : mapSortedFrom b m = true) :
    mapSortedFrom none m = true := by
  cases m with
  | nil => rfl
  | cons p t =>
    obtain ⟨k, w⟩ := p
    cases b with
    | none => exact hm
    | some b => simp only [mapSortedFrom, Bool.and_eq_true] at hm ⊢; exact hm.2

theorem mapSortedFrom_mapSet (a : Nat) (m : List (Nat × α)) (n : Nat) (v : α) (h : a < n)
    (hm : mapSortedFrom (some a) m = true) : mapSortedFrom (some a) (mapSet m n v) = true := by
  induction m generalizing a with
  | nil => simp [mapSet, mapSortedFrom, h]
  | cons p t ih =>
    obtain ⟨k, w⟩ := p
    simp only [mapSortedFrom, Bool.and_eq_true, decide_eq_true_eq] at hm
    simp only [mapSet]
    split
    · next hn => simp [mapSortedFrom, h, hn, hm.2]
    · split
      · next hk => subst hk; simp [mapSortedFrom, h, hm.2]
      · next hn hk =>
        simp only [mapSortedFrom, Bool.and_eq_true, decide_eq_true_eq]
        exact ⟨hm.1, ih k (by omega) hm.2⟩

/-- Putting a value keeps the keys rising. -/
theorem mapSorted_mapSet (m : List (Nat × α)) (n : Nat) (v : α) (hm : mapSorted m = true) :
    mapSorted (mapSet m n v) = true := by
  cases m with
  | nil => rfl
  | cons p t =>
    obtain ⟨k, w⟩ := p
    have ht : mapSortedFrom (some k) t = true := hm
    simp only [mapSet]
    split
    · next hn => simp [mapSorted, mapSortedFrom, hn, ht]
    · split
      · next hk => subst hk; simpa [mapSorted, mapSortedFrom] using ht
      · next hn hk => simpa [mapSorted, mapSortedFrom] using mapSortedFrom_mapSet k t n v (by omega) ht

theorem mapSortedFrom_filter (a : Nat) (f : Nat × α → Bool) (m : List (Nat × α))
    (hm : mapSortedFrom (some a) m = true) : mapSortedFrom (some a) (m.filter f) = true := by
  induction m generalizing a with
  | nil => rfl
  | cons p t ih =>
    obtain ⟨k, w⟩ := p
    simp only [mapSortedFrom, Bool.and_eq_true, decide_eq_true_eq] at hm
    simp only [List.filter]
    split
    · simp only [mapSortedFrom, Bool.and_eq_true, decide_eq_true_eq]; exact ⟨hm.1, ih k hm.2⟩
    · exact ih a (mapSortedFrom_mono (Nat.le_of_lt hm.1) t hm.2)

/-- Leaving entries out keeps the keys rising. -/
theorem mapSorted_filter (f : Nat × α → Bool) (m : List (Nat × α)) (hm : mapSorted m = true) :
    mapSorted (m.filter f) = true := by
  cases m with
  | nil => rfl
  | cons p t =>
    obtain ⟨k, w⟩ := p
    have ht : mapSortedFrom (some k) t = true := hm
    simp only [List.filter]
    split
    · simpa [mapSorted, mapSortedFrom] using mapSortedFrom_filter k f t ht
    · exact mapSortedFrom_weaken _ _ (mapSortedFrom_filter k f t ht)

/-- Deleting a key keeps the keys rising. -/
theorem mapSorted_mapDel (m : List (Nat × α)) (n : Nat) (hm : mapSorted m = true) : mapSorted (mapDel m n) = true :=
  mapSorted_filter _ m hm

/-- In a map whose keys lie above a bound, a key at or below it has no value. -/
theorem mapGet?_below (a n : Nat) (m : List (Nat × α)) (hm : mapSortedFrom (some a) m = true) (h : n ≤ a) :
    mapGet? m n = none := by
  induction m generalizing a with
  | nil => rfl
  | cons p t ih =>
    obtain ⟨k, w⟩ := p
    simp only [mapSortedFrom, Bool.and_eq_true, decide_eq_true_eq] at hm
    simp only [mapGet?]
    rw [if_neg (by omega)]
    exact ih k hm.2 (by omega)

/-! ## Sorting -/

/-- What an insertion holds. -/
theorem mem_insertBy (le : α → α → Bool) (x y : α) (l : List α) : y ∈ insertBy le x l ↔ y = x ∨ y ∈ l := by
  induction l with
  | nil => simp [insertBy]
  | cons z t ih =>
    simp only [insertBy]
    split
    · simp
    · simp [ih, or_left_comm]

/-- Sorting keeps the elements. -/
@[simp] theorem mem_sortBy (le : α → α → Bool) (y : α) (l : List α) : y ∈ sortBy l le ↔ y ∈ l := by
  induction l with
  | nil => rfl
  | cons x t ih => simp [sortBy, mem_insertBy, ih]

@[simp] theorem length_insertBy (le : α → α → Bool) (x : α) (l : List α) : (insertBy le x l).length = l.length + 1 := by
  induction l with
  | nil => rfl
  | cons z t ih =>
    simp only [insertBy]
    split <;> simp [ih]

/-- Sorting keeps their number. -/
@[simp] theorem length_sortBy (le : α → α → Bool) (l : List α) : (sortBy l le).length = l.length := by
  induction l with
  | nil => rfl
  | cons x t ih => simp [sortBy, ih]

@[simp] theorem sortBy_nil (le : α → α → Bool) : sortBy [] le = [] := rfl
@[simp] theorem sortBy_singleton (le : α → α → Bool) (x : α) : sortBy [x] le = [x] := rfl

end Sys2Proof.Machine
end

