-- ==== Sys2Proof/Laws/State.lean ====
section
/-! SUPPORT. One lemma per field of State for each of its updates: what the update writes, and that it leaves every other
field; then reading one entry after an update. -/

namespace Sys2Proof.Machine

variable (s : State)

/-! ## State.setGroup -/

@[simp] theorem State.setGroup_agenda (k : Nat) (g : Group) : (s.setGroup k g).agenda = s.agenda := rfl
@[simp] theorem State.setGroup_inputs (k : Nat) (g : Group) : (s.setGroup k g).inputs = s.inputs := rfl
@[simp] theorem State.setGroup_asker (k : Nat) (g : Group) : (s.setGroup k g).asker = s.asker := rfl
@[simp] theorem State.setGroup_chosen (k : Nat) (g : Group) : (s.setGroup k g).chosen = s.chosen := rfl
@[simp] theorem State.setGroup_cur (k : Nat) (g : Group) : (s.setGroup k g).cur = s.cur := rfl
@[simp] theorem State.setGroup_delays (k : Nat) (g : Group) : (s.setGroup k g).delays = s.delays := rfl
@[simp] theorem State.setGroup_hits (k : Nat) (g : Group) : (s.setGroup k g).hits = s.hits := rfl
@[simp] theorem State.setGroup_freeCtr (k : Nat) (g : Group) : (s.setGroup k g).freeCtr = s.freeCtr := rfl
@[simp] theorem State.setGroup_nextId (k : Nat) (g : Group) : (s.setGroup k g).nextId = s.nextId := rfl
@[simp] theorem State.setGroup_cycle (k : Nat) (g : Group) : (s.setGroup k g).cycle = s.cycle := rfl
@[simp] theorem State.setGroup_baseCycle (k : Nat) (g : Group) : (s.setGroup k g).baseCycle = s.baseCycle := rfl
@[simp] theorem State.setGroup_baseAcc (k : Nat) (g : Group) : (s.setGroup k g).baseAcc = s.baseAcc := rfl
@[simp] theorem State.setGroup_baseDue (k : Nat) (g : Group) : (s.setGroup k g).baseDue = s.baseDue := rfl
@[simp] theorem State.setGroup_timer (k : Nat) (g : Group) : (s.setGroup k g).timer = s.timer := rfl
@[simp] theorem State.setGroup_timerAcc (k : Nat) (g : Group) : (s.setGroup k g).timerAcc = s.timerAcc := rfl
@[simp] theorem State.setGroup_groups (k : Nat) (g : Group) : (s.setGroup k g).groups = mapSet s.groups k g := rfl
@[simp] theorem State.setGroup_teams (k : Nat) (g : Group) : (s.setGroup k g).teams = s.teams := rfl
@[simp] theorem State.setGroup_launches (k : Nat) (g : Group) : (s.setGroup k g).launches = s.launches := rfl
@[simp] theorem State.setGroup_ranges (k : Nat) (g : Group) : (s.setGroup k g).ranges = s.ranges := rfl
@[simp] theorem State.setGroup_ops (k : Nat) (g : Group) : (s.setGroup k g).ops = s.ops := rfl
@[simp] theorem State.setGroup_regsUsed (k : Nat) (g : Group) : (s.setGroup k g).regsUsed = s.regsUsed := rfl
@[simp] theorem State.setGroup_laneBusy (k : Nat) (g : Group) : (s.setGroup k g).laneBusy = s.laneBusy := rfl
@[simp] theorem State.setGroup_clusters (k : Nat) (g : Group) : (s.setGroup k g).clusters = s.clusters := rfl
@[simp] theorem State.setGroup_dies (k : Nat) (g : Group) : (s.setGroup k g).dies = s.dies := rfl
@[simp] theorem State.setGroup_copies (k : Nat) (g : Group) : (s.setGroup k g).copies = s.copies := rfl
@[simp] theorem State.setGroup_orphans (k : Nat) (g : Group) : (s.setGroup k g).orphans = s.orphans := rfl
@[simp] theorem State.setGroup_mem (k : Nat) (g : Group) : (s.setGroup k g).mem = s.mem := rfl
@[simp] theorem State.setGroup_dirty (k : Nat) (g : Group) : (s.setGroup k g).dirty = s.dirty := rfl
@[simp] theorem State.setGroup_log (k : Nat) (g : Group) : (s.setGroup k g).log = s.log := rfl
@[simp] theorem State.setGroup_reds (k : Nat) (g : Group) : (s.setGroup k g).reds = s.reds := rfl
@[simp] theorem State.setGroup_heldLines (k : Nat) (g : Group) : (s.setGroup k g).heldLines = s.heldLines := rfl
@[simp] theorem State.setGroup_poisoned (k : Nat) (g : Group) : (s.setGroup k g).poisoned = s.poisoned := rfl
@[simp] theorem State.setGroup_keyed (k : Nat) (g : Group) : (s.setGroup k g).keyed = s.keyed := rfl
@[simp] theorem State.setGroup_ciphers (k : Nat) (g : Group) : (s.setGroup k g).ciphers = s.ciphers := rfl
@[simp] theorem State.setGroup_peers (k : Nat) (g : Group) : (s.setGroup k g).peers = s.peers := rfl
@[simp] theorem State.setGroup_peerPoison (k : Nat) (g : Group) : (s.setGroup k g).peerPoison = s.peerPoison := rfl
@[simp] theorem State.setGroup_pod (k : Nat) (g : Group) : (s.setGroup k g).pod = s.pod := rfl
@[simp] theorem State.setGroup_peerAsks (k : Nat) (g : Group) : (s.setGroup k g).peerAsks = s.peerAsks := rfl
@[simp] theorem State.setGroup_l1 (k : Nat) (g : Group) : (s.setGroup k g).l1 = s.l1 := rfl
@[simp] theorem State.setGroup_victims (k : Nat) (g : Group) : (s.setGroup k g).victims = s.victims := rfl
@[simp] theorem State.setGroup_slices (k : Nat) (g : Group) : (s.setGroup k g).slices = s.slices := rfl
@[simp] theorem State.setGroup_remap (k : Nat) (g : Group) : (s.setGroup k g).remap = s.remap := rfl
@[simp] theorem State.setGroup_tlb (k : Nat) (g : Group) : (s.setGroup k g).tlb = s.tlb := rfl
@[simp] theorem State.setGroup_migs (k : Nat) (g : Group) : (s.setGroup k g).migs = s.migs := rfl
@[simp] theorem State.setGroup_heldStores (k : Nat) (g : Group) : (s.setGroup k g).heldStores = s.heldStores := rfl
@[simp] theorem State.setGroup_heldEnds (k : Nat) (g : Group) : (s.setGroup k g).heldEnds = s.heldEnds := rfl
@[simp] theorem State.setGroup_cream (k : Nat) (g : Group) : (s.setGroup k g).cream = s.cream := rfl
@[simp] theorem State.setGroup_queues (k : Nat) (g : Group) : (s.setGroup k g).queues = s.queues := rfl
@[simp] theorem State.setGroup_children (k : Nat) (g : Group) : (s.setGroup k g).children = s.children := rfl
@[simp] theorem State.setGroup_front (k : Nat) (g : Group) : (s.setGroup k g).front = s.front := rfl
@[simp] theorem State.setGroup_rrPos (k : Nat) (g : Group) : (s.setGroup k g).rrPos = s.rrPos := rfl
@[simp] theorem State.setGroup_events (k : Nat) (g : Group) : (s.setGroup k g).events = s.events := rfl
@[simp] theorem State.setGroup_heldEvts (k : Nat) (g : Group) : (s.setGroup k g).heldEvts = s.heldEvts := rfl
@[simp] theorem State.setGroup_qlocks (k : Nat) (g : Group) : (s.setGroup k g).qlocks = s.qlocks := rfl
@[simp] theorem State.setGroup_contexts (k : Nat) (g : Group) : (s.setGroup k g).contexts = s.contexts := rfl
@[simp] theorem State.setGroup_resid (k : Nat) (g : Group) : (s.setGroup k g).resid = s.resid := rfl
@[simp] theorem State.setGroup_scripts (k : Nat) (g : Group) : (s.setGroup k g).scripts = s.scripts := rfl
@[simp] theorem State.setGroup_cmcOut (k : Nat) (g : Group) : (s.setGroup k g).cmcOut = s.cmcOut := rfl
@[simp] theorem State.setGroup_cpHalt (k : Nat) (g : Group) : (s.setGroup k g).cpHalt = s.cpHalt := rfl
@[simp] theorem State.setGroup_cmcEvent (k : Nat) (g : Group) : (s.setGroup k g).cmcEvent = s.cmcEvent := rfl
@[simp] theorem State.setGroup_cmcTrapNs (k : Nat) (g : Group) : (s.setGroup k g).cmcTrapNs = s.cmcTrapNs := rfl
@[simp] theorem State.setGroup_keySlots (k : Nat) (g : Group) : (s.setGroup k g).keySlots = s.keySlots := rfl
@[simp] theorem State.setGroup_package (k : Nat) (g : Group) : (s.setGroup k g).package = s.package := rfl
@[simp] theorem State.setGroup_tickets (k : Nat) (g : Group) : (s.setGroup k g).tickets = s.tickets := rfl
@[simp] theorem State.setGroup_clbs (k : Nat) (g : Group) : (s.setGroup k g).clbs = s.clbs := rfl
@[simp] theorem State.setGroup_ports (k : Nat) (g : Group) : (s.setGroup k g).ports = s.ports := rfl
@[simp] theorem State.setGroup_modules (k : Nat) (g : Group) : (s.setGroup k g).modules = s.modules := rfl
@[simp] theorem State.setGroup_drained (k : Nat) (g : Group) : (s.setGroup k g).drained = s.drained := rfl
@[simp] theorem State.setGroup_peerLinks (k : Nat) (g : Group) : (s.setGroup k g).peerLinks = s.peerLinks := rfl
@[simp] theorem State.setGroup_hellos (k : Nat) (g : Group) : (s.setGroup k g).hellos = s.hellos := rfl
@[simp] theorem State.setGroup_silent (k : Nat) (g : Group) : (s.setGroup k g).silent = s.silent := rfl
@[simp] theorem State.setGroup_sessions (k : Nat) (g : Group) : (s.setGroup k g).sessions = s.sessions := rfl
@[simp] theorem State.setGroup_wheyDrops (k : Nat) (g : Group) : (s.setGroup k g).wheyDrops = s.wheyDrops := rfl
@[simp] theorem State.setGroup_links (k : Nat) (g : Group) : (s.setGroup k g).links = s.links := rfl
@[simp] theorem State.setGroup_reqs (k : Nat) (g : Group) : (s.setGroup k g).reqs = s.reqs := rfl
@[simp] theorem State.setGroup_ras (k : Nat) (g : Group) : (s.setGroup k g).ras = s.ras := rfl
@[simp] theorem State.setGroup_boot (k : Nat) (g : Group) : (s.setGroup k g).boot = s.boot := rfl
@[simp] theorem State.setGroup_fw (k : Nat) (g : Group) : (s.setGroup k g).fw = s.fw := rfl
@[simp] theorem State.setGroup_power (k : Nat) (g : Group) : (s.setGroup k g).power = s.power := rfl
@[simp] theorem State.setGroup_ident (k : Nat) (g : Group) : (s.setGroup k g).ident = s.ident := rfl
@[simp] theorem State.setGroup_hostErr (k : Nat) (g : Group) : (s.setGroup k g).hostErr = s.hostErr := rfl
@[simp] theorem State.setGroup_hostShares (k : Nat) (g : Group) : (s.setGroup k g).hostShares = s.hostShares := rfl
@[simp] theorem State.setGroup_outbox (k : Nat) (g : Group) : (s.setGroup k g).outbox = s.outbox := rfl

/-! ## State.setOp -/

@[simp] theorem State.setOp_agenda (k : Nat) (o : Op) : (s.setOp k o).agenda = s.agenda := rfl
@[simp] theorem State.setOp_inputs (k : Nat) (o : Op) : (s.setOp k o).inputs = s.inputs := rfl
@[simp] theorem State.setOp_asker (k : Nat) (o : Op) : (s.setOp k o).asker = s.asker := rfl
@[simp] theorem State.setOp_chosen (k : Nat) (o : Op) : (s.setOp k o).chosen = s.chosen := rfl
@[simp] theorem State.setOp_cur (k : Nat) (o : Op) : (s.setOp k o).cur = s.cur := rfl
@[simp] theorem State.setOp_delays (k : Nat) (o : Op) : (s.setOp k o).delays = s.delays := rfl
@[simp] theorem State.setOp_hits (k : Nat) (o : Op) : (s.setOp k o).hits = s.hits := rfl
@[simp] theorem State.setOp_freeCtr (k : Nat) (o : Op) : (s.setOp k o).freeCtr = s.freeCtr := rfl
@[simp] theorem State.setOp_nextId (k : Nat) (o : Op) : (s.setOp k o).nextId = s.nextId := rfl
@[simp] theorem State.setOp_cycle (k : Nat) (o : Op) : (s.setOp k o).cycle = s.cycle := rfl
@[simp] theorem State.setOp_baseCycle (k : Nat) (o : Op) : (s.setOp k o).baseCycle = s.baseCycle := rfl
@[simp] theorem State.setOp_baseAcc (k : Nat) (o : Op) : (s.setOp k o).baseAcc = s.baseAcc := rfl
@[simp] theorem State.setOp_baseDue (k : Nat) (o : Op) : (s.setOp k o).baseDue = s.baseDue := rfl
@[simp] theorem State.setOp_timer (k : Nat) (o : Op) : (s.setOp k o).timer = s.timer := rfl
@[simp] theorem State.setOp_timerAcc (k : Nat) (o : Op) : (s.setOp k o).timerAcc = s.timerAcc := rfl
@[simp] theorem State.setOp_groups (k : Nat) (o : Op) : (s.setOp k o).groups = s.groups := rfl
@[simp] theorem State.setOp_teams (k : Nat) (o : Op) : (s.setOp k o).teams = s.teams := rfl
@[simp] theorem State.setOp_launches (k : Nat) (o : Op) : (s.setOp k o).launches = s.launches := rfl
@[simp] theorem State.setOp_ranges (k : Nat) (o : Op) : (s.setOp k o).ranges = s.ranges := rfl
@[simp] theorem State.setOp_ops (k : Nat) (o : Op) : (s.setOp k o).ops = mapSet s.ops k o := rfl
@[simp] theorem State.setOp_regsUsed (k : Nat) (o : Op) : (s.setOp k o).regsUsed = s.regsUsed := rfl
@[simp] theorem State.setOp_laneBusy (k : Nat) (o : Op) : (s.setOp k o).laneBusy = s.laneBusy := rfl
@[simp] theorem State.setOp_clusters (k : Nat) (o : Op) : (s.setOp k o).clusters = s.clusters := rfl
@[simp] theorem State.setOp_dies (k : Nat) (o : Op) : (s.setOp k o).dies = s.dies := rfl
@[simp] theorem State.setOp_copies (k : Nat) (o : Op) : (s.setOp k o).copies = s.copies := rfl
@[simp] theorem State.setOp_orphans (k : Nat) (o : Op) : (s.setOp k o).orphans = s.orphans := rfl
@[simp] theorem State.setOp_mem (k : Nat) (o : Op) : (s.setOp k o).mem = s.mem := rfl
@[simp] theorem State.setOp_dirty (k : Nat) (o : Op) : (s.setOp k o).dirty = s.dirty := rfl
@[simp] theorem State.setOp_log (k : Nat) (o : Op) : (s.setOp k o).log = s.log := rfl
@[simp] theorem State.setOp_reds (k : Nat) (o : Op) : (s.setOp k o).reds = s.reds := rfl
@[simp] theorem State.setOp_heldLines (k : Nat) (o : Op) : (s.setOp k o).heldLines = s.heldLines := rfl
@[simp] theorem State.setOp_poisoned (k : Nat) (o : Op) : (s.setOp k o).poisoned = s.poisoned := rfl
@[simp] theorem State.setOp_keyed (k : Nat) (o : Op) : (s.setOp k o).keyed = s.keyed := rfl
@[simp] theorem State.setOp_ciphers (k : Nat) (o : Op) : (s.setOp k o).ciphers = s.ciphers := rfl
@[simp] theorem State.setOp_peers (k : Nat) (o : Op) : (s.setOp k o).peers = s.peers := rfl
@[simp] theorem State.setOp_peerPoison (k : Nat) (o : Op) : (s.setOp k o).peerPoison = s.peerPoison := rfl
@[simp] theorem State.setOp_pod (k : Nat) (o : Op) : (s.setOp k o).pod = s.pod := rfl
@[simp] theorem State.setOp_peerAsks (k : Nat) (o : Op) : (s.setOp k o).peerAsks = s.peerAsks := rfl
@[simp] theorem State.setOp_l1 (k : Nat) (o : Op) : (s.setOp k o).l1 = s.l1 := rfl
@[simp] theorem State.setOp_victims (k : Nat) (o : Op) : (s.setOp k o).victims = s.victims := rfl
@[simp] theorem State.setOp_slices (k : Nat) (o : Op) : (s.setOp k o).slices = s.slices := rfl
@[simp] theorem State.setOp_remap (k : Nat) (o : Op) : (s.setOp k o).remap = s.remap := rfl
@[simp] theorem State.setOp_tlb (k : Nat) (o : Op) : (s.setOp k o).tlb = s.tlb := rfl
@[simp] theorem State.setOp_migs (k : Nat) (o : Op) : (s.setOp k o).migs = s.migs := rfl
@[simp] theorem State.setOp_heldStores (k : Nat) (o : Op) : (s.setOp k o).heldStores = s.heldStores := rfl
@[simp] theorem State.setOp_heldEnds (k : Nat) (o : Op) : (s.setOp k o).heldEnds = s.heldEnds := rfl
@[simp] theorem State.setOp_cream (k : Nat) (o : Op) : (s.setOp k o).cream = s.cream := rfl
@[simp] theorem State.setOp_queues (k : Nat) (o : Op) : (s.setOp k o).queues = s.queues := rfl
@[simp] theorem State.setOp_children (k : Nat) (o : Op) : (s.setOp k o).children = s.children := rfl
@[simp] theorem State.setOp_front (k : Nat) (o : Op) : (s.setOp k o).front = s.front := rfl
@[simp] theorem State.setOp_rrPos (k : Nat) (o : Op) : (s.setOp k o).rrPos = s.rrPos := rfl
@[simp] theorem State.setOp_events (k : Nat) (o : Op) : (s.setOp k o).events = s.events := rfl
@[simp] theorem State.setOp_heldEvts (k : Nat) (o : Op) : (s.setOp k o).heldEvts = s.heldEvts := rfl
@[simp] theorem State.setOp_qlocks (k : Nat) (o : Op) : (s.setOp k o).qlocks = s.qlocks := rfl
@[simp] theorem State.setOp_contexts (k : Nat) (o : Op) : (s.setOp k o).contexts = s.contexts := rfl
@[simp] theorem State.setOp_resid (k : Nat) (o : Op) : (s.setOp k o).resid = s.resid := rfl
@[simp] theorem State.setOp_scripts (k : Nat) (o : Op) : (s.setOp k o).scripts = s.scripts := rfl
@[simp] theorem State.setOp_cmcOut (k : Nat) (o : Op) : (s.setOp k o).cmcOut = s.cmcOut := rfl
@[simp] theorem State.setOp_cpHalt (k : Nat) (o : Op) : (s.setOp k o).cpHalt = s.cpHalt := rfl
@[simp] theorem State.setOp_cmcEvent (k : Nat) (o : Op) : (s.setOp k o).cmcEvent = s.cmcEvent := rfl
@[simp] theorem State.setOp_cmcTrapNs (k : Nat) (o : Op) : (s.setOp k o).cmcTrapNs = s.cmcTrapNs := rfl
@[simp] theorem State.setOp_keySlots (k : Nat) (o : Op) : (s.setOp k o).keySlots = s.keySlots := rfl
@[simp] theorem State.setOp_package (k : Nat) (o : Op) : (s.setOp k o).package = s.package := rfl
@[simp] theorem State.setOp_tickets (k : Nat) (o : Op) : (s.setOp k o).tickets = s.tickets := rfl
@[simp] theorem State.setOp_clbs (k : Nat) (o : Op) : (s.setOp k o).clbs = s.clbs := rfl
@[simp] theorem State.setOp_ports (k : Nat) (o : Op) : (s.setOp k o).ports = s.ports := rfl
@[simp] theorem State.setOp_modules (k : Nat) (o : Op) : (s.setOp k o).modules = s.modules := rfl
@[simp] theorem State.setOp_drained (k : Nat) (o : Op) : (s.setOp k o).drained = s.drained := rfl
@[simp] theorem State.setOp_peerLinks (k : Nat) (o : Op) : (s.setOp k o).peerLinks = s.peerLinks := rfl
@[simp] theorem State.setOp_hellos (k : Nat) (o : Op) : (s.setOp k o).hellos = s.hellos := rfl
@[simp] theorem State.setOp_silent (k : Nat) (o : Op) : (s.setOp k o).silent = s.silent := rfl
@[simp] theorem State.setOp_sessions (k : Nat) (o : Op) : (s.setOp k o).sessions = s.sessions := rfl
@[simp] theorem State.setOp_wheyDrops (k : Nat) (o : Op) : (s.setOp k o).wheyDrops = s.wheyDrops := rfl
@[simp] theorem State.setOp_links (k : Nat) (o : Op) : (s.setOp k o).links = s.links := rfl
@[simp] theorem State.setOp_reqs (k : Nat) (o : Op) : (s.setOp k o).reqs = s.reqs := rfl
@[simp] theorem State.setOp_ras (k : Nat) (o : Op) : (s.setOp k o).ras = s.ras := rfl
@[simp] theorem State.setOp_boot (k : Nat) (o : Op) : (s.setOp k o).boot = s.boot := rfl
@[simp] theorem State.setOp_fw (k : Nat) (o : Op) : (s.setOp k o).fw = s.fw := rfl
@[simp] theorem State.setOp_power (k : Nat) (o : Op) : (s.setOp k o).power = s.power := rfl
@[simp] theorem State.setOp_ident (k : Nat) (o : Op) : (s.setOp k o).ident = s.ident := rfl
@[simp] theorem State.setOp_hostErr (k : Nat) (o : Op) : (s.setOp k o).hostErr = s.hostErr := rfl
@[simp] theorem State.setOp_hostShares (k : Nat) (o : Op) : (s.setOp k o).hostShares = s.hostShares := rfl
@[simp] theorem State.setOp_outbox (k : Nat) (o : Op) : (s.setOp k o).outbox = s.outbox := rfl

/-! ## State.delOp -/

@[simp] theorem State.delOp_agenda (k : Nat) : (s.delOp k).agenda = s.agenda := rfl
@[simp] theorem State.delOp_inputs (k : Nat) : (s.delOp k).inputs = s.inputs := rfl
@[simp] theorem State.delOp_asker (k : Nat) : (s.delOp k).asker = s.asker := rfl
@[simp] theorem State.delOp_chosen (k : Nat) : (s.delOp k).chosen = s.chosen := rfl
@[simp] theorem State.delOp_cur (k : Nat) : (s.delOp k).cur = s.cur := rfl
@[simp] theorem State.delOp_delays (k : Nat) : (s.delOp k).delays = s.delays := rfl
@[simp] theorem State.delOp_hits (k : Nat) : (s.delOp k).hits = s.hits := rfl
@[simp] theorem State.delOp_freeCtr (k : Nat) : (s.delOp k).freeCtr = s.freeCtr := rfl
@[simp] theorem State.delOp_nextId (k : Nat) : (s.delOp k).nextId = s.nextId := rfl
@[simp] theorem State.delOp_cycle (k : Nat) : (s.delOp k).cycle = s.cycle := rfl
@[simp] theorem State.delOp_baseCycle (k : Nat) : (s.delOp k).baseCycle = s.baseCycle := rfl
@[simp] theorem State.delOp_baseAcc (k : Nat) : (s.delOp k).baseAcc = s.baseAcc := rfl
@[simp] theorem State.delOp_baseDue (k : Nat) : (s.delOp k).baseDue = s.baseDue := rfl
@[simp] theorem State.delOp_timer (k : Nat) : (s.delOp k).timer = s.timer := rfl
@[simp] theorem State.delOp_timerAcc (k : Nat) : (s.delOp k).timerAcc = s.timerAcc := rfl
@[simp] theorem State.delOp_groups (k : Nat) : (s.delOp k).groups = s.groups := rfl
@[simp] theorem State.delOp_teams (k : Nat) : (s.delOp k).teams = s.teams := rfl
@[simp] theorem State.delOp_launches (k : Nat) : (s.delOp k).launches = s.launches := rfl
@[simp] theorem State.delOp_ranges (k : Nat) : (s.delOp k).ranges = s.ranges := rfl
@[simp] theorem State.delOp_ops (k : Nat) : (s.delOp k).ops = mapDel s.ops k := rfl
@[simp] theorem State.delOp_regsUsed (k : Nat) : (s.delOp k).regsUsed = s.regsUsed := rfl
@[simp] theorem State.delOp_laneBusy (k : Nat) : (s.delOp k).laneBusy = s.laneBusy := rfl
@[simp] theorem State.delOp_clusters (k : Nat) : (s.delOp k).clusters = s.clusters := rfl
@[simp] theorem State.delOp_dies (k : Nat) : (s.delOp k).dies = s.dies := rfl
@[simp] theorem State.delOp_copies (k : Nat) : (s.delOp k).copies = s.copies := rfl
@[simp] theorem State.delOp_orphans (k : Nat) : (s.delOp k).orphans = s.orphans := rfl
@[simp] theorem State.delOp_mem (k : Nat) : (s.delOp k).mem = s.mem := rfl
@[simp] theorem State.delOp_dirty (k : Nat) : (s.delOp k).dirty = s.dirty := rfl
@[simp] theorem State.delOp_log (k : Nat) : (s.delOp k).log = s.log := rfl
@[simp] theorem State.delOp_reds (k : Nat) : (s.delOp k).reds = s.reds := rfl
@[simp] theorem State.delOp_heldLines (k : Nat) : (s.delOp k).heldLines = s.heldLines := rfl
@[simp] theorem State.delOp_poisoned (k : Nat) : (s.delOp k).poisoned = s.poisoned := rfl
@[simp] theorem State.delOp_keyed (k : Nat) : (s.delOp k).keyed = s.keyed := rfl
@[simp] theorem State.delOp_ciphers (k : Nat) : (s.delOp k).ciphers = s.ciphers := rfl
@[simp] theorem State.delOp_peers (k : Nat) : (s.delOp k).peers = s.peers := rfl
@[simp] theorem State.delOp_peerPoison (k : Nat) : (s.delOp k).peerPoison = s.peerPoison := rfl
@[simp] theorem State.delOp_pod (k : Nat) : (s.delOp k).pod = s.pod := rfl
@[simp] theorem State.delOp_peerAsks (k : Nat) : (s.delOp k).peerAsks = s.peerAsks := rfl
@[simp] theorem State.delOp_l1 (k : Nat) : (s.delOp k).l1 = s.l1 := rfl
@[simp] theorem State.delOp_victims (k : Nat) : (s.delOp k).victims = s.victims := rfl
@[simp] theorem State.delOp_slices (k : Nat) : (s.delOp k).slices = s.slices := rfl
@[simp] theorem State.delOp_remap (k : Nat) : (s.delOp k).remap = s.remap := rfl
@[simp] theorem State.delOp_tlb (k : Nat) : (s.delOp k).tlb = s.tlb := rfl
@[simp] theorem State.delOp_migs (k : Nat) : (s.delOp k).migs = s.migs := rfl
@[simp] theorem State.delOp_heldStores (k : Nat) : (s.delOp k).heldStores = s.heldStores := rfl
@[simp] theorem State.delOp_heldEnds (k : Nat) : (s.delOp k).heldEnds = s.heldEnds := rfl
@[simp] theorem State.delOp_cream (k : Nat) : (s.delOp k).cream = s.cream := rfl
@[simp] theorem State.delOp_queues (k : Nat) : (s.delOp k).queues = s.queues := rfl
@[simp] theorem State.delOp_children (k : Nat) : (s.delOp k).children = s.children := rfl
@[simp] theorem State.delOp_front (k : Nat) : (s.delOp k).front = s.front := rfl
@[simp] theorem State.delOp_rrPos (k : Nat) : (s.delOp k).rrPos = s.rrPos := rfl
@[simp] theorem State.delOp_events (k : Nat) : (s.delOp k).events = s.events := rfl
@[simp] theorem State.delOp_heldEvts (k : Nat) : (s.delOp k).heldEvts = s.heldEvts := rfl
@[simp] theorem State.delOp_qlocks (k : Nat) : (s.delOp k).qlocks = s.qlocks := rfl
@[simp] theorem State.delOp_contexts (k : Nat) : (s.delOp k).contexts = s.contexts := rfl
@[simp] theorem State.delOp_resid (k : Nat) : (s.delOp k).resid = s.resid := rfl
@[simp] theorem State.delOp_scripts (k : Nat) : (s.delOp k).scripts = s.scripts := rfl
@[simp] theorem State.delOp_cmcOut (k : Nat) : (s.delOp k).cmcOut = s.cmcOut := rfl
@[simp] theorem State.delOp_cpHalt (k : Nat) : (s.delOp k).cpHalt = s.cpHalt := rfl
@[simp] theorem State.delOp_cmcEvent (k : Nat) : (s.delOp k).cmcEvent = s.cmcEvent := rfl
@[simp] theorem State.delOp_cmcTrapNs (k : Nat) : (s.delOp k).cmcTrapNs = s.cmcTrapNs := rfl
@[simp] theorem State.delOp_keySlots (k : Nat) : (s.delOp k).keySlots = s.keySlots := rfl
@[simp] theorem State.delOp_package (k : Nat) : (s.delOp k).package = s.package := rfl
@[simp] theorem State.delOp_tickets (k : Nat) : (s.delOp k).tickets = s.tickets := rfl
@[simp] theorem State.delOp_clbs (k : Nat) : (s.delOp k).clbs = s.clbs := rfl
@[simp] theorem State.delOp_ports (k : Nat) : (s.delOp k).ports = s.ports := rfl
@[simp] theorem State.delOp_modules (k : Nat) : (s.delOp k).modules = s.modules := rfl
@[simp] theorem State.delOp_drained (k : Nat) : (s.delOp k).drained = s.drained := rfl
@[simp] theorem State.delOp_peerLinks (k : Nat) : (s.delOp k).peerLinks = s.peerLinks := rfl
@[simp] theorem State.delOp_hellos (k : Nat) : (s.delOp k).hellos = s.hellos := rfl
@[simp] theorem State.delOp_silent (k : Nat) : (s.delOp k).silent = s.silent := rfl
@[simp] theorem State.delOp_sessions (k : Nat) : (s.delOp k).sessions = s.sessions := rfl
@[simp] theorem State.delOp_wheyDrops (k : Nat) : (s.delOp k).wheyDrops = s.wheyDrops := rfl
@[simp] theorem State.delOp_links (k : Nat) : (s.delOp k).links = s.links := rfl
@[simp] theorem State.delOp_reqs (k : Nat) : (s.delOp k).reqs = s.reqs := rfl
@[simp] theorem State.delOp_ras (k : Nat) : (s.delOp k).ras = s.ras := rfl
@[simp] theorem State.delOp_boot (k : Nat) : (s.delOp k).boot = s.boot := rfl
@[simp] theorem State.delOp_fw (k : Nat) : (s.delOp k).fw = s.fw := rfl
@[simp] theorem State.delOp_power (k : Nat) : (s.delOp k).power = s.power := rfl
@[simp] theorem State.delOp_ident (k : Nat) : (s.delOp k).ident = s.ident := rfl
@[simp] theorem State.delOp_hostErr (k : Nat) : (s.delOp k).hostErr = s.hostErr := rfl
@[simp] theorem State.delOp_hostShares (k : Nat) : (s.delOp k).hostShares = s.hostShares := rfl
@[simp] theorem State.delOp_outbox (k : Nat) : (s.delOp k).outbox = s.outbox := rfl

/-! ## State.setTeam -/

@[simp] theorem State.setTeam_agenda (k : Nat) (x : Team) : (s.setTeam k x).agenda = s.agenda := rfl
@[simp] theorem State.setTeam_inputs (k : Nat) (x : Team) : (s.setTeam k x).inputs = s.inputs := rfl
@[simp] theorem State.setTeam_asker (k : Nat) (x : Team) : (s.setTeam k x).asker = s.asker := rfl
@[simp] theorem State.setTeam_chosen (k : Nat) (x : Team) : (s.setTeam k x).chosen = s.chosen := rfl
@[simp] theorem State.setTeam_cur (k : Nat) (x : Team) : (s.setTeam k x).cur = s.cur := rfl
@[simp] theorem State.setTeam_delays (k : Nat) (x : Team) : (s.setTeam k x).delays = s.delays := rfl
@[simp] theorem State.setTeam_hits (k : Nat) (x : Team) : (s.setTeam k x).hits = s.hits := rfl
@[simp] theorem State.setTeam_freeCtr (k : Nat) (x : Team) : (s.setTeam k x).freeCtr = s.freeCtr := rfl
@[simp] theorem State.setTeam_nextId (k : Nat) (x : Team) : (s.setTeam k x).nextId = s.nextId := rfl
@[simp] theorem State.setTeam_cycle (k : Nat) (x : Team) : (s.setTeam k x).cycle = s.cycle := rfl
@[simp] theorem State.setTeam_baseCycle (k : Nat) (x : Team) : (s.setTeam k x).baseCycle = s.baseCycle := rfl
@[simp] theorem State.setTeam_baseAcc (k : Nat) (x : Team) : (s.setTeam k x).baseAcc = s.baseAcc := rfl
@[simp] theorem State.setTeam_baseDue (k : Nat) (x : Team) : (s.setTeam k x).baseDue = s.baseDue := rfl
@[simp] theorem State.setTeam_timer (k : Nat) (x : Team) : (s.setTeam k x).timer = s.timer := rfl
@[simp] theorem State.setTeam_timerAcc (k : Nat) (x : Team) : (s.setTeam k x).timerAcc = s.timerAcc := rfl
@[simp] theorem State.setTeam_groups (k : Nat) (x : Team) : (s.setTeam k x).groups = s.groups := rfl
@[simp] theorem State.setTeam_teams (k : Nat) (x : Team) : (s.setTeam k x).teams = mapSet s.teams k x := rfl
@[simp] theorem State.setTeam_launches (k : Nat) (x : Team) : (s.setTeam k x).launches = s.launches := rfl
@[simp] theorem State.setTeam_ranges (k : Nat) (x : Team) : (s.setTeam k x).ranges = s.ranges := rfl
@[simp] theorem State.setTeam_ops (k : Nat) (x : Team) : (s.setTeam k x).ops = s.ops := rfl
@[simp] theorem State.setTeam_regsUsed (k : Nat) (x : Team) : (s.setTeam k x).regsUsed = s.regsUsed := rfl
@[simp] theorem State.setTeam_laneBusy (k : Nat) (x : Team) : (s.setTeam k x).laneBusy = s.laneBusy := rfl
@[simp] theorem State.setTeam_clusters (k : Nat) (x : Team) : (s.setTeam k x).clusters = s.clusters := rfl
@[simp] theorem State.setTeam_dies (k : Nat) (x : Team) : (s.setTeam k x).dies = s.dies := rfl
@[simp] theorem State.setTeam_copies (k : Nat) (x : Team) : (s.setTeam k x).copies = s.copies := rfl
@[simp] theorem State.setTeam_orphans (k : Nat) (x : Team) : (s.setTeam k x).orphans = s.orphans := rfl
@[simp] theorem State.setTeam_mem (k : Nat) (x : Team) : (s.setTeam k x).mem = s.mem := rfl
@[simp] theorem State.setTeam_dirty (k : Nat) (x : Team) : (s.setTeam k x).dirty = s.dirty := rfl
@[simp] theorem State.setTeam_log (k : Nat) (x : Team) : (s.setTeam k x).log = s.log := rfl
@[simp] theorem State.setTeam_reds (k : Nat) (x : Team) : (s.setTeam k x).reds = s.reds := rfl
@[simp] theorem State.setTeam_heldLines (k : Nat) (x : Team) : (s.setTeam k x).heldLines = s.heldLines := rfl
@[simp] theorem State.setTeam_poisoned (k : Nat) (x : Team) : (s.setTeam k x).poisoned = s.poisoned := rfl
@[simp] theorem State.setTeam_keyed (k : Nat) (x : Team) : (s.setTeam k x).keyed = s.keyed := rfl
@[simp] theorem State.setTeam_ciphers (k : Nat) (x : Team) : (s.setTeam k x).ciphers = s.ciphers := rfl
@[simp] theorem State.setTeam_peers (k : Nat) (x : Team) : (s.setTeam k x).peers = s.peers := rfl
@[simp] theorem State.setTeam_peerPoison (k : Nat) (x : Team) : (s.setTeam k x).peerPoison = s.peerPoison := rfl
@[simp] theorem State.setTeam_pod (k : Nat) (x : Team) : (s.setTeam k x).pod = s.pod := rfl
@[simp] theorem State.setTeam_peerAsks (k : Nat) (x : Team) : (s.setTeam k x).peerAsks = s.peerAsks := rfl
@[simp] theorem State.setTeam_l1 (k : Nat) (x : Team) : (s.setTeam k x).l1 = s.l1 := rfl
@[simp] theorem State.setTeam_victims (k : Nat) (x : Team) : (s.setTeam k x).victims = s.victims := rfl
@[simp] theorem State.setTeam_slices (k : Nat) (x : Team) : (s.setTeam k x).slices = s.slices := rfl
@[simp] theorem State.setTeam_remap (k : Nat) (x : Team) : (s.setTeam k x).remap = s.remap := rfl
@[simp] theorem State.setTeam_tlb (k : Nat) (x : Team) : (s.setTeam k x).tlb = s.tlb := rfl
@[simp] theorem State.setTeam_migs (k : Nat) (x : Team) : (s.setTeam k x).migs = s.migs := rfl
@[simp] theorem State.setTeam_heldStores (k : Nat) (x : Team) : (s.setTeam k x).heldStores = s.heldStores := rfl
@[simp] theorem State.setTeam_heldEnds (k : Nat) (x : Team) : (s.setTeam k x).heldEnds = s.heldEnds := rfl
@[simp] theorem State.setTeam_cream (k : Nat) (x : Team) : (s.setTeam k x).cream = s.cream := rfl
@[simp] theorem State.setTeam_queues (k : Nat) (x : Team) : (s.setTeam k x).queues = s.queues := rfl
@[simp] theorem State.setTeam_children (k : Nat) (x : Team) : (s.setTeam k x).children = s.children := rfl
@[simp] theorem State.setTeam_front (k : Nat) (x : Team) : (s.setTeam k x).front = s.front := rfl
@[simp] theorem State.setTeam_rrPos (k : Nat) (x : Team) : (s.setTeam k x).rrPos = s.rrPos := rfl
@[simp] theorem State.setTeam_events (k : Nat) (x : Team) : (s.setTeam k x).events = s.events := rfl
@[simp] theorem State.setTeam_heldEvts (k : Nat) (x : Team) : (s.setTeam k x).heldEvts = s.heldEvts := rfl
@[simp] theorem State.setTeam_qlocks (k : Nat) (x : Team) : (s.setTeam k x).qlocks = s.qlocks := rfl
@[simp] theorem State.setTeam_contexts (k : Nat) (x : Team) : (s.setTeam k x).contexts = s.contexts := rfl
@[simp] theorem State.setTeam_resid (k : Nat) (x : Team) : (s.setTeam k x).resid = s.resid := rfl
@[simp] theorem State.setTeam_scripts (k : Nat) (x : Team) : (s.setTeam k x).scripts = s.scripts := rfl
@[simp] theorem State.setTeam_cmcOut (k : Nat) (x : Team) : (s.setTeam k x).cmcOut = s.cmcOut := rfl
@[simp] theorem State.setTeam_cpHalt (k : Nat) (x : Team) : (s.setTeam k x).cpHalt = s.cpHalt := rfl
@[simp] theorem State.setTeam_cmcEvent (k : Nat) (x : Team) : (s.setTeam k x).cmcEvent = s.cmcEvent := rfl
@[simp] theorem State.setTeam_cmcTrapNs (k : Nat) (x : Team) : (s.setTeam k x).cmcTrapNs = s.cmcTrapNs := rfl
@[simp] theorem State.setTeam_keySlots (k : Nat) (x : Team) : (s.setTeam k x).keySlots = s.keySlots := rfl
@[simp] theorem State.setTeam_package (k : Nat) (x : Team) : (s.setTeam k x).package = s.package := rfl
@[simp] theorem State.setTeam_tickets (k : Nat) (x : Team) : (s.setTeam k x).tickets = s.tickets := rfl
@[simp] theorem State.setTeam_clbs (k : Nat) (x : Team) : (s.setTeam k x).clbs = s.clbs := rfl
@[simp] theorem State.setTeam_ports (k : Nat) (x : Team) : (s.setTeam k x).ports = s.ports := rfl
@[simp] theorem State.setTeam_modules (k : Nat) (x : Team) : (s.setTeam k x).modules = s.modules := rfl
@[simp] theorem State.setTeam_drained (k : Nat) (x : Team) : (s.setTeam k x).drained = s.drained := rfl
@[simp] theorem State.setTeam_peerLinks (k : Nat) (x : Team) : (s.setTeam k x).peerLinks = s.peerLinks := rfl
@[simp] theorem State.setTeam_hellos (k : Nat) (x : Team) : (s.setTeam k x).hellos = s.hellos := rfl
@[simp] theorem State.setTeam_silent (k : Nat) (x : Team) : (s.setTeam k x).silent = s.silent := rfl
@[simp] theorem State.setTeam_sessions (k : Nat) (x : Team) : (s.setTeam k x).sessions = s.sessions := rfl
@[simp] theorem State.setTeam_wheyDrops (k : Nat) (x : Team) : (s.setTeam k x).wheyDrops = s.wheyDrops := rfl
@[simp] theorem State.setTeam_links (k : Nat) (x : Team) : (s.setTeam k x).links = s.links := rfl
@[simp] theorem State.setTeam_reqs (k : Nat) (x : Team) : (s.setTeam k x).reqs = s.reqs := rfl
@[simp] theorem State.setTeam_ras (k : Nat) (x : Team) : (s.setTeam k x).ras = s.ras := rfl
@[simp] theorem State.setTeam_boot (k : Nat) (x : Team) : (s.setTeam k x).boot = s.boot := rfl
@[simp] theorem State.setTeam_fw (k : Nat) (x : Team) : (s.setTeam k x).fw = s.fw := rfl
@[simp] theorem State.setTeam_power (k : Nat) (x : Team) : (s.setTeam k x).power = s.power := rfl
@[simp] theorem State.setTeam_ident (k : Nat) (x : Team) : (s.setTeam k x).ident = s.ident := rfl
@[simp] theorem State.setTeam_hostErr (k : Nat) (x : Team) : (s.setTeam k x).hostErr = s.hostErr := rfl
@[simp] theorem State.setTeam_hostShares (k : Nat) (x : Team) : (s.setTeam k x).hostShares = s.hostShares := rfl
@[simp] theorem State.setTeam_outbox (k : Nat) (x : Team) : (s.setTeam k x).outbox = s.outbox := rfl

/-! ## State.setLaunch -/

@[simp] theorem State.setLaunch_agenda (k : Nat) (x : Launch) : (s.setLaunch k x).agenda = s.agenda := rfl
@[simp] theorem State.setLaunch_inputs (k : Nat) (x : Launch) : (s.setLaunch k x).inputs = s.inputs := rfl
@[simp] theorem State.setLaunch_asker (k : Nat) (x : Launch) : (s.setLaunch k x).asker = s.asker := rfl
@[simp] theorem State.setLaunch_chosen (k : Nat) (x : Launch) : (s.setLaunch k x).chosen = s.chosen := rfl
@[simp] theorem State.setLaunch_cur (k : Nat) (x : Launch) : (s.setLaunch k x).cur = s.cur := rfl
@[simp] theorem State.setLaunch_delays (k : Nat) (x : Launch) : (s.setLaunch k x).delays = s.delays := rfl
@[simp] theorem State.setLaunch_hits (k : Nat) (x : Launch) : (s.setLaunch k x).hits = s.hits := rfl
@[simp] theorem State.setLaunch_freeCtr (k : Nat) (x : Launch) : (s.setLaunch k x).freeCtr = s.freeCtr := rfl
@[simp] theorem State.setLaunch_nextId (k : Nat) (x : Launch) : (s.setLaunch k x).nextId = s.nextId := rfl
@[simp] theorem State.setLaunch_cycle (k : Nat) (x : Launch) : (s.setLaunch k x).cycle = s.cycle := rfl
@[simp] theorem State.setLaunch_baseCycle (k : Nat) (x : Launch) : (s.setLaunch k x).baseCycle = s.baseCycle := rfl
@[simp] theorem State.setLaunch_baseAcc (k : Nat) (x : Launch) : (s.setLaunch k x).baseAcc = s.baseAcc := rfl
@[simp] theorem State.setLaunch_baseDue (k : Nat) (x : Launch) : (s.setLaunch k x).baseDue = s.baseDue := rfl
@[simp] theorem State.setLaunch_timer (k : Nat) (x : Launch) : (s.setLaunch k x).timer = s.timer := rfl
@[simp] theorem State.setLaunch_timerAcc (k : Nat) (x : Launch) : (s.setLaunch k x).timerAcc = s.timerAcc := rfl
@[simp] theorem State.setLaunch_groups (k : Nat) (x : Launch) : (s.setLaunch k x).groups = s.groups := rfl
@[simp] theorem State.setLaunch_teams (k : Nat) (x : Launch) : (s.setLaunch k x).teams = s.teams := rfl
@[simp] theorem State.setLaunch_launches (k : Nat) (x : Launch) : (s.setLaunch k x).launches = mapSet s.launches k x := rfl
@[simp] theorem State.setLaunch_ranges (k : Nat) (x : Launch) : (s.setLaunch k x).ranges = s.ranges := rfl
@[simp] theorem State.setLaunch_ops (k : Nat) (x : Launch) : (s.setLaunch k x).ops = s.ops := rfl
@[simp] theorem State.setLaunch_regsUsed (k : Nat) (x : Launch) : (s.setLaunch k x).regsUsed = s.regsUsed := rfl
@[simp] theorem State.setLaunch_laneBusy (k : Nat) (x : Launch) : (s.setLaunch k x).laneBusy = s.laneBusy := rfl
@[simp] theorem State.setLaunch_clusters (k : Nat) (x : Launch) : (s.setLaunch k x).clusters = s.clusters := rfl
@[simp] theorem State.setLaunch_dies (k : Nat) (x : Launch) : (s.setLaunch k x).dies = s.dies := rfl
@[simp] theorem State.setLaunch_copies (k : Nat) (x : Launch) : (s.setLaunch k x).copies = s.copies := rfl
@[simp] theorem State.setLaunch_orphans (k : Nat) (x : Launch) : (s.setLaunch k x).orphans = s.orphans := rfl
@[simp] theorem State.setLaunch_mem (k : Nat) (x : Launch) : (s.setLaunch k x).mem = s.mem := rfl
@[simp] theorem State.setLaunch_dirty (k : Nat) (x : Launch) : (s.setLaunch k x).dirty = s.dirty := rfl
@[simp] theorem State.setLaunch_log (k : Nat) (x : Launch) : (s.setLaunch k x).log = s.log := rfl
@[simp] theorem State.setLaunch_reds (k : Nat) (x : Launch) : (s.setLaunch k x).reds = s.reds := rfl
@[simp] theorem State.setLaunch_heldLines (k : Nat) (x : Launch) : (s.setLaunch k x).heldLines = s.heldLines := rfl
@[simp] theorem State.setLaunch_poisoned (k : Nat) (x : Launch) : (s.setLaunch k x).poisoned = s.poisoned := rfl
@[simp] theorem State.setLaunch_keyed (k : Nat) (x : Launch) : (s.setLaunch k x).keyed = s.keyed := rfl
@[simp] theorem State.setLaunch_ciphers (k : Nat) (x : Launch) : (s.setLaunch k x).ciphers = s.ciphers := rfl
@[simp] theorem State.setLaunch_peers (k : Nat) (x : Launch) : (s.setLaunch k x).peers = s.peers := rfl
@[simp] theorem State.setLaunch_peerPoison (k : Nat) (x : Launch) : (s.setLaunch k x).peerPoison = s.peerPoison := rfl
@[simp] theorem State.setLaunch_pod (k : Nat) (x : Launch) : (s.setLaunch k x).pod = s.pod := rfl
@[simp] theorem State.setLaunch_peerAsks (k : Nat) (x : Launch) : (s.setLaunch k x).peerAsks = s.peerAsks := rfl
@[simp] theorem State.setLaunch_l1 (k : Nat) (x : Launch) : (s.setLaunch k x).l1 = s.l1 := rfl
@[simp] theorem State.setLaunch_victims (k : Nat) (x : Launch) : (s.setLaunch k x).victims = s.victims := rfl
@[simp] theorem State.setLaunch_slices (k : Nat) (x : Launch) : (s.setLaunch k x).slices = s.slices := rfl
@[simp] theorem State.setLaunch_remap (k : Nat) (x : Launch) : (s.setLaunch k x).remap = s.remap := rfl
@[simp] theorem State.setLaunch_tlb (k : Nat) (x : Launch) : (s.setLaunch k x).tlb = s.tlb := rfl
@[simp] theorem State.setLaunch_migs (k : Nat) (x : Launch) : (s.setLaunch k x).migs = s.migs := rfl
@[simp] theorem State.setLaunch_heldStores (k : Nat) (x : Launch) : (s.setLaunch k x).heldStores = s.heldStores := rfl
@[simp] theorem State.setLaunch_heldEnds (k : Nat) (x : Launch) : (s.setLaunch k x).heldEnds = s.heldEnds := rfl
@[simp] theorem State.setLaunch_cream (k : Nat) (x : Launch) : (s.setLaunch k x).cream = s.cream := rfl
@[simp] theorem State.setLaunch_queues (k : Nat) (x : Launch) : (s.setLaunch k x).queues = s.queues := rfl
@[simp] theorem State.setLaunch_children (k : Nat) (x : Launch) : (s.setLaunch k x).children = s.children := rfl
@[simp] theorem State.setLaunch_front (k : Nat) (x : Launch) : (s.setLaunch k x).front = s.front := rfl
@[simp] theorem State.setLaunch_rrPos (k : Nat) (x : Launch) : (s.setLaunch k x).rrPos = s.rrPos := rfl
@[simp] theorem State.setLaunch_events (k : Nat) (x : Launch) : (s.setLaunch k x).events = s.events := rfl
@[simp] theorem State.setLaunch_heldEvts (k : Nat) (x : Launch) : (s.setLaunch k x).heldEvts = s.heldEvts := rfl
@[simp] theorem State.setLaunch_qlocks (k : Nat) (x : Launch) : (s.setLaunch k x).qlocks = s.qlocks := rfl
@[simp] theorem State.setLaunch_contexts (k : Nat) (x : Launch) : (s.setLaunch k x).contexts = s.contexts := rfl
@[simp] theorem State.setLaunch_resid (k : Nat) (x : Launch) : (s.setLaunch k x).resid = s.resid := rfl
@[simp] theorem State.setLaunch_scripts (k : Nat) (x : Launch) : (s.setLaunch k x).scripts = s.scripts := rfl
@[simp] theorem State.setLaunch_cmcOut (k : Nat) (x : Launch) : (s.setLaunch k x).cmcOut = s.cmcOut := rfl
@[simp] theorem State.setLaunch_cpHalt (k : Nat) (x : Launch) : (s.setLaunch k x).cpHalt = s.cpHalt := rfl
@[simp] theorem State.setLaunch_cmcEvent (k : Nat) (x : Launch) : (s.setLaunch k x).cmcEvent = s.cmcEvent := rfl
@[simp] theorem State.setLaunch_cmcTrapNs (k : Nat) (x : Launch) : (s.setLaunch k x).cmcTrapNs = s.cmcTrapNs := rfl
@[simp] theorem State.setLaunch_keySlots (k : Nat) (x : Launch) : (s.setLaunch k x).keySlots = s.keySlots := rfl
@[simp] theorem State.setLaunch_package (k : Nat) (x : Launch) : (s.setLaunch k x).package = s.package := rfl
@[simp] theorem State.setLaunch_tickets (k : Nat) (x : Launch) : (s.setLaunch k x).tickets = s.tickets := rfl
@[simp] theorem State.setLaunch_clbs (k : Nat) (x : Launch) : (s.setLaunch k x).clbs = s.clbs := rfl
@[simp] theorem State.setLaunch_ports (k : Nat) (x : Launch) : (s.setLaunch k x).ports = s.ports := rfl
@[simp] theorem State.setLaunch_modules (k : Nat) (x : Launch) : (s.setLaunch k x).modules = s.modules := rfl
@[simp] theorem State.setLaunch_drained (k : Nat) (x : Launch) : (s.setLaunch k x).drained = s.drained := rfl
@[simp] theorem State.setLaunch_peerLinks (k : Nat) (x : Launch) : (s.setLaunch k x).peerLinks = s.peerLinks := rfl
@[simp] theorem State.setLaunch_hellos (k : Nat) (x : Launch) : (s.setLaunch k x).hellos = s.hellos := rfl
@[simp] theorem State.setLaunch_silent (k : Nat) (x : Launch) : (s.setLaunch k x).silent = s.silent := rfl
@[simp] theorem State.setLaunch_sessions (k : Nat) (x : Launch) : (s.setLaunch k x).sessions = s.sessions := rfl
@[simp] theorem State.setLaunch_wheyDrops (k : Nat) (x : Launch) : (s.setLaunch k x).wheyDrops = s.wheyDrops := rfl
@[simp] theorem State.setLaunch_links (k : Nat) (x : Launch) : (s.setLaunch k x).links = s.links := rfl
@[simp] theorem State.setLaunch_reqs (k : Nat) (x : Launch) : (s.setLaunch k x).reqs = s.reqs := rfl
@[simp] theorem State.setLaunch_ras (k : Nat) (x : Launch) : (s.setLaunch k x).ras = s.ras := rfl
@[simp] theorem State.setLaunch_boot (k : Nat) (x : Launch) : (s.setLaunch k x).boot = s.boot := rfl
@[simp] theorem State.setLaunch_fw (k : Nat) (x : Launch) : (s.setLaunch k x).fw = s.fw := rfl
@[simp] theorem State.setLaunch_power (k : Nat) (x : Launch) : (s.setLaunch k x).power = s.power := rfl
@[simp] theorem State.setLaunch_ident (k : Nat) (x : Launch) : (s.setLaunch k x).ident = s.ident := rfl
@[simp] theorem State.setLaunch_hostErr (k : Nat) (x : Launch) : (s.setLaunch k x).hostErr = s.hostErr := rfl
@[simp] theorem State.setLaunch_hostShares (k : Nat) (x : Launch) : (s.setLaunch k x).hostShares = s.hostShares := rfl
@[simp] theorem State.setLaunch_outbox (k : Nat) (x : Launch) : (s.setLaunch k x).outbox = s.outbox := rfl

/-! ## State.setCluster -/

@[simp] theorem State.setCluster_agenda (k : Nat) (x : Cluster) : (s.setCluster k x).agenda = s.agenda := rfl
@[simp] theorem State.setCluster_inputs (k : Nat) (x : Cluster) : (s.setCluster k x).inputs = s.inputs := rfl
@[simp] theorem State.setCluster_asker (k : Nat) (x : Cluster) : (s.setCluster k x).asker = s.asker := rfl
@[simp] theorem State.setCluster_chosen (k : Nat) (x : Cluster) : (s.setCluster k x).chosen = s.chosen := rfl
@[simp] theorem State.setCluster_cur (k : Nat) (x : Cluster) : (s.setCluster k x).cur = s.cur := rfl
@[simp] theorem State.setCluster_delays (k : Nat) (x : Cluster) : (s.setCluster k x).delays = s.delays := rfl
@[simp] theorem State.setCluster_hits (k : Nat) (x : Cluster) : (s.setCluster k x).hits = s.hits := rfl
@[simp] theorem State.setCluster_freeCtr (k : Nat) (x : Cluster) : (s.setCluster k x).freeCtr = s.freeCtr := rfl
@[simp] theorem State.setCluster_nextId (k : Nat) (x : Cluster) : (s.setCluster k x).nextId = s.nextId := rfl
@[simp] theorem State.setCluster_cycle (k : Nat) (x : Cluster) : (s.setCluster k x).cycle = s.cycle := rfl
@[simp] theorem State.setCluster_baseCycle (k : Nat) (x : Cluster) : (s.setCluster k x).baseCycle = s.baseCycle := rfl
@[simp] theorem State.setCluster_baseAcc (k : Nat) (x : Cluster) : (s.setCluster k x).baseAcc = s.baseAcc := rfl
@[simp] theorem State.setCluster_baseDue (k : Nat) (x : Cluster) : (s.setCluster k x).baseDue = s.baseDue := rfl
@[simp] theorem State.setCluster_timer (k : Nat) (x : Cluster) : (s.setCluster k x).timer = s.timer := rfl
@[simp] theorem State.setCluster_timerAcc (k : Nat) (x : Cluster) : (s.setCluster k x).timerAcc = s.timerAcc := rfl
@[simp] theorem State.setCluster_groups (k : Nat) (x : Cluster) : (s.setCluster k x).groups = s.groups := rfl
@[simp] theorem State.setCluster_teams (k : Nat) (x : Cluster) : (s.setCluster k x).teams = s.teams := rfl
@[simp] theorem State.setCluster_launches (k : Nat) (x : Cluster) : (s.setCluster k x).launches = s.launches := rfl
@[simp] theorem State.setCluster_ranges (k : Nat) (x : Cluster) : (s.setCluster k x).ranges = s.ranges := rfl
@[simp] theorem State.setCluster_ops (k : Nat) (x : Cluster) : (s.setCluster k x).ops = s.ops := rfl
@[simp] theorem State.setCluster_regsUsed (k : Nat) (x : Cluster) : (s.setCluster k x).regsUsed = s.regsUsed := rfl
@[simp] theorem State.setCluster_laneBusy (k : Nat) (x : Cluster) : (s.setCluster k x).laneBusy = s.laneBusy := rfl
@[simp] theorem State.setCluster_clusters (k : Nat) (x : Cluster) : (s.setCluster k x).clusters = mapSet s.clusters k x := rfl
@[simp] theorem State.setCluster_dies (k : Nat) (x : Cluster) : (s.setCluster k x).dies = s.dies := rfl
@[simp] theorem State.setCluster_copies (k : Nat) (x : Cluster) : (s.setCluster k x).copies = s.copies := rfl
@[simp] theorem State.setCluster_orphans (k : Nat) (x : Cluster) : (s.setCluster k x).orphans = s.orphans := rfl
@[simp] theorem State.setCluster_mem (k : Nat) (x : Cluster) : (s.setCluster k x).mem = s.mem := rfl
@[simp] theorem State.setCluster_dirty (k : Nat) (x : Cluster) : (s.setCluster k x).dirty = s.dirty := rfl
@[simp] theorem State.setCluster_log (k : Nat) (x : Cluster) : (s.setCluster k x).log = s.log := rfl
@[simp] theorem State.setCluster_reds (k : Nat) (x : Cluster) : (s.setCluster k x).reds = s.reds := rfl
@[simp] theorem State.setCluster_heldLines (k : Nat) (x : Cluster) : (s.setCluster k x).heldLines = s.heldLines := rfl
@[simp] theorem State.setCluster_poisoned (k : Nat) (x : Cluster) : (s.setCluster k x).poisoned = s.poisoned := rfl
@[simp] theorem State.setCluster_keyed (k : Nat) (x : Cluster) : (s.setCluster k x).keyed = s.keyed := rfl
@[simp] theorem State.setCluster_ciphers (k : Nat) (x : Cluster) : (s.setCluster k x).ciphers = s.ciphers := rfl
@[simp] theorem State.setCluster_peers (k : Nat) (x : Cluster) : (s.setCluster k x).peers = s.peers := rfl
@[simp] theorem State.setCluster_peerPoison (k : Nat) (x : Cluster) : (s.setCluster k x).peerPoison = s.peerPoison := rfl
@[simp] theorem State.setCluster_pod (k : Nat) (x : Cluster) : (s.setCluster k x).pod = s.pod := rfl
@[simp] theorem State.setCluster_peerAsks (k : Nat) (x : Cluster) : (s.setCluster k x).peerAsks = s.peerAsks := rfl
@[simp] theorem State.setCluster_l1 (k : Nat) (x : Cluster) : (s.setCluster k x).l1 = s.l1 := rfl
@[simp] theorem State.setCluster_victims (k : Nat) (x : Cluster) : (s.setCluster k x).victims = s.victims := rfl
@[simp] theorem State.setCluster_slices (k : Nat) (x : Cluster) : (s.setCluster k x).slices = s.slices := rfl
@[simp] theorem State.setCluster_remap (k : Nat) (x : Cluster) : (s.setCluster k x).remap = s.remap := rfl
@[simp] theorem State.setCluster_tlb (k : Nat) (x : Cluster) : (s.setCluster k x).tlb = s.tlb := rfl
@[simp] theorem State.setCluster_migs (k : Nat) (x : Cluster) : (s.setCluster k x).migs = s.migs := rfl
@[simp] theorem State.setCluster_heldStores (k : Nat) (x : Cluster) : (s.setCluster k x).heldStores = s.heldStores := rfl
@[simp] theorem State.setCluster_heldEnds (k : Nat) (x : Cluster) : (s.setCluster k x).heldEnds = s.heldEnds := rfl
@[simp] theorem State.setCluster_cream (k : Nat) (x : Cluster) : (s.setCluster k x).cream = s.cream := rfl
@[simp] theorem State.setCluster_queues (k : Nat) (x : Cluster) : (s.setCluster k x).queues = s.queues := rfl
@[simp] theorem State.setCluster_children (k : Nat) (x : Cluster) : (s.setCluster k x).children = s.children := rfl
@[simp] theorem State.setCluster_front (k : Nat) (x : Cluster) : (s.setCluster k x).front = s.front := rfl
@[simp] theorem State.setCluster_rrPos (k : Nat) (x : Cluster) : (s.setCluster k x).rrPos = s.rrPos := rfl
@[simp] theorem State.setCluster_events (k : Nat) (x : Cluster) : (s.setCluster k x).events = s.events := rfl
@[simp] theorem State.setCluster_heldEvts (k : Nat) (x : Cluster) : (s.setCluster k x).heldEvts = s.heldEvts := rfl
@[simp] theorem State.setCluster_qlocks (k : Nat) (x : Cluster) : (s.setCluster k x).qlocks = s.qlocks := rfl
@[simp] theorem State.setCluster_contexts (k : Nat) (x : Cluster) : (s.setCluster k x).contexts = s.contexts := rfl
@[simp] theorem State.setCluster_resid (k : Nat) (x : Cluster) : (s.setCluster k x).resid = s.resid := rfl
@[simp] theorem State.setCluster_scripts (k : Nat) (x : Cluster) : (s.setCluster k x).scripts = s.scripts := rfl
@[simp] theorem State.setCluster_cmcOut (k : Nat) (x : Cluster) : (s.setCluster k x).cmcOut = s.cmcOut := rfl
@[simp] theorem State.setCluster_cpHalt (k : Nat) (x : Cluster) : (s.setCluster k x).cpHalt = s.cpHalt := rfl
@[simp] theorem State.setCluster_cmcEvent (k : Nat) (x : Cluster) : (s.setCluster k x).cmcEvent = s.cmcEvent := rfl
@[simp] theorem State.setCluster_cmcTrapNs (k : Nat) (x : Cluster) : (s.setCluster k x).cmcTrapNs = s.cmcTrapNs := rfl
@[simp] theorem State.setCluster_keySlots (k : Nat) (x : Cluster) : (s.setCluster k x).keySlots = s.keySlots := rfl
@[simp] theorem State.setCluster_package (k : Nat) (x : Cluster) : (s.setCluster k x).package = s.package := rfl
@[simp] theorem State.setCluster_tickets (k : Nat) (x : Cluster) : (s.setCluster k x).tickets = s.tickets := rfl
@[simp] theorem State.setCluster_clbs (k : Nat) (x : Cluster) : (s.setCluster k x).clbs = s.clbs := rfl
@[simp] theorem State.setCluster_ports (k : Nat) (x : Cluster) : (s.setCluster k x).ports = s.ports := rfl
@[simp] theorem State.setCluster_modules (k : Nat) (x : Cluster) : (s.setCluster k x).modules = s.modules := rfl
@[simp] theorem State.setCluster_drained (k : Nat) (x : Cluster) : (s.setCluster k x).drained = s.drained := rfl
@[simp] theorem State.setCluster_peerLinks (k : Nat) (x : Cluster) : (s.setCluster k x).peerLinks = s.peerLinks := rfl
@[simp] theorem State.setCluster_hellos (k : Nat) (x : Cluster) : (s.setCluster k x).hellos = s.hellos := rfl
@[simp] theorem State.setCluster_silent (k : Nat) (x : Cluster) : (s.setCluster k x).silent = s.silent := rfl
@[simp] theorem State.setCluster_sessions (k : Nat) (x : Cluster) : (s.setCluster k x).sessions = s.sessions := rfl
@[simp] theorem State.setCluster_wheyDrops (k : Nat) (x : Cluster) : (s.setCluster k x).wheyDrops = s.wheyDrops := rfl
@[simp] theorem State.setCluster_links (k : Nat) (x : Cluster) : (s.setCluster k x).links = s.links := rfl
@[simp] theorem State.setCluster_reqs (k : Nat) (x : Cluster) : (s.setCluster k x).reqs = s.reqs := rfl
@[simp] theorem State.setCluster_ras (k : Nat) (x : Cluster) : (s.setCluster k x).ras = s.ras := rfl
@[simp] theorem State.setCluster_boot (k : Nat) (x : Cluster) : (s.setCluster k x).boot = s.boot := rfl
@[simp] theorem State.setCluster_fw (k : Nat) (x : Cluster) : (s.setCluster k x).fw = s.fw := rfl
@[simp] theorem State.setCluster_power (k : Nat) (x : Cluster) : (s.setCluster k x).power = s.power := rfl
@[simp] theorem State.setCluster_ident (k : Nat) (x : Cluster) : (s.setCluster k x).ident = s.ident := rfl
@[simp] theorem State.setCluster_hostErr (k : Nat) (x : Cluster) : (s.setCluster k x).hostErr = s.hostErr := rfl
@[simp] theorem State.setCluster_hostShares (k : Nat) (x : Cluster) : (s.setCluster k x).hostShares = s.hostShares := rfl
@[simp] theorem State.setCluster_outbox (k : Nat) (x : Cluster) : (s.setCluster k x).outbox = s.outbox := rfl

/-! ## State.setDie -/

@[simp] theorem State.setDie_agenda (k : Nat) (x : Die) : (s.setDie k x).agenda = s.agenda := rfl
@[simp] theorem State.setDie_inputs (k : Nat) (x : Die) : (s.setDie k x).inputs = s.inputs := rfl
@[simp] theorem State.setDie_asker (k : Nat) (x : Die) : (s.setDie k x).asker = s.asker := rfl
@[simp] theorem State.setDie_chosen (k : Nat) (x : Die) : (s.setDie k x).chosen = s.chosen := rfl
@[simp] theorem State.setDie_cur (k : Nat) (x : Die) : (s.setDie k x).cur = s.cur := rfl
@[simp] theorem State.setDie_delays (k : Nat) (x : Die) : (s.setDie k x).delays = s.delays := rfl
@[simp] theorem State.setDie_hits (k : Nat) (x : Die) : (s.setDie k x).hits = s.hits := rfl
@[simp] theorem State.setDie_freeCtr (k : Nat) (x : Die) : (s.setDie k x).freeCtr = s.freeCtr := rfl
@[simp] theorem State.setDie_nextId (k : Nat) (x : Die) : (s.setDie k x).nextId = s.nextId := rfl
@[simp] theorem State.setDie_cycle (k : Nat) (x : Die) : (s.setDie k x).cycle = s.cycle := rfl
@[simp] theorem State.setDie_baseCycle (k : Nat) (x : Die) : (s.setDie k x).baseCycle = s.baseCycle := rfl
@[simp] theorem State.setDie_baseAcc (k : Nat) (x : Die) : (s.setDie k x).baseAcc = s.baseAcc := rfl
@[simp] theorem State.setDie_baseDue (k : Nat) (x : Die) : (s.setDie k x).baseDue = s.baseDue := rfl
@[simp] theorem State.setDie_timer (k : Nat) (x : Die) : (s.setDie k x).timer = s.timer := rfl
@[simp] theorem State.setDie_timerAcc (k : Nat) (x : Die) : (s.setDie k x).timerAcc = s.timerAcc := rfl
@[simp] theorem State.setDie_groups (k : Nat) (x : Die) : (s.setDie k x).groups = s.groups := rfl
@[simp] theorem State.setDie_teams (k : Nat) (x : Die) : (s.setDie k x).teams = s.teams := rfl
@[simp] theorem State.setDie_launches (k : Nat) (x : Die) : (s.setDie k x).launches = s.launches := rfl
@[simp] theorem State.setDie_ranges (k : Nat) (x : Die) : (s.setDie k x).ranges = s.ranges := rfl
@[simp] theorem State.setDie_ops (k : Nat) (x : Die) : (s.setDie k x).ops = s.ops := rfl
@[simp] theorem State.setDie_regsUsed (k : Nat) (x : Die) : (s.setDie k x).regsUsed = s.regsUsed := rfl
@[simp] theorem State.setDie_laneBusy (k : Nat) (x : Die) : (s.setDie k x).laneBusy = s.laneBusy := rfl
@[simp] theorem State.setDie_clusters (k : Nat) (x : Die) : (s.setDie k x).clusters = s.clusters := rfl
@[simp] theorem State.setDie_dies (k : Nat) (x : Die) : (s.setDie k x).dies = mapSet s.dies k x := rfl
@[simp] theorem State.setDie_copies (k : Nat) (x : Die) : (s.setDie k x).copies = s.copies := rfl
@[simp] theorem State.setDie_orphans (k : Nat) (x : Die) : (s.setDie k x).orphans = s.orphans := rfl
@[simp] theorem State.setDie_mem (k : Nat) (x : Die) : (s.setDie k x).mem = s.mem := rfl
@[simp] theorem State.setDie_dirty (k : Nat) (x : Die) : (s.setDie k x).dirty = s.dirty := rfl
@[simp] theorem State.setDie_log (k : Nat) (x : Die) : (s.setDie k x).log = s.log := rfl
@[simp] theorem State.setDie_reds (k : Nat) (x : Die) : (s.setDie k x).reds = s.reds := rfl
@[simp] theorem State.setDie_heldLines (k : Nat) (x : Die) : (s.setDie k x).heldLines = s.heldLines := rfl
@[simp] theorem State.setDie_poisoned (k : Nat) (x : Die) : (s.setDie k x).poisoned = s.poisoned := rfl
@[simp] theorem State.setDie_keyed (k : Nat) (x : Die) : (s.setDie k x).keyed = s.keyed := rfl
@[simp] theorem State.setDie_ciphers (k : Nat) (x : Die) : (s.setDie k x).ciphers = s.ciphers := rfl
@[simp] theorem State.setDie_peers (k : Nat) (x : Die) : (s.setDie k x).peers = s.peers := rfl
@[simp] theorem State.setDie_peerPoison (k : Nat) (x : Die) : (s.setDie k x).peerPoison = s.peerPoison := rfl
@[simp] theorem State.setDie_pod (k : Nat) (x : Die) : (s.setDie k x).pod = s.pod := rfl
@[simp] theorem State.setDie_peerAsks (k : Nat) (x : Die) : (s.setDie k x).peerAsks = s.peerAsks := rfl
@[simp] theorem State.setDie_l1 (k : Nat) (x : Die) : (s.setDie k x).l1 = s.l1 := rfl
@[simp] theorem State.setDie_victims (k : Nat) (x : Die) : (s.setDie k x).victims = s.victims := rfl
@[simp] theorem State.setDie_slices (k : Nat) (x : Die) : (s.setDie k x).slices = s.slices := rfl
@[simp] theorem State.setDie_remap (k : Nat) (x : Die) : (s.setDie k x).remap = s.remap := rfl
@[simp] theorem State.setDie_tlb (k : Nat) (x : Die) : (s.setDie k x).tlb = s.tlb := rfl
@[simp] theorem State.setDie_migs (k : Nat) (x : Die) : (s.setDie k x).migs = s.migs := rfl
@[simp] theorem State.setDie_heldStores (k : Nat) (x : Die) : (s.setDie k x).heldStores = s.heldStores := rfl
@[simp] theorem State.setDie_heldEnds (k : Nat) (x : Die) : (s.setDie k x).heldEnds = s.heldEnds := rfl
@[simp] theorem State.setDie_cream (k : Nat) (x : Die) : (s.setDie k x).cream = s.cream := rfl
@[simp] theorem State.setDie_queues (k : Nat) (x : Die) : (s.setDie k x).queues = s.queues := rfl
@[simp] theorem State.setDie_children (k : Nat) (x : Die) : (s.setDie k x).children = s.children := rfl
@[simp] theorem State.setDie_front (k : Nat) (x : Die) : (s.setDie k x).front = s.front := rfl
@[simp] theorem State.setDie_rrPos (k : Nat) (x : Die) : (s.setDie k x).rrPos = s.rrPos := rfl
@[simp] theorem State.setDie_events (k : Nat) (x : Die) : (s.setDie k x).events = s.events := rfl
@[simp] theorem State.setDie_heldEvts (k : Nat) (x : Die) : (s.setDie k x).heldEvts = s.heldEvts := rfl
@[simp] theorem State.setDie_qlocks (k : Nat) (x : Die) : (s.setDie k x).qlocks = s.qlocks := rfl
@[simp] theorem State.setDie_contexts (k : Nat) (x : Die) : (s.setDie k x).contexts = s.contexts := rfl
@[simp] theorem State.setDie_resid (k : Nat) (x : Die) : (s.setDie k x).resid = s.resid := rfl
@[simp] theorem State.setDie_scripts (k : Nat) (x : Die) : (s.setDie k x).scripts = s.scripts := rfl
@[simp] theorem State.setDie_cmcOut (k : Nat) (x : Die) : (s.setDie k x).cmcOut = s.cmcOut := rfl
@[simp] theorem State.setDie_cpHalt (k : Nat) (x : Die) : (s.setDie k x).cpHalt = s.cpHalt := rfl
@[simp] theorem State.setDie_cmcEvent (k : Nat) (x : Die) : (s.setDie k x).cmcEvent = s.cmcEvent := rfl
@[simp] theorem State.setDie_cmcTrapNs (k : Nat) (x : Die) : (s.setDie k x).cmcTrapNs = s.cmcTrapNs := rfl
@[simp] theorem State.setDie_keySlots (k : Nat) (x : Die) : (s.setDie k x).keySlots = s.keySlots := rfl
@[simp] theorem State.setDie_package (k : Nat) (x : Die) : (s.setDie k x).package = s.package := rfl
@[simp] theorem State.setDie_tickets (k : Nat) (x : Die) : (s.setDie k x).tickets = s.tickets := rfl
@[simp] theorem State.setDie_clbs (k : Nat) (x : Die) : (s.setDie k x).clbs = s.clbs := rfl
@[simp] theorem State.setDie_ports (k : Nat) (x : Die) : (s.setDie k x).ports = s.ports := rfl
@[simp] theorem State.setDie_modules (k : Nat) (x : Die) : (s.setDie k x).modules = s.modules := rfl
@[simp] theorem State.setDie_drained (k : Nat) (x : Die) : (s.setDie k x).drained = s.drained := rfl
@[simp] theorem State.setDie_peerLinks (k : Nat) (x : Die) : (s.setDie k x).peerLinks = s.peerLinks := rfl
@[simp] theorem State.setDie_hellos (k : Nat) (x : Die) : (s.setDie k x).hellos = s.hellos := rfl
@[simp] theorem State.setDie_silent (k : Nat) (x : Die) : (s.setDie k x).silent = s.silent := rfl
@[simp] theorem State.setDie_sessions (k : Nat) (x : Die) : (s.setDie k x).sessions = s.sessions := rfl
@[simp] theorem State.setDie_wheyDrops (k : Nat) (x : Die) : (s.setDie k x).wheyDrops = s.wheyDrops := rfl
@[simp] theorem State.setDie_links (k : Nat) (x : Die) : (s.setDie k x).links = s.links := rfl
@[simp] theorem State.setDie_reqs (k : Nat) (x : Die) : (s.setDie k x).reqs = s.reqs := rfl
@[simp] theorem State.setDie_ras (k : Nat) (x : Die) : (s.setDie k x).ras = s.ras := rfl
@[simp] theorem State.setDie_boot (k : Nat) (x : Die) : (s.setDie k x).boot = s.boot := rfl
@[simp] theorem State.setDie_fw (k : Nat) (x : Die) : (s.setDie k x).fw = s.fw := rfl
@[simp] theorem State.setDie_power (k : Nat) (x : Die) : (s.setDie k x).power = s.power := rfl
@[simp] theorem State.setDie_ident (k : Nat) (x : Die) : (s.setDie k x).ident = s.ident := rfl
@[simp] theorem State.setDie_hostErr (k : Nat) (x : Die) : (s.setDie k x).hostErr = s.hostErr := rfl
@[simp] theorem State.setDie_hostShares (k : Nat) (x : Die) : (s.setDie k x).hostShares = s.hostShares := rfl
@[simp] theorem State.setDie_outbox (k : Nat) (x : Die) : (s.setDie k x).outbox = s.outbox := rfl

/-! ## State.setQueue -/

@[simp] theorem State.setQueue_agenda (k : Nat) (x : Queue) : (s.setQueue k x).agenda = s.agenda := rfl
@[simp] theorem State.setQueue_inputs (k : Nat) (x : Queue) : (s.setQueue k x).inputs = s.inputs := rfl
@[simp] theorem State.setQueue_asker (k : Nat) (x : Queue) : (s.setQueue k x).asker = s.asker := rfl
@[simp] theorem State.setQueue_chosen (k : Nat) (x : Queue) : (s.setQueue k x).chosen = s.chosen := rfl
@[simp] theorem State.setQueue_cur (k : Nat) (x : Queue) : (s.setQueue k x).cur = s.cur := rfl
@[simp] theorem State.setQueue_delays (k : Nat) (x : Queue) : (s.setQueue k x).delays = s.delays := rfl
@[simp] theorem State.setQueue_hits (k : Nat) (x : Queue) : (s.setQueue k x).hits = s.hits := rfl
@[simp] theorem State.setQueue_freeCtr (k : Nat) (x : Queue) : (s.setQueue k x).freeCtr = s.freeCtr := rfl
@[simp] theorem State.setQueue_nextId (k : Nat) (x : Queue) : (s.setQueue k x).nextId = s.nextId := rfl
@[simp] theorem State.setQueue_cycle (k : Nat) (x : Queue) : (s.setQueue k x).cycle = s.cycle := rfl
@[simp] theorem State.setQueue_baseCycle (k : Nat) (x : Queue) : (s.setQueue k x).baseCycle = s.baseCycle := rfl
@[simp] theorem State.setQueue_baseAcc (k : Nat) (x : Queue) : (s.setQueue k x).baseAcc = s.baseAcc := rfl
@[simp] theorem State.setQueue_baseDue (k : Nat) (x : Queue) : (s.setQueue k x).baseDue = s.baseDue := rfl
@[simp] theorem State.setQueue_timer (k : Nat) (x : Queue) : (s.setQueue k x).timer = s.timer := rfl
@[simp] theorem State.setQueue_timerAcc (k : Nat) (x : Queue) : (s.setQueue k x).timerAcc = s.timerAcc := rfl
@[simp] theorem State.setQueue_groups (k : Nat) (x : Queue) : (s.setQueue k x).groups = s.groups := rfl
@[simp] theorem State.setQueue_teams (k : Nat) (x : Queue) : (s.setQueue k x).teams = s.teams := rfl
@[simp] theorem State.setQueue_launches (k : Nat) (x : Queue) : (s.setQueue k x).launches = s.launches := rfl
@[simp] theorem State.setQueue_ranges (k : Nat) (x : Queue) : (s.setQueue k x).ranges = s.ranges := rfl
@[simp] theorem State.setQueue_ops (k : Nat) (x : Queue) : (s.setQueue k x).ops = s.ops := rfl
@[simp] theorem State.setQueue_regsUsed (k : Nat) (x : Queue) : (s.setQueue k x).regsUsed = s.regsUsed := rfl
@[simp] theorem State.setQueue_laneBusy (k : Nat) (x : Queue) : (s.setQueue k x).laneBusy = s.laneBusy := rfl
@[simp] theorem State.setQueue_clusters (k : Nat) (x : Queue) : (s.setQueue k x).clusters = s.clusters := rfl
@[simp] theorem State.setQueue_dies (k : Nat) (x : Queue) : (s.setQueue k x).dies = s.dies := rfl
@[simp] theorem State.setQueue_copies (k : Nat) (x : Queue) : (s.setQueue k x).copies = s.copies := rfl
@[simp] theorem State.setQueue_orphans (k : Nat) (x : Queue) : (s.setQueue k x).orphans = s.orphans := rfl
@[simp] theorem State.setQueue_mem (k : Nat) (x : Queue) : (s.setQueue k x).mem = s.mem := rfl
@[simp] theorem State.setQueue_dirty (k : Nat) (x : Queue) : (s.setQueue k x).dirty = s.dirty := rfl
@[simp] theorem State.setQueue_log (k : Nat) (x : Queue) : (s.setQueue k x).log = s.log := rfl
@[simp] theorem State.setQueue_reds (k : Nat) (x : Queue) : (s.setQueue k x).reds = s.reds := rfl
@[simp] theorem State.setQueue_heldLines (k : Nat) (x : Queue) : (s.setQueue k x).heldLines = s.heldLines := rfl
@[simp] theorem State.setQueue_poisoned (k : Nat) (x : Queue) : (s.setQueue k x).poisoned = s.poisoned := rfl
@[simp] theorem State.setQueue_keyed (k : Nat) (x : Queue) : (s.setQueue k x).keyed = s.keyed := rfl
@[simp] theorem State.setQueue_ciphers (k : Nat) (x : Queue) : (s.setQueue k x).ciphers = s.ciphers := rfl
@[simp] theorem State.setQueue_peers (k : Nat) (x : Queue) : (s.setQueue k x).peers = s.peers := rfl
@[simp] theorem State.setQueue_peerPoison (k : Nat) (x : Queue) : (s.setQueue k x).peerPoison = s.peerPoison := rfl
@[simp] theorem State.setQueue_pod (k : Nat) (x : Queue) : (s.setQueue k x).pod = s.pod := rfl
@[simp] theorem State.setQueue_peerAsks (k : Nat) (x : Queue) : (s.setQueue k x).peerAsks = s.peerAsks := rfl
@[simp] theorem State.setQueue_l1 (k : Nat) (x : Queue) : (s.setQueue k x).l1 = s.l1 := rfl
@[simp] theorem State.setQueue_victims (k : Nat) (x : Queue) : (s.setQueue k x).victims = s.victims := rfl
@[simp] theorem State.setQueue_slices (k : Nat) (x : Queue) : (s.setQueue k x).slices = s.slices := rfl
@[simp] theorem State.setQueue_remap (k : Nat) (x : Queue) : (s.setQueue k x).remap = s.remap := rfl
@[simp] theorem State.setQueue_tlb (k : Nat) (x : Queue) : (s.setQueue k x).tlb = s.tlb := rfl
@[simp] theorem State.setQueue_migs (k : Nat) (x : Queue) : (s.setQueue k x).migs = s.migs := rfl
@[simp] theorem State.setQueue_heldStores (k : Nat) (x : Queue) : (s.setQueue k x).heldStores = s.heldStores := rfl
@[simp] theorem State.setQueue_heldEnds (k : Nat) (x : Queue) : (s.setQueue k x).heldEnds = s.heldEnds := rfl
@[simp] theorem State.setQueue_cream (k : Nat) (x : Queue) : (s.setQueue k x).cream = s.cream := rfl
@[simp] theorem State.setQueue_queues (k : Nat) (x : Queue) : (s.setQueue k x).queues = mapSet s.queues k x := rfl
@[simp] theorem State.setQueue_children (k : Nat) (x : Queue) : (s.setQueue k x).children = s.children := rfl
@[simp] theorem State.setQueue_front (k : Nat) (x : Queue) : (s.setQueue k x).front = s.front := rfl
@[simp] theorem State.setQueue_rrPos (k : Nat) (x : Queue) : (s.setQueue k x).rrPos = s.rrPos := rfl
@[simp] theorem State.setQueue_events (k : Nat) (x : Queue) : (s.setQueue k x).events = s.events := rfl
@[simp] theorem State.setQueue_heldEvts (k : Nat) (x : Queue) : (s.setQueue k x).heldEvts = s.heldEvts := rfl
@[simp] theorem State.setQueue_qlocks (k : Nat) (x : Queue) : (s.setQueue k x).qlocks = s.qlocks := rfl
@[simp] theorem State.setQueue_contexts (k : Nat) (x : Queue) : (s.setQueue k x).contexts = s.contexts := rfl
@[simp] theorem State.setQueue_resid (k : Nat) (x : Queue) : (s.setQueue k x).resid = s.resid := rfl
@[simp] theorem State.setQueue_scripts (k : Nat) (x : Queue) : (s.setQueue k x).scripts = s.scripts := rfl
@[simp] theorem State.setQueue_cmcOut (k : Nat) (x : Queue) : (s.setQueue k x).cmcOut = s.cmcOut := rfl
@[simp] theorem State.setQueue_cpHalt (k : Nat) (x : Queue) : (s.setQueue k x).cpHalt = s.cpHalt := rfl
@[simp] theorem State.setQueue_cmcEvent (k : Nat) (x : Queue) : (s.setQueue k x).cmcEvent = s.cmcEvent := rfl
@[simp] theorem State.setQueue_cmcTrapNs (k : Nat) (x : Queue) : (s.setQueue k x).cmcTrapNs = s.cmcTrapNs := rfl
@[simp] theorem State.setQueue_keySlots (k : Nat) (x : Queue) : (s.setQueue k x).keySlots = s.keySlots := rfl
@[simp] theorem State.setQueue_package (k : Nat) (x : Queue) : (s.setQueue k x).package = s.package := rfl
@[simp] theorem State.setQueue_tickets (k : Nat) (x : Queue) : (s.setQueue k x).tickets = s.tickets := rfl
@[simp] theorem State.setQueue_clbs (k : Nat) (x : Queue) : (s.setQueue k x).clbs = s.clbs := rfl
@[simp] theorem State.setQueue_ports (k : Nat) (x : Queue) : (s.setQueue k x).ports = s.ports := rfl
@[simp] theorem State.setQueue_modules (k : Nat) (x : Queue) : (s.setQueue k x).modules = s.modules := rfl
@[simp] theorem State.setQueue_drained (k : Nat) (x : Queue) : (s.setQueue k x).drained = s.drained := rfl
@[simp] theorem State.setQueue_peerLinks (k : Nat) (x : Queue) : (s.setQueue k x).peerLinks = s.peerLinks := rfl
@[simp] theorem State.setQueue_hellos (k : Nat) (x : Queue) : (s.setQueue k x).hellos = s.hellos := rfl
@[simp] theorem State.setQueue_silent (k : Nat) (x : Queue) : (s.setQueue k x).silent = s.silent := rfl
@[simp] theorem State.setQueue_sessions (k : Nat) (x : Queue) : (s.setQueue k x).sessions = s.sessions := rfl
@[simp] theorem State.setQueue_wheyDrops (k : Nat) (x : Queue) : (s.setQueue k x).wheyDrops = s.wheyDrops := rfl
@[simp] theorem State.setQueue_links (k : Nat) (x : Queue) : (s.setQueue k x).links = s.links := rfl
@[simp] theorem State.setQueue_reqs (k : Nat) (x : Queue) : (s.setQueue k x).reqs = s.reqs := rfl
@[simp] theorem State.setQueue_ras (k : Nat) (x : Queue) : (s.setQueue k x).ras = s.ras := rfl
@[simp] theorem State.setQueue_boot (k : Nat) (x : Queue) : (s.setQueue k x).boot = s.boot := rfl
@[simp] theorem State.setQueue_fw (k : Nat) (x : Queue) : (s.setQueue k x).fw = s.fw := rfl
@[simp] theorem State.setQueue_power (k : Nat) (x : Queue) : (s.setQueue k x).power = s.power := rfl
@[simp] theorem State.setQueue_ident (k : Nat) (x : Queue) : (s.setQueue k x).ident = s.ident := rfl
@[simp] theorem State.setQueue_hostErr (k : Nat) (x : Queue) : (s.setQueue k x).hostErr = s.hostErr := rfl
@[simp] theorem State.setQueue_hostShares (k : Nat) (x : Queue) : (s.setQueue k x).hostShares = s.hostShares := rfl
@[simp] theorem State.setQueue_outbox (k : Nat) (x : Queue) : (s.setQueue k x).outbox = s.outbox := rfl

/-! ## State.setPort -/

@[simp] theorem State.setPort_agenda (k : Nat) (x : Port) : (s.setPort k x).agenda = s.agenda := rfl
@[simp] theorem State.setPort_inputs (k : Nat) (x : Port) : (s.setPort k x).inputs = s.inputs := rfl
@[simp] theorem State.setPort_asker (k : Nat) (x : Port) : (s.setPort k x).asker = s.asker := rfl
@[simp] theorem State.setPort_chosen (k : Nat) (x : Port) : (s.setPort k x).chosen = s.chosen := rfl
@[simp] theorem State.setPort_cur (k : Nat) (x : Port) : (s.setPort k x).cur = s.cur := rfl
@[simp] theorem State.setPort_delays (k : Nat) (x : Port) : (s.setPort k x).delays = s.delays := rfl
@[simp] theorem State.setPort_hits (k : Nat) (x : Port) : (s.setPort k x).hits = s.hits := rfl
@[simp] theorem State.setPort_freeCtr (k : Nat) (x : Port) : (s.setPort k x).freeCtr = s.freeCtr := rfl
@[simp] theorem State.setPort_nextId (k : Nat) (x : Port) : (s.setPort k x).nextId = s.nextId := rfl
@[simp] theorem State.setPort_cycle (k : Nat) (x : Port) : (s.setPort k x).cycle = s.cycle := rfl
@[simp] theorem State.setPort_baseCycle (k : Nat) (x : Port) : (s.setPort k x).baseCycle = s.baseCycle := rfl
@[simp] theorem State.setPort_baseAcc (k : Nat) (x : Port) : (s.setPort k x).baseAcc = s.baseAcc := rfl
@[simp] theorem State.setPort_baseDue (k : Nat) (x : Port) : (s.setPort k x).baseDue = s.baseDue := rfl
@[simp] theorem State.setPort_timer (k : Nat) (x : Port) : (s.setPort k x).timer = s.timer := rfl
@[simp] theorem State.setPort_timerAcc (k : Nat) (x : Port) : (s.setPort k x).timerAcc = s.timerAcc := rfl
@[simp] theorem State.setPort_groups (k : Nat) (x : Port) : (s.setPort k x).groups = s.groups := rfl
@[simp] theorem State.setPort_teams (k : Nat) (x : Port) : (s.setPort k x).teams = s.teams := rfl
@[simp] theorem State.setPort_launches (k : Nat) (x : Port) : (s.setPort k x).launches = s.launches := rfl
@[simp] theorem State.setPort_ranges (k : Nat) (x : Port) : (s.setPort k x).ranges = s.ranges := rfl
@[simp] theorem State.setPort_ops (k : Nat) (x : Port) : (s.setPort k x).ops = s.ops := rfl
@[simp] theorem State.setPort_regsUsed (k : Nat) (x : Port) : (s.setPort k x).regsUsed = s.regsUsed := rfl
@[simp] theorem State.setPort_laneBusy (k : Nat) (x : Port) : (s.setPort k x).laneBusy = s.laneBusy := rfl
@[simp] theorem State.setPort_clusters (k : Nat) (x : Port) : (s.setPort k x).clusters = s.clusters := rfl
@[simp] theorem State.setPort_dies (k : Nat) (x : Port) : (s.setPort k x).dies = s.dies := rfl
@[simp] theorem State.setPort_copies (k : Nat) (x : Port) : (s.setPort k x).copies = s.copies := rfl
@[simp] theorem State.setPort_orphans (k : Nat) (x : Port) : (s.setPort k x).orphans = s.orphans := rfl
@[simp] theorem State.setPort_mem (k : Nat) (x : Port) : (s.setPort k x).mem = s.mem := rfl
@[simp] theorem State.setPort_dirty (k : Nat) (x : Port) : (s.setPort k x).dirty = s.dirty := rfl
@[simp] theorem State.setPort_log (k : Nat) (x : Port) : (s.setPort k x).log = s.log := rfl
@[simp] theorem State.setPort_reds (k : Nat) (x : Port) : (s.setPort k x).reds = s.reds := rfl
@[simp] theorem State.setPort_heldLines (k : Nat) (x : Port) : (s.setPort k x).heldLines = s.heldLines := rfl
@[simp] theorem State.setPort_poisoned (k : Nat) (x : Port) : (s.setPort k x).poisoned = s.poisoned := rfl
@[simp] theorem State.setPort_keyed (k : Nat) (x : Port) : (s.setPort k x).keyed = s.keyed := rfl
@[simp] theorem State.setPort_ciphers (k : Nat) (x : Port) : (s.setPort k x).ciphers = s.ciphers := rfl
@[simp] theorem State.setPort_peers (k : Nat) (x : Port) : (s.setPort k x).peers = s.peers := rfl
@[simp] theorem State.setPort_peerPoison (k : Nat) (x : Port) : (s.setPort k x).peerPoison = s.peerPoison := rfl
@[simp] theorem State.setPort_pod (k : Nat) (x : Port) : (s.setPort k x).pod = s.pod := rfl
@[simp] theorem State.setPort_peerAsks (k : Nat) (x : Port) : (s.setPort k x).peerAsks = s.peerAsks := rfl
@[simp] theorem State.setPort_l1 (k : Nat) (x : Port) : (s.setPort k x).l1 = s.l1 := rfl
@[simp] theorem State.setPort_victims (k : Nat) (x : Port) : (s.setPort k x).victims = s.victims := rfl
@[simp] theorem State.setPort_slices (k : Nat) (x : Port) : (s.setPort k x).slices = s.slices := rfl
@[simp] theorem State.setPort_remap (k : Nat) (x : Port) : (s.setPort k x).remap = s.remap := rfl
@[simp] theorem State.setPort_tlb (k : Nat) (x : Port) : (s.setPort k x).tlb = s.tlb := rfl
@[simp] theorem State.setPort_migs (k : Nat) (x : Port) : (s.setPort k x).migs = s.migs := rfl
@[simp] theorem State.setPort_heldStores (k : Nat) (x : Port) : (s.setPort k x).heldStores = s.heldStores := rfl
@[simp] theorem State.setPort_heldEnds (k : Nat) (x : Port) : (s.setPort k x).heldEnds = s.heldEnds := rfl
@[simp] theorem State.setPort_cream (k : Nat) (x : Port) : (s.setPort k x).cream = s.cream := rfl
@[simp] theorem State.setPort_queues (k : Nat) (x : Port) : (s.setPort k x).queues = s.queues := rfl
@[simp] theorem State.setPort_children (k : Nat) (x : Port) : (s.setPort k x).children = s.children := rfl
@[simp] theorem State.setPort_front (k : Nat) (x : Port) : (s.setPort k x).front = s.front := rfl
@[simp] theorem State.setPort_rrPos (k : Nat) (x : Port) : (s.setPort k x).rrPos = s.rrPos := rfl
@[simp] theorem State.setPort_events (k : Nat) (x : Port) : (s.setPort k x).events = s.events := rfl
@[simp] theorem State.setPort_heldEvts (k : Nat) (x : Port) : (s.setPort k x).heldEvts = s.heldEvts := rfl
@[simp] theorem State.setPort_qlocks (k : Nat) (x : Port) : (s.setPort k x).qlocks = s.qlocks := rfl
@[simp] theorem State.setPort_contexts (k : Nat) (x : Port) : (s.setPort k x).contexts = s.contexts := rfl
@[simp] theorem State.setPort_resid (k : Nat) (x : Port) : (s.setPort k x).resid = s.resid := rfl
@[simp] theorem State.setPort_scripts (k : Nat) (x : Port) : (s.setPort k x).scripts = s.scripts := rfl
@[simp] theorem State.setPort_cmcOut (k : Nat) (x : Port) : (s.setPort k x).cmcOut = s.cmcOut := rfl
@[simp] theorem State.setPort_cpHalt (k : Nat) (x : Port) : (s.setPort k x).cpHalt = s.cpHalt := rfl
@[simp] theorem State.setPort_cmcEvent (k : Nat) (x : Port) : (s.setPort k x).cmcEvent = s.cmcEvent := rfl
@[simp] theorem State.setPort_cmcTrapNs (k : Nat) (x : Port) : (s.setPort k x).cmcTrapNs = s.cmcTrapNs := rfl
@[simp] theorem State.setPort_keySlots (k : Nat) (x : Port) : (s.setPort k x).keySlots = s.keySlots := rfl
@[simp] theorem State.setPort_package (k : Nat) (x : Port) : (s.setPort k x).package = s.package := rfl
@[simp] theorem State.setPort_tickets (k : Nat) (x : Port) : (s.setPort k x).tickets = s.tickets := rfl
@[simp] theorem State.setPort_clbs (k : Nat) (x : Port) : (s.setPort k x).clbs = s.clbs := rfl
@[simp] theorem State.setPort_ports (k : Nat) (x : Port) : (s.setPort k x).ports = mapSet s.ports k x := rfl
@[simp] theorem State.setPort_modules (k : Nat) (x : Port) : (s.setPort k x).modules = s.modules := rfl
@[simp] theorem State.setPort_drained (k : Nat) (x : Port) : (s.setPort k x).drained = s.drained := rfl
@[simp] theorem State.setPort_peerLinks (k : Nat) (x : Port) : (s.setPort k x).peerLinks = s.peerLinks := rfl
@[simp] theorem State.setPort_hellos (k : Nat) (x : Port) : (s.setPort k x).hellos = s.hellos := rfl
@[simp] theorem State.setPort_silent (k : Nat) (x : Port) : (s.setPort k x).silent = s.silent := rfl
@[simp] theorem State.setPort_sessions (k : Nat) (x : Port) : (s.setPort k x).sessions = s.sessions := rfl
@[simp] theorem State.setPort_wheyDrops (k : Nat) (x : Port) : (s.setPort k x).wheyDrops = s.wheyDrops := rfl
@[simp] theorem State.setPort_links (k : Nat) (x : Port) : (s.setPort k x).links = s.links := rfl
@[simp] theorem State.setPort_reqs (k : Nat) (x : Port) : (s.setPort k x).reqs = s.reqs := rfl
@[simp] theorem State.setPort_ras (k : Nat) (x : Port) : (s.setPort k x).ras = s.ras := rfl
@[simp] theorem State.setPort_boot (k : Nat) (x : Port) : (s.setPort k x).boot = s.boot := rfl
@[simp] theorem State.setPort_fw (k : Nat) (x : Port) : (s.setPort k x).fw = s.fw := rfl
@[simp] theorem State.setPort_power (k : Nat) (x : Port) : (s.setPort k x).power = s.power := rfl
@[simp] theorem State.setPort_ident (k : Nat) (x : Port) : (s.setPort k x).ident = s.ident := rfl
@[simp] theorem State.setPort_hostErr (k : Nat) (x : Port) : (s.setPort k x).hostErr = s.hostErr := rfl
@[simp] theorem State.setPort_hostShares (k : Nat) (x : Port) : (s.setPort k x).hostShares = s.hostShares := rfl
@[simp] theorem State.setPort_outbox (k : Nat) (x : Port) : (s.setPort k x).outbox = s.outbox := rfl

/-! ## State.setTicket -/

@[simp] theorem State.setTicket_agenda (k : Nat) (x : Ticket) : (s.setTicket k x).agenda = s.agenda := rfl
@[simp] theorem State.setTicket_inputs (k : Nat) (x : Ticket) : (s.setTicket k x).inputs = s.inputs := rfl
@[simp] theorem State.setTicket_asker (k : Nat) (x : Ticket) : (s.setTicket k x).asker = s.asker := rfl
@[simp] theorem State.setTicket_chosen (k : Nat) (x : Ticket) : (s.setTicket k x).chosen = s.chosen := rfl
@[simp] theorem State.setTicket_cur (k : Nat) (x : Ticket) : (s.setTicket k x).cur = s.cur := rfl
@[simp] theorem State.setTicket_delays (k : Nat) (x : Ticket) : (s.setTicket k x).delays = s.delays := rfl
@[simp] theorem State.setTicket_hits (k : Nat) (x : Ticket) : (s.setTicket k x).hits = s.hits := rfl
@[simp] theorem State.setTicket_freeCtr (k : Nat) (x : Ticket) : (s.setTicket k x).freeCtr = s.freeCtr := rfl
@[simp] theorem State.setTicket_nextId (k : Nat) (x : Ticket) : (s.setTicket k x).nextId = s.nextId := rfl
@[simp] theorem State.setTicket_cycle (k : Nat) (x : Ticket) : (s.setTicket k x).cycle = s.cycle := rfl
@[simp] theorem State.setTicket_baseCycle (k : Nat) (x : Ticket) : (s.setTicket k x).baseCycle = s.baseCycle := rfl
@[simp] theorem State.setTicket_baseAcc (k : Nat) (x : Ticket) : (s.setTicket k x).baseAcc = s.baseAcc := rfl
@[simp] theorem State.setTicket_baseDue (k : Nat) (x : Ticket) : (s.setTicket k x).baseDue = s.baseDue := rfl
@[simp] theorem State.setTicket_timer (k : Nat) (x : Ticket) : (s.setTicket k x).timer = s.timer := rfl
@[simp] theorem State.setTicket_timerAcc (k : Nat) (x : Ticket) : (s.setTicket k x).timerAcc = s.timerAcc := rfl
@[simp] theorem State.setTicket_groups (k : Nat) (x : Ticket) : (s.setTicket k x).groups = s.groups := rfl
@[simp] theorem State.setTicket_teams (k : Nat) (x : Ticket) : (s.setTicket k x).teams = s.teams := rfl
@[simp] theorem State.setTicket_launches (k : Nat) (x : Ticket) : (s.setTicket k x).launches = s.launches := rfl
@[simp] theorem State.setTicket_ranges (k : Nat) (x : Ticket) : (s.setTicket k x).ranges = s.ranges := rfl
@[simp] theorem State.setTicket_ops (k : Nat) (x : Ticket) : (s.setTicket k x).ops = s.ops := rfl
@[simp] theorem State.setTicket_regsUsed (k : Nat) (x : Ticket) : (s.setTicket k x).regsUsed = s.regsUsed := rfl
@[simp] theorem State.setTicket_laneBusy (k : Nat) (x : Ticket) : (s.setTicket k x).laneBusy = s.laneBusy := rfl
@[simp] theorem State.setTicket_clusters (k : Nat) (x : Ticket) : (s.setTicket k x).clusters = s.clusters := rfl
@[simp] theorem State.setTicket_dies (k : Nat) (x : Ticket) : (s.setTicket k x).dies = s.dies := rfl
@[simp] theorem State.setTicket_copies (k : Nat) (x : Ticket) : (s.setTicket k x).copies = s.copies := rfl
@[simp] theorem State.setTicket_orphans (k : Nat) (x : Ticket) : (s.setTicket k x).orphans = s.orphans := rfl
@[simp] theorem State.setTicket_mem (k : Nat) (x : Ticket) : (s.setTicket k x).mem = s.mem := rfl
@[simp] theorem State.setTicket_dirty (k : Nat) (x : Ticket) : (s.setTicket k x).dirty = s.dirty := rfl
@[simp] theorem State.setTicket_log (k : Nat) (x : Ticket) : (s.setTicket k x).log = s.log := rfl
@[simp] theorem State.setTicket_reds (k : Nat) (x : Ticket) : (s.setTicket k x).reds = s.reds := rfl
@[simp] theorem State.setTicket_heldLines (k : Nat) (x : Ticket) : (s.setTicket k x).heldLines = s.heldLines := rfl
@[simp] theorem State.setTicket_poisoned (k : Nat) (x : Ticket) : (s.setTicket k x).poisoned = s.poisoned := rfl
@[simp] theorem State.setTicket_keyed (k : Nat) (x : Ticket) : (s.setTicket k x).keyed = s.keyed := rfl
@[simp] theorem State.setTicket_ciphers (k : Nat) (x : Ticket) : (s.setTicket k x).ciphers = s.ciphers := rfl
@[simp] theorem State.setTicket_peers (k : Nat) (x : Ticket) : (s.setTicket k x).peers = s.peers := rfl
@[simp] theorem State.setTicket_peerPoison (k : Nat) (x : Ticket) : (s.setTicket k x).peerPoison = s.peerPoison := rfl
@[simp] theorem State.setTicket_pod (k : Nat) (x : Ticket) : (s.setTicket k x).pod = s.pod := rfl
@[simp] theorem State.setTicket_peerAsks (k : Nat) (x : Ticket) : (s.setTicket k x).peerAsks = s.peerAsks := rfl
@[simp] theorem State.setTicket_l1 (k : Nat) (x : Ticket) : (s.setTicket k x).l1 = s.l1 := rfl
@[simp] theorem State.setTicket_victims (k : Nat) (x : Ticket) : (s.setTicket k x).victims = s.victims := rfl
@[simp] theorem State.setTicket_slices (k : Nat) (x : Ticket) : (s.setTicket k x).slices = s.slices := rfl
@[simp] theorem State.setTicket_remap (k : Nat) (x : Ticket) : (s.setTicket k x).remap = s.remap := rfl
@[simp] theorem State.setTicket_tlb (k : Nat) (x : Ticket) : (s.setTicket k x).tlb = s.tlb := rfl
@[simp] theorem State.setTicket_migs (k : Nat) (x : Ticket) : (s.setTicket k x).migs = s.migs := rfl
@[simp] theorem State.setTicket_heldStores (k : Nat) (x : Ticket) : (s.setTicket k x).heldStores = s.heldStores := rfl
@[simp] theorem State.setTicket_heldEnds (k : Nat) (x : Ticket) : (s.setTicket k x).heldEnds = s.heldEnds := rfl
@[simp] theorem State.setTicket_cream (k : Nat) (x : Ticket) : (s.setTicket k x).cream = s.cream := rfl
@[simp] theorem State.setTicket_queues (k : Nat) (x : Ticket) : (s.setTicket k x).queues = s.queues := rfl
@[simp] theorem State.setTicket_children (k : Nat) (x : Ticket) : (s.setTicket k x).children = s.children := rfl
@[simp] theorem State.setTicket_front (k : Nat) (x : Ticket) : (s.setTicket k x).front = s.front := rfl
@[simp] theorem State.setTicket_rrPos (k : Nat) (x : Ticket) : (s.setTicket k x).rrPos = s.rrPos := rfl
@[simp] theorem State.setTicket_events (k : Nat) (x : Ticket) : (s.setTicket k x).events = s.events := rfl
@[simp] theorem State.setTicket_heldEvts (k : Nat) (x : Ticket) : (s.setTicket k x).heldEvts = s.heldEvts := rfl
@[simp] theorem State.setTicket_qlocks (k : Nat) (x : Ticket) : (s.setTicket k x).qlocks = s.qlocks := rfl
@[simp] theorem State.setTicket_contexts (k : Nat) (x : Ticket) : (s.setTicket k x).contexts = s.contexts := rfl
@[simp] theorem State.setTicket_resid (k : Nat) (x : Ticket) : (s.setTicket k x).resid = s.resid := rfl
@[simp] theorem State.setTicket_scripts (k : Nat) (x : Ticket) : (s.setTicket k x).scripts = s.scripts := rfl
@[simp] theorem State.setTicket_cmcOut (k : Nat) (x : Ticket) : (s.setTicket k x).cmcOut = s.cmcOut := rfl
@[simp] theorem State.setTicket_cpHalt (k : Nat) (x : Ticket) : (s.setTicket k x).cpHalt = s.cpHalt := rfl
@[simp] theorem State.setTicket_cmcEvent (k : Nat) (x : Ticket) : (s.setTicket k x).cmcEvent = s.cmcEvent := rfl
@[simp] theorem State.setTicket_cmcTrapNs (k : Nat) (x : Ticket) : (s.setTicket k x).cmcTrapNs = s.cmcTrapNs := rfl
@[simp] theorem State.setTicket_keySlots (k : Nat) (x : Ticket) : (s.setTicket k x).keySlots = s.keySlots := rfl
@[simp] theorem State.setTicket_package (k : Nat) (x : Ticket) : (s.setTicket k x).package = s.package := rfl
@[simp] theorem State.setTicket_tickets (k : Nat) (x : Ticket) : (s.setTicket k x).tickets = mapSet s.tickets k x := rfl
@[simp] theorem State.setTicket_clbs (k : Nat) (x : Ticket) : (s.setTicket k x).clbs = s.clbs := rfl
@[simp] theorem State.setTicket_ports (k : Nat) (x : Ticket) : (s.setTicket k x).ports = s.ports := rfl
@[simp] theorem State.setTicket_modules (k : Nat) (x : Ticket) : (s.setTicket k x).modules = s.modules := rfl
@[simp] theorem State.setTicket_drained (k : Nat) (x : Ticket) : (s.setTicket k x).drained = s.drained := rfl
@[simp] theorem State.setTicket_peerLinks (k : Nat) (x : Ticket) : (s.setTicket k x).peerLinks = s.peerLinks := rfl
@[simp] theorem State.setTicket_hellos (k : Nat) (x : Ticket) : (s.setTicket k x).hellos = s.hellos := rfl
@[simp] theorem State.setTicket_silent (k : Nat) (x : Ticket) : (s.setTicket k x).silent = s.silent := rfl
@[simp] theorem State.setTicket_sessions (k : Nat) (x : Ticket) : (s.setTicket k x).sessions = s.sessions := rfl
@[simp] theorem State.setTicket_wheyDrops (k : Nat) (x : Ticket) : (s.setTicket k x).wheyDrops = s.wheyDrops := rfl
@[simp] theorem State.setTicket_links (k : Nat) (x : Ticket) : (s.setTicket k x).links = s.links := rfl
@[simp] theorem State.setTicket_reqs (k : Nat) (x : Ticket) : (s.setTicket k x).reqs = s.reqs := rfl
@[simp] theorem State.setTicket_ras (k : Nat) (x : Ticket) : (s.setTicket k x).ras = s.ras := rfl
@[simp] theorem State.setTicket_boot (k : Nat) (x : Ticket) : (s.setTicket k x).boot = s.boot := rfl
@[simp] theorem State.setTicket_fw (k : Nat) (x : Ticket) : (s.setTicket k x).fw = s.fw := rfl
@[simp] theorem State.setTicket_power (k : Nat) (x : Ticket) : (s.setTicket k x).power = s.power := rfl
@[simp] theorem State.setTicket_ident (k : Nat) (x : Ticket) : (s.setTicket k x).ident = s.ident := rfl
@[simp] theorem State.setTicket_hostErr (k : Nat) (x : Ticket) : (s.setTicket k x).hostErr = s.hostErr := rfl
@[simp] theorem State.setTicket_hostShares (k : Nat) (x : Ticket) : (s.setTicket k x).hostShares = s.hostShares := rfl
@[simp] theorem State.setTicket_outbox (k : Nat) (x : Ticket) : (s.setTicket k x).outbox = s.outbox := rfl

/-! ## State.setSession -/

@[simp] theorem State.setSession_agenda (k : Nat) (x : Session) : (s.setSession k x).agenda = s.agenda := rfl
@[simp] theorem State.setSession_inputs (k : Nat) (x : Session) : (s.setSession k x).inputs = s.inputs := rfl
@[simp] theorem State.setSession_asker (k : Nat) (x : Session) : (s.setSession k x).asker = s.asker := rfl
@[simp] theorem State.setSession_chosen (k : Nat) (x : Session) : (s.setSession k x).chosen = s.chosen := rfl
@[simp] theorem State.setSession_cur (k : Nat) (x : Session) : (s.setSession k x).cur = s.cur := rfl
@[simp] theorem State.setSession_delays (k : Nat) (x : Session) : (s.setSession k x).delays = s.delays := rfl
@[simp] theorem State.setSession_hits (k : Nat) (x : Session) : (s.setSession k x).hits = s.hits := rfl
@[simp] theorem State.setSession_freeCtr (k : Nat) (x : Session) : (s.setSession k x).freeCtr = s.freeCtr := rfl
@[simp] theorem State.setSession_nextId (k : Nat) (x : Session) : (s.setSession k x).nextId = s.nextId := rfl
@[simp] theorem State.setSession_cycle (k : Nat) (x : Session) : (s.setSession k x).cycle = s.cycle := rfl
@[simp] theorem State.setSession_baseCycle (k : Nat) (x : Session) : (s.setSession k x).baseCycle = s.baseCycle := rfl
@[simp] theorem State.setSession_baseAcc (k : Nat) (x : Session) : (s.setSession k x).baseAcc = s.baseAcc := rfl
@[simp] theorem State.setSession_baseDue (k : Nat) (x : Session) : (s.setSession k x).baseDue = s.baseDue := rfl
@[simp] theorem State.setSession_timer (k : Nat) (x : Session) : (s.setSession k x).timer = s.timer := rfl
@[simp] theorem State.setSession_timerAcc (k : Nat) (x : Session) : (s.setSession k x).timerAcc = s.timerAcc := rfl
@[simp] theorem State.setSession_groups (k : Nat) (x : Session) : (s.setSession k x).groups = s.groups := rfl
@[simp] theorem State.setSession_teams (k : Nat) (x : Session) : (s.setSession k x).teams = s.teams := rfl
@[simp] theorem State.setSession_launches (k : Nat) (x : Session) : (s.setSession k x).launches = s.launches := rfl
@[simp] theorem State.setSession_ranges (k : Nat) (x : Session) : (s.setSession k x).ranges = s.ranges := rfl
@[simp] theorem State.setSession_ops (k : Nat) (x : Session) : (s.setSession k x).ops = s.ops := rfl
@[simp] theorem State.setSession_regsUsed (k : Nat) (x : Session) : (s.setSession k x).regsUsed = s.regsUsed := rfl
@[simp] theorem State.setSession_laneBusy (k : Nat) (x : Session) : (s.setSession k x).laneBusy = s.laneBusy := rfl
@[simp] theorem State.setSession_clusters (k : Nat) (x : Session) : (s.setSession k x).clusters = s.clusters := rfl
@[simp] theorem State.setSession_dies (k : Nat) (x : Session) : (s.setSession k x).dies = s.dies := rfl
@[simp] theorem State.setSession_copies (k : Nat) (x : Session) : (s.setSession k x).copies = s.copies := rfl
@[simp] theorem State.setSession_orphans (k : Nat) (x : Session) : (s.setSession k x).orphans = s.orphans := rfl
@[simp] theorem State.setSession_mem (k : Nat) (x : Session) : (s.setSession k x).mem = s.mem := rfl
@[simp] theorem State.setSession_dirty (k : Nat) (x : Session) : (s.setSession k x).dirty = s.dirty := rfl
@[simp] theorem State.setSession_log (k : Nat) (x : Session) : (s.setSession k x).log = s.log := rfl
@[simp] theorem State.setSession_reds (k : Nat) (x : Session) : (s.setSession k x).reds = s.reds := rfl
@[simp] theorem State.setSession_heldLines (k : Nat) (x : Session) : (s.setSession k x).heldLines = s.heldLines := rfl
@[simp] theorem State.setSession_poisoned (k : Nat) (x : Session) : (s.setSession k x).poisoned = s.poisoned := rfl
@[simp] theorem State.setSession_keyed (k : Nat) (x : Session) : (s.setSession k x).keyed = s.keyed := rfl
@[simp] theorem State.setSession_ciphers (k : Nat) (x : Session) : (s.setSession k x).ciphers = s.ciphers := rfl
@[simp] theorem State.setSession_peers (k : Nat) (x : Session) : (s.setSession k x).peers = s.peers := rfl
@[simp] theorem State.setSession_peerPoison (k : Nat) (x : Session) : (s.setSession k x).peerPoison = s.peerPoison := rfl
@[simp] theorem State.setSession_pod (k : Nat) (x : Session) : (s.setSession k x).pod = s.pod := rfl
@[simp] theorem State.setSession_peerAsks (k : Nat) (x : Session) : (s.setSession k x).peerAsks = s.peerAsks := rfl
@[simp] theorem State.setSession_l1 (k : Nat) (x : Session) : (s.setSession k x).l1 = s.l1 := rfl
@[simp] theorem State.setSession_victims (k : Nat) (x : Session) : (s.setSession k x).victims = s.victims := rfl
@[simp] theorem State.setSession_slices (k : Nat) (x : Session) : (s.setSession k x).slices = s.slices := rfl
@[simp] theorem State.setSession_remap (k : Nat) (x : Session) : (s.setSession k x).remap = s.remap := rfl
@[simp] theorem State.setSession_tlb (k : Nat) (x : Session) : (s.setSession k x).tlb = s.tlb := rfl
@[simp] theorem State.setSession_migs (k : Nat) (x : Session) : (s.setSession k x).migs = s.migs := rfl
@[simp] theorem State.setSession_heldStores (k : Nat) (x : Session) : (s.setSession k x).heldStores = s.heldStores := rfl
@[simp] theorem State.setSession_heldEnds (k : Nat) (x : Session) : (s.setSession k x).heldEnds = s.heldEnds := rfl
@[simp] theorem State.setSession_cream (k : Nat) (x : Session) : (s.setSession k x).cream = s.cream := rfl
@[simp] theorem State.setSession_queues (k : Nat) (x : Session) : (s.setSession k x).queues = s.queues := rfl
@[simp] theorem State.setSession_children (k : Nat) (x : Session) : (s.setSession k x).children = s.children := rfl
@[simp] theorem State.setSession_front (k : Nat) (x : Session) : (s.setSession k x).front = s.front := rfl
@[simp] theorem State.setSession_rrPos (k : Nat) (x : Session) : (s.setSession k x).rrPos = s.rrPos := rfl
@[simp] theorem State.setSession_events (k : Nat) (x : Session) : (s.setSession k x).events = s.events := rfl
@[simp] theorem State.setSession_heldEvts (k : Nat) (x : Session) : (s.setSession k x).heldEvts = s.heldEvts := rfl
@[simp] theorem State.setSession_qlocks (k : Nat) (x : Session) : (s.setSession k x).qlocks = s.qlocks := rfl
@[simp] theorem State.setSession_contexts (k : Nat) (x : Session) : (s.setSession k x).contexts = s.contexts := rfl
@[simp] theorem State.setSession_resid (k : Nat) (x : Session) : (s.setSession k x).resid = s.resid := rfl
@[simp] theorem State.setSession_scripts (k : Nat) (x : Session) : (s.setSession k x).scripts = s.scripts := rfl
@[simp] theorem State.setSession_cmcOut (k : Nat) (x : Session) : (s.setSession k x).cmcOut = s.cmcOut := rfl
@[simp] theorem State.setSession_cpHalt (k : Nat) (x : Session) : (s.setSession k x).cpHalt = s.cpHalt := rfl
@[simp] theorem State.setSession_cmcEvent (k : Nat) (x : Session) : (s.setSession k x).cmcEvent = s.cmcEvent := rfl
@[simp] theorem State.setSession_cmcTrapNs (k : Nat) (x : Session) : (s.setSession k x).cmcTrapNs = s.cmcTrapNs := rfl
@[simp] theorem State.setSession_keySlots (k : Nat) (x : Session) : (s.setSession k x).keySlots = s.keySlots := rfl
@[simp] theorem State.setSession_package (k : Nat) (x : Session) : (s.setSession k x).package = s.package := rfl
@[simp] theorem State.setSession_tickets (k : Nat) (x : Session) : (s.setSession k x).tickets = s.tickets := rfl
@[simp] theorem State.setSession_clbs (k : Nat) (x : Session) : (s.setSession k x).clbs = s.clbs := rfl
@[simp] theorem State.setSession_ports (k : Nat) (x : Session) : (s.setSession k x).ports = s.ports := rfl
@[simp] theorem State.setSession_modules (k : Nat) (x : Session) : (s.setSession k x).modules = s.modules := rfl
@[simp] theorem State.setSession_drained (k : Nat) (x : Session) : (s.setSession k x).drained = s.drained := rfl
@[simp] theorem State.setSession_peerLinks (k : Nat) (x : Session) : (s.setSession k x).peerLinks = s.peerLinks := rfl
@[simp] theorem State.setSession_hellos (k : Nat) (x : Session) : (s.setSession k x).hellos = s.hellos := rfl
@[simp] theorem State.setSession_silent (k : Nat) (x : Session) : (s.setSession k x).silent = s.silent := rfl
@[simp] theorem State.setSession_sessions (k : Nat) (x : Session) : (s.setSession k x).sessions = mapSet s.sessions k x := rfl
@[simp] theorem State.setSession_wheyDrops (k : Nat) (x : Session) : (s.setSession k x).wheyDrops = s.wheyDrops := rfl
@[simp] theorem State.setSession_links (k : Nat) (x : Session) : (s.setSession k x).links = s.links := rfl
@[simp] theorem State.setSession_reqs (k : Nat) (x : Session) : (s.setSession k x).reqs = s.reqs := rfl
@[simp] theorem State.setSession_ras (k : Nat) (x : Session) : (s.setSession k x).ras = s.ras := rfl
@[simp] theorem State.setSession_boot (k : Nat) (x : Session) : (s.setSession k x).boot = s.boot := rfl
@[simp] theorem State.setSession_fw (k : Nat) (x : Session) : (s.setSession k x).fw = s.fw := rfl
@[simp] theorem State.setSession_power (k : Nat) (x : Session) : (s.setSession k x).power = s.power := rfl
@[simp] theorem State.setSession_ident (k : Nat) (x : Session) : (s.setSession k x).ident = s.ident := rfl
@[simp] theorem State.setSession_hostErr (k : Nat) (x : Session) : (s.setSession k x).hostErr = s.hostErr := rfl
@[simp] theorem State.setSession_hostShares (k : Nat) (x : Session) : (s.setSession k x).hostShares = s.hostShares := rfl
@[simp] theorem State.setSession_outbox (k : Nat) (x : Session) : (s.setSession k x).outbox = s.outbox := rfl

/-! ## State.tookDelay -/

@[simp] theorem State.tookDelay_agenda : (s.tookDelay).agenda = s.agenda := rfl
@[simp] theorem State.tookDelay_inputs : (s.tookDelay).inputs = s.inputs := rfl
@[simp] theorem State.tookDelay_asker : (s.tookDelay).asker = s.asker := rfl
@[simp] theorem State.tookDelay_chosen : (s.tookDelay).chosen = s.chosen := rfl
@[simp] theorem State.tookDelay_cur : (s.tookDelay).cur = s.cur := rfl
@[simp] theorem State.tookDelay_delays : (s.tookDelay).delays = s.delays.tail := rfl
@[simp] theorem State.tookDelay_hits : (s.tookDelay).hits = s.hits := rfl
@[simp] theorem State.tookDelay_freeCtr : (s.tookDelay).freeCtr = s.freeCtr := rfl
@[simp] theorem State.tookDelay_nextId : (s.tookDelay).nextId = s.nextId := rfl
@[simp] theorem State.tookDelay_cycle : (s.tookDelay).cycle = s.cycle := rfl
@[simp] theorem State.tookDelay_baseCycle : (s.tookDelay).baseCycle = s.baseCycle := rfl
@[simp] theorem State.tookDelay_baseAcc : (s.tookDelay).baseAcc = s.baseAcc := rfl
@[simp] theorem State.tookDelay_baseDue : (s.tookDelay).baseDue = s.baseDue := rfl
@[simp] theorem State.tookDelay_timer : (s.tookDelay).timer = s.timer := rfl
@[simp] theorem State.tookDelay_timerAcc : (s.tookDelay).timerAcc = s.timerAcc := rfl
@[simp] theorem State.tookDelay_groups : (s.tookDelay).groups = s.groups := rfl
@[simp] theorem State.tookDelay_teams : (s.tookDelay).teams = s.teams := rfl
@[simp] theorem State.tookDelay_launches : (s.tookDelay).launches = s.launches := rfl
@[simp] theorem State.tookDelay_ranges : (s.tookDelay).ranges = s.ranges := rfl
@[simp] theorem State.tookDelay_ops : (s.tookDelay).ops = s.ops := rfl
@[simp] theorem State.tookDelay_regsUsed : (s.tookDelay).regsUsed = s.regsUsed := rfl
@[simp] theorem State.tookDelay_laneBusy : (s.tookDelay).laneBusy = s.laneBusy := rfl
@[simp] theorem State.tookDelay_clusters : (s.tookDelay).clusters = s.clusters := rfl
@[simp] theorem State.tookDelay_dies : (s.tookDelay).dies = s.dies := rfl
@[simp] theorem State.tookDelay_copies : (s.tookDelay).copies = s.copies := rfl
@[simp] theorem State.tookDelay_orphans : (s.tookDelay).orphans = s.orphans := rfl
@[simp] theorem State.tookDelay_mem : (s.tookDelay).mem = s.mem := rfl
@[simp] theorem State.tookDelay_dirty : (s.tookDelay).dirty = s.dirty := rfl
@[simp] theorem State.tookDelay_log : (s.tookDelay).log = s.log := rfl
@[simp] theorem State.tookDelay_reds : (s.tookDelay).reds = s.reds := rfl
@[simp] theorem State.tookDelay_heldLines : (s.tookDelay).heldLines = s.heldLines := rfl
@[simp] theorem State.tookDelay_poisoned : (s.tookDelay).poisoned = s.poisoned := rfl
@[simp] theorem State.tookDelay_keyed : (s.tookDelay).keyed = s.keyed := rfl
@[simp] theorem State.tookDelay_ciphers : (s.tookDelay).ciphers = s.ciphers := rfl
@[simp] theorem State.tookDelay_peers : (s.tookDelay).peers = s.peers := rfl
@[simp] theorem State.tookDelay_peerPoison : (s.tookDelay).peerPoison = s.peerPoison := rfl
@[simp] theorem State.tookDelay_pod : (s.tookDelay).pod = s.pod := rfl
@[simp] theorem State.tookDelay_peerAsks : (s.tookDelay).peerAsks = s.peerAsks := rfl
@[simp] theorem State.tookDelay_l1 : (s.tookDelay).l1 = s.l1 := rfl
@[simp] theorem State.tookDelay_victims : (s.tookDelay).victims = s.victims := rfl
@[simp] theorem State.tookDelay_slices : (s.tookDelay).slices = s.slices := rfl
@[simp] theorem State.tookDelay_remap : (s.tookDelay).remap = s.remap := rfl
@[simp] theorem State.tookDelay_tlb : (s.tookDelay).tlb = s.tlb := rfl
@[simp] theorem State.tookDelay_migs : (s.tookDelay).migs = s.migs := rfl
@[simp] theorem State.tookDelay_heldStores : (s.tookDelay).heldStores = s.heldStores := rfl
@[simp] theorem State.tookDelay_heldEnds : (s.tookDelay).heldEnds = s.heldEnds := rfl
@[simp] theorem State.tookDelay_cream : (s.tookDelay).cream = s.cream := rfl
@[simp] theorem State.tookDelay_queues : (s.tookDelay).queues = s.queues := rfl
@[simp] theorem State.tookDelay_children : (s.tookDelay).children = s.children := rfl
@[simp] theorem State.tookDelay_front : (s.tookDelay).front = s.front := rfl
@[simp] theorem State.tookDelay_rrPos : (s.tookDelay).rrPos = s.rrPos := rfl
@[simp] theorem State.tookDelay_events : (s.tookDelay).events = s.events := rfl
@[simp] theorem State.tookDelay_heldEvts : (s.tookDelay).heldEvts = s.heldEvts := rfl
@[simp] theorem State.tookDelay_qlocks : (s.tookDelay).qlocks = s.qlocks := rfl
@[simp] theorem State.tookDelay_contexts : (s.tookDelay).contexts = s.contexts := rfl
@[simp] theorem State.tookDelay_resid : (s.tookDelay).resid = s.resid := rfl
@[simp] theorem State.tookDelay_scripts : (s.tookDelay).scripts = s.scripts := rfl
@[simp] theorem State.tookDelay_cmcOut : (s.tookDelay).cmcOut = s.cmcOut := rfl
@[simp] theorem State.tookDelay_cpHalt : (s.tookDelay).cpHalt = s.cpHalt := rfl
@[simp] theorem State.tookDelay_cmcEvent : (s.tookDelay).cmcEvent = s.cmcEvent := rfl
@[simp] theorem State.tookDelay_cmcTrapNs : (s.tookDelay).cmcTrapNs = s.cmcTrapNs := rfl
@[simp] theorem State.tookDelay_keySlots : (s.tookDelay).keySlots = s.keySlots := rfl
@[simp] theorem State.tookDelay_package : (s.tookDelay).package = s.package := rfl
@[simp] theorem State.tookDelay_tickets : (s.tookDelay).tickets = s.tickets := rfl
@[simp] theorem State.tookDelay_clbs : (s.tookDelay).clbs = s.clbs := rfl
@[simp] theorem State.tookDelay_ports : (s.tookDelay).ports = s.ports := rfl
@[simp] theorem State.tookDelay_modules : (s.tookDelay).modules = s.modules := rfl
@[simp] theorem State.tookDelay_drained : (s.tookDelay).drained = s.drained := rfl
@[simp] theorem State.tookDelay_peerLinks : (s.tookDelay).peerLinks = s.peerLinks := rfl
@[simp] theorem State.tookDelay_hellos : (s.tookDelay).hellos = s.hellos := rfl
@[simp] theorem State.tookDelay_silent : (s.tookDelay).silent = s.silent := rfl
@[simp] theorem State.tookDelay_sessions : (s.tookDelay).sessions = s.sessions := rfl
@[simp] theorem State.tookDelay_wheyDrops : (s.tookDelay).wheyDrops = s.wheyDrops := rfl
@[simp] theorem State.tookDelay_links : (s.tookDelay).links = s.links := rfl
@[simp] theorem State.tookDelay_reqs : (s.tookDelay).reqs = s.reqs := rfl
@[simp] theorem State.tookDelay_ras : (s.tookDelay).ras = s.ras := rfl
@[simp] theorem State.tookDelay_boot : (s.tookDelay).boot = s.boot := rfl
@[simp] theorem State.tookDelay_fw : (s.tookDelay).fw = s.fw := rfl
@[simp] theorem State.tookDelay_power : (s.tookDelay).power = s.power := rfl
@[simp] theorem State.tookDelay_ident : (s.tookDelay).ident = s.ident := rfl
@[simp] theorem State.tookDelay_hostErr : (s.tookDelay).hostErr = s.hostErr := rfl
@[simp] theorem State.tookDelay_hostShares : (s.tookDelay).hostShares = s.hostShares := rfl
@[simp] theorem State.tookDelay_outbox : (s.tookDelay).outbox = s.outbox := rfl

/-! ## State.tookFree -/

@[simp] theorem State.tookFree_agenda : (s.tookFree).agenda = s.agenda := rfl
@[simp] theorem State.tookFree_inputs : (s.tookFree).inputs = s.inputs := rfl
@[simp] theorem State.tookFree_asker : (s.tookFree).asker = s.asker := rfl
@[simp] theorem State.tookFree_chosen : (s.tookFree).chosen = s.chosen := rfl
@[simp] theorem State.tookFree_cur : (s.tookFree).cur = s.cur := rfl
@[simp] theorem State.tookFree_delays : (s.tookFree).delays = s.delays := rfl
@[simp] theorem State.tookFree_hits : (s.tookFree).hits = s.hits := rfl
@[simp] theorem State.tookFree_freeCtr : (s.tookFree).freeCtr = s.freeCtr + 1 := rfl
@[simp] theorem State.tookFree_nextId : (s.tookFree).nextId = s.nextId := rfl
@[simp] theorem State.tookFree_cycle : (s.tookFree).cycle = s.cycle := rfl
@[simp] theorem State.tookFree_baseCycle : (s.tookFree).baseCycle = s.baseCycle := rfl
@[simp] theorem State.tookFree_baseAcc : (s.tookFree).baseAcc = s.baseAcc := rfl
@[simp] theorem State.tookFree_baseDue : (s.tookFree).baseDue = s.baseDue := rfl
@[simp] theorem State.tookFree_timer : (s.tookFree).timer = s.timer := rfl
@[simp] theorem State.tookFree_timerAcc : (s.tookFree).timerAcc = s.timerAcc := rfl
@[simp] theorem State.tookFree_groups : (s.tookFree).groups = s.groups := rfl
@[simp] theorem State.tookFree_teams : (s.tookFree).teams = s.teams := rfl
@[simp] theorem State.tookFree_launches : (s.tookFree).launches = s.launches := rfl
@[simp] theorem State.tookFree_ranges : (s.tookFree).ranges = s.ranges := rfl
@[simp] theorem State.tookFree_ops : (s.tookFree).ops = s.ops := rfl
@[simp] theorem State.tookFree_regsUsed : (s.tookFree).regsUsed = s.regsUsed := rfl
@[simp] theorem State.tookFree_laneBusy : (s.tookFree).laneBusy = s.laneBusy := rfl
@[simp] theorem State.tookFree_clusters : (s.tookFree).clusters = s.clusters := rfl
@[simp] theorem State.tookFree_dies : (s.tookFree).dies = s.dies := rfl
@[simp] theorem State.tookFree_copies : (s.tookFree).copies = s.copies := rfl
@[simp] theorem State.tookFree_orphans : (s.tookFree).orphans = s.orphans := rfl
@[simp] theorem State.tookFree_mem : (s.tookFree).mem = s.mem := rfl
@[simp] theorem State.tookFree_dirty : (s.tookFree).dirty = s.dirty := rfl
@[simp] theorem State.tookFree_log : (s.tookFree).log = s.log := rfl
@[simp] theorem State.tookFree_reds : (s.tookFree).reds = s.reds := rfl
@[simp] theorem State.tookFree_heldLines : (s.tookFree).heldLines = s.heldLines := rfl
@[simp] theorem State.tookFree_poisoned : (s.tookFree).poisoned = s.poisoned := rfl
@[simp] theorem State.tookFree_keyed : (s.tookFree).keyed = s.keyed := rfl
@[simp] theorem State.tookFree_ciphers : (s.tookFree).ciphers = s.ciphers := rfl
@[simp] theorem State.tookFree_peers : (s.tookFree).peers = s.peers := rfl
@[simp] theorem State.tookFree_peerPoison : (s.tookFree).peerPoison = s.peerPoison := rfl
@[simp] theorem State.tookFree_pod : (s.tookFree).pod = s.pod := rfl
@[simp] theorem State.tookFree_peerAsks : (s.tookFree).peerAsks = s.peerAsks := rfl
@[simp] theorem State.tookFree_l1 : (s.tookFree).l1 = s.l1 := rfl
@[simp] theorem State.tookFree_victims : (s.tookFree).victims = s.victims := rfl
@[simp] theorem State.tookFree_slices : (s.tookFree).slices = s.slices := rfl
@[simp] theorem State.tookFree_remap : (s.tookFree).remap = s.remap := rfl
@[simp] theorem State.tookFree_tlb : (s.tookFree).tlb = s.tlb := rfl
@[simp] theorem State.tookFree_migs : (s.tookFree).migs = s.migs := rfl
@[simp] theorem State.tookFree_heldStores : (s.tookFree).heldStores = s.heldStores := rfl
@[simp] theorem State.tookFree_heldEnds : (s.tookFree).heldEnds = s.heldEnds := rfl
@[simp] theorem State.tookFree_cream : (s.tookFree).cream = s.cream := rfl
@[simp] theorem State.tookFree_queues : (s.tookFree).queues = s.queues := rfl
@[simp] theorem State.tookFree_children : (s.tookFree).children = s.children := rfl
@[simp] theorem State.tookFree_front : (s.tookFree).front = s.front := rfl
@[simp] theorem State.tookFree_rrPos : (s.tookFree).rrPos = s.rrPos := rfl
@[simp] theorem State.tookFree_events : (s.tookFree).events = s.events := rfl
@[simp] theorem State.tookFree_heldEvts : (s.tookFree).heldEvts = s.heldEvts := rfl
@[simp] theorem State.tookFree_qlocks : (s.tookFree).qlocks = s.qlocks := rfl
@[simp] theorem State.tookFree_contexts : (s.tookFree).contexts = s.contexts := rfl
@[simp] theorem State.tookFree_resid : (s.tookFree).resid = s.resid := rfl
@[simp] theorem State.tookFree_scripts : (s.tookFree).scripts = s.scripts := rfl
@[simp] theorem State.tookFree_cmcOut : (s.tookFree).cmcOut = s.cmcOut := rfl
@[simp] theorem State.tookFree_cpHalt : (s.tookFree).cpHalt = s.cpHalt := rfl
@[simp] theorem State.tookFree_cmcEvent : (s.tookFree).cmcEvent = s.cmcEvent := rfl
@[simp] theorem State.tookFree_cmcTrapNs : (s.tookFree).cmcTrapNs = s.cmcTrapNs := rfl
@[simp] theorem State.tookFree_keySlots : (s.tookFree).keySlots = s.keySlots := rfl
@[simp] theorem State.tookFree_package : (s.tookFree).package = s.package := rfl
@[simp] theorem State.tookFree_tickets : (s.tookFree).tickets = s.tickets := rfl
@[simp] theorem State.tookFree_clbs : (s.tookFree).clbs = s.clbs := rfl
@[simp] theorem State.tookFree_ports : (s.tookFree).ports = s.ports := rfl
@[simp] theorem State.tookFree_modules : (s.tookFree).modules = s.modules := rfl
@[simp] theorem State.tookFree_drained : (s.tookFree).drained = s.drained := rfl
@[simp] theorem State.tookFree_peerLinks : (s.tookFree).peerLinks = s.peerLinks := rfl
@[simp] theorem State.tookFree_hellos : (s.tookFree).hellos = s.hellos := rfl
@[simp] theorem State.tookFree_silent : (s.tookFree).silent = s.silent := rfl
@[simp] theorem State.tookFree_sessions : (s.tookFree).sessions = s.sessions := rfl
@[simp] theorem State.tookFree_wheyDrops : (s.tookFree).wheyDrops = s.wheyDrops := rfl
@[simp] theorem State.tookFree_links : (s.tookFree).links = s.links := rfl
@[simp] theorem State.tookFree_reqs : (s.tookFree).reqs = s.reqs := rfl
@[simp] theorem State.tookFree_ras : (s.tookFree).ras = s.ras := rfl
@[simp] theorem State.tookFree_boot : (s.tookFree).boot = s.boot := rfl
@[simp] theorem State.tookFree_fw : (s.tookFree).fw = s.fw := rfl
@[simp] theorem State.tookFree_power : (s.tookFree).power = s.power := rfl
@[simp] theorem State.tookFree_ident : (s.tookFree).ident = s.ident := rfl
@[simp] theorem State.tookFree_hostErr : (s.tookFree).hostErr = s.hostErr := rfl
@[simp] theorem State.tookFree_hostShares : (s.tookFree).hostShares = s.hostShares := rfl
@[simp] theorem State.tookFree_outbox : (s.tookFree).outbox = s.outbox := rfl

/-! ## State.later -/

@[simp] theorem State.later_agenda (e : Event) : (s.later e).agenda = s.agenda ++ [e] := rfl
@[simp] theorem State.later_inputs (e : Event) : (s.later e).inputs = s.inputs := rfl
@[simp] theorem State.later_asker (e : Event) : (s.later e).asker = s.asker := rfl
@[simp] theorem State.later_chosen (e : Event) : (s.later e).chosen = s.chosen := rfl
@[simp] theorem State.later_cur (e : Event) : (s.later e).cur = s.cur := rfl
@[simp] theorem State.later_delays (e : Event) : (s.later e).delays = s.delays := rfl
@[simp] theorem State.later_hits (e : Event) : (s.later e).hits = s.hits := rfl
@[simp] theorem State.later_freeCtr (e : Event) : (s.later e).freeCtr = s.freeCtr := rfl
@[simp] theorem State.later_nextId (e : Event) : (s.later e).nextId = s.nextId := rfl
@[simp] theorem State.later_cycle (e : Event) : (s.later e).cycle = s.cycle := rfl
@[simp] theorem State.later_baseCycle (e : Event) : (s.later e).baseCycle = s.baseCycle := rfl
@[simp] theorem State.later_baseAcc (e : Event) : (s.later e).baseAcc = s.baseAcc := rfl
@[simp] theorem State.later_baseDue (e : Event) : (s.later e).baseDue = s.baseDue := rfl
@[simp] theorem State.later_timer (e : Event) : (s.later e).timer = s.timer := rfl
@[simp] theorem State.later_timerAcc (e : Event) : (s.later e).timerAcc = s.timerAcc := rfl
@[simp] theorem State.later_groups (e : Event) : (s.later e).groups = s.groups := rfl
@[simp] theorem State.later_teams (e : Event) : (s.later e).teams = s.teams := rfl
@[simp] theorem State.later_launches (e : Event) : (s.later e).launches = s.launches := rfl
@[simp] theorem State.later_ranges (e : Event) : (s.later e).ranges = s.ranges := rfl
@[simp] theorem State.later_ops (e : Event) : (s.later e).ops = s.ops := rfl
@[simp] theorem State.later_regsUsed (e : Event) : (s.later e).regsUsed = s.regsUsed := rfl
@[simp] theorem State.later_laneBusy (e : Event) : (s.later e).laneBusy = s.laneBusy := rfl
@[simp] theorem State.later_clusters (e : Event) : (s.later e).clusters = s.clusters := rfl
@[simp] theorem State.later_dies (e : Event) : (s.later e).dies = s.dies := rfl
@[simp] theorem State.later_copies (e : Event) : (s.later e).copies = s.copies := rfl
@[simp] theorem State.later_orphans (e : Event) : (s.later e).orphans = s.orphans := rfl
@[simp] theorem State.later_mem (e : Event) : (s.later e).mem = s.mem := rfl
@[simp] theorem State.later_dirty (e : Event) : (s.later e).dirty = s.dirty := rfl
@[simp] theorem State.later_log (e : Event) : (s.later e).log = s.log := rfl
@[simp] theorem State.later_reds (e : Event) : (s.later e).reds = s.reds := rfl
@[simp] theorem State.later_heldLines (e : Event) : (s.later e).heldLines = s.heldLines := rfl
@[simp] theorem State.later_poisoned (e : Event) : (s.later e).poisoned = s.poisoned := rfl
@[simp] theorem State.later_keyed (e : Event) : (s.later e).keyed = s.keyed := rfl
@[simp] theorem State.later_ciphers (e : Event) : (s.later e).ciphers = s.ciphers := rfl
@[simp] theorem State.later_peers (e : Event) : (s.later e).peers = s.peers := rfl
@[simp] theorem State.later_peerPoison (e : Event) : (s.later e).peerPoison = s.peerPoison := rfl
@[simp] theorem State.later_pod (e : Event) : (s.later e).pod = s.pod := rfl
@[simp] theorem State.later_peerAsks (e : Event) : (s.later e).peerAsks = s.peerAsks := rfl
@[simp] theorem State.later_l1 (e : Event) : (s.later e).l1 = s.l1 := rfl
@[simp] theorem State.later_victims (e : Event) : (s.later e).victims = s.victims := rfl
@[simp] theorem State.later_slices (e : Event) : (s.later e).slices = s.slices := rfl
@[simp] theorem State.later_remap (e : Event) : (s.later e).remap = s.remap := rfl
@[simp] theorem State.later_tlb (e : Event) : (s.later e).tlb = s.tlb := rfl
@[simp] theorem State.later_migs (e : Event) : (s.later e).migs = s.migs := rfl
@[simp] theorem State.later_heldStores (e : Event) : (s.later e).heldStores = s.heldStores := rfl
@[simp] theorem State.later_heldEnds (e : Event) : (s.later e).heldEnds = s.heldEnds := rfl
@[simp] theorem State.later_cream (e : Event) : (s.later e).cream = s.cream := rfl
@[simp] theorem State.later_queues (e : Event) : (s.later e).queues = s.queues := rfl
@[simp] theorem State.later_children (e : Event) : (s.later e).children = s.children := rfl
@[simp] theorem State.later_front (e : Event) : (s.later e).front = s.front := rfl
@[simp] theorem State.later_rrPos (e : Event) : (s.later e).rrPos = s.rrPos := rfl
@[simp] theorem State.later_events (e : Event) : (s.later e).events = s.events := rfl
@[simp] theorem State.later_heldEvts (e : Event) : (s.later e).heldEvts = s.heldEvts := rfl
@[simp] theorem State.later_qlocks (e : Event) : (s.later e).qlocks = s.qlocks := rfl
@[simp] theorem State.later_contexts (e : Event) : (s.later e).contexts = s.contexts := rfl
@[simp] theorem State.later_resid (e : Event) : (s.later e).resid = s.resid := rfl
@[simp] theorem State.later_scripts (e : Event) : (s.later e).scripts = s.scripts := rfl
@[simp] theorem State.later_cmcOut (e : Event) : (s.later e).cmcOut = s.cmcOut := rfl
@[simp] theorem State.later_cpHalt (e : Event) : (s.later e).cpHalt = s.cpHalt := rfl
@[simp] theorem State.later_cmcEvent (e : Event) : (s.later e).cmcEvent = s.cmcEvent := rfl
@[simp] theorem State.later_cmcTrapNs (e : Event) : (s.later e).cmcTrapNs = s.cmcTrapNs := rfl
@[simp] theorem State.later_keySlots (e : Event) : (s.later e).keySlots = s.keySlots := rfl
@[simp] theorem State.later_package (e : Event) : (s.later e).package = s.package := rfl
@[simp] theorem State.later_tickets (e : Event) : (s.later e).tickets = s.tickets := rfl
@[simp] theorem State.later_clbs (e : Event) : (s.later e).clbs = s.clbs := rfl
@[simp] theorem State.later_ports (e : Event) : (s.later e).ports = s.ports := rfl
@[simp] theorem State.later_modules (e : Event) : (s.later e).modules = s.modules := rfl
@[simp] theorem State.later_drained (e : Event) : (s.later e).drained = s.drained := rfl
@[simp] theorem State.later_peerLinks (e : Event) : (s.later e).peerLinks = s.peerLinks := rfl
@[simp] theorem State.later_hellos (e : Event) : (s.later e).hellos = s.hellos := rfl
@[simp] theorem State.later_silent (e : Event) : (s.later e).silent = s.silent := rfl
@[simp] theorem State.later_sessions (e : Event) : (s.later e).sessions = s.sessions := rfl
@[simp] theorem State.later_wheyDrops (e : Event) : (s.later e).wheyDrops = s.wheyDrops := rfl
@[simp] theorem State.later_links (e : Event) : (s.later e).links = s.links := rfl
@[simp] theorem State.later_reqs (e : Event) : (s.later e).reqs = s.reqs := rfl
@[simp] theorem State.later_ras (e : Event) : (s.later e).ras = s.ras := rfl
@[simp] theorem State.later_boot (e : Event) : (s.later e).boot = s.boot := rfl
@[simp] theorem State.later_fw (e : Event) : (s.later e).fw = s.fw := rfl
@[simp] theorem State.later_power (e : Event) : (s.later e).power = s.power := rfl
@[simp] theorem State.later_ident (e : Event) : (s.later e).ident = s.ident := rfl
@[simp] theorem State.later_hostErr (e : Event) : (s.later e).hostErr = s.hostErr := rfl
@[simp] theorem State.later_hostShares (e : Event) : (s.later e).hostShares = s.hostShares := rfl
@[simp] theorem State.later_outbox (e : Event) : (s.later e).outbox = s.outbox := rfl

/-! ## State.soon -/

@[simp] theorem State.soon_agenda (e : Event) : (s.soon e).agenda = e :: s.agenda := rfl
@[simp] theorem State.soon_inputs (e : Event) : (s.soon e).inputs = s.inputs := rfl
@[simp] theorem State.soon_asker (e : Event) : (s.soon e).asker = s.asker := rfl
@[simp] theorem State.soon_chosen (e : Event) : (s.soon e).chosen = s.chosen := rfl
@[simp] theorem State.soon_cur (e : Event) : (s.soon e).cur = s.cur := rfl
@[simp] theorem State.soon_delays (e : Event) : (s.soon e).delays = s.delays := rfl
@[simp] theorem State.soon_hits (e : Event) : (s.soon e).hits = s.hits := rfl
@[simp] theorem State.soon_freeCtr (e : Event) : (s.soon e).freeCtr = s.freeCtr := rfl
@[simp] theorem State.soon_nextId (e : Event) : (s.soon e).nextId = s.nextId := rfl
@[simp] theorem State.soon_cycle (e : Event) : (s.soon e).cycle = s.cycle := rfl
@[simp] theorem State.soon_baseCycle (e : Event) : (s.soon e).baseCycle = s.baseCycle := rfl
@[simp] theorem State.soon_baseAcc (e : Event) : (s.soon e).baseAcc = s.baseAcc := rfl
@[simp] theorem State.soon_baseDue (e : Event) : (s.soon e).baseDue = s.baseDue := rfl
@[simp] theorem State.soon_timer (e : Event) : (s.soon e).timer = s.timer := rfl
@[simp] theorem State.soon_timerAcc (e : Event) : (s.soon e).timerAcc = s.timerAcc := rfl
@[simp] theorem State.soon_groups (e : Event) : (s.soon e).groups = s.groups := rfl
@[simp] theorem State.soon_teams (e : Event) : (s.soon e).teams = s.teams := rfl
@[simp] theorem State.soon_launches (e : Event) : (s.soon e).launches = s.launches := rfl
@[simp] theorem State.soon_ranges (e : Event) : (s.soon e).ranges = s.ranges := rfl
@[simp] theorem State.soon_ops (e : Event) : (s.soon e).ops = s.ops := rfl
@[simp] theorem State.soon_regsUsed (e : Event) : (s.soon e).regsUsed = s.regsUsed := rfl
@[simp] theorem State.soon_laneBusy (e : Event) : (s.soon e).laneBusy = s.laneBusy := rfl
@[simp] theorem State.soon_clusters (e : Event) : (s.soon e).clusters = s.clusters := rfl
@[simp] theorem State.soon_dies (e : Event) : (s.soon e).dies = s.dies := rfl
@[simp] theorem State.soon_copies (e : Event) : (s.soon e).copies = s.copies := rfl
@[simp] theorem State.soon_orphans (e : Event) : (s.soon e).orphans = s.orphans := rfl
@[simp] theorem State.soon_mem (e : Event) : (s.soon e).mem = s.mem := rfl
@[simp] theorem State.soon_dirty (e : Event) : (s.soon e).dirty = s.dirty := rfl
@[simp] theorem State.soon_log (e : Event) : (s.soon e).log = s.log := rfl
@[simp] theorem State.soon_reds (e : Event) : (s.soon e).reds = s.reds := rfl
@[simp] theorem State.soon_heldLines (e : Event) : (s.soon e).heldLines = s.heldLines := rfl
@[simp] theorem State.soon_poisoned (e : Event) : (s.soon e).poisoned = s.poisoned := rfl
@[simp] theorem State.soon_keyed (e : Event) : (s.soon e).keyed = s.keyed := rfl
@[simp] theorem State.soon_ciphers (e : Event) : (s.soon e).ciphers = s.ciphers := rfl
@[simp] theorem State.soon_peers (e : Event) : (s.soon e).peers = s.peers := rfl
@[simp] theorem State.soon_peerPoison (e : Event) : (s.soon e).peerPoison = s.peerPoison := rfl
@[simp] theorem State.soon_pod (e : Event) : (s.soon e).pod = s.pod := rfl
@[simp] theorem State.soon_peerAsks (e : Event) : (s.soon e).peerAsks = s.peerAsks := rfl
@[simp] theorem State.soon_l1 (e : Event) : (s.soon e).l1 = s.l1 := rfl
@[simp] theorem State.soon_victims (e : Event) : (s.soon e).victims = s.victims := rfl
@[simp] theorem State.soon_slices (e : Event) : (s.soon e).slices = s.slices := rfl
@[simp] theorem State.soon_remap (e : Event) : (s.soon e).remap = s.remap := rfl
@[simp] theorem State.soon_tlb (e : Event) : (s.soon e).tlb = s.tlb := rfl
@[simp] theorem State.soon_migs (e : Event) : (s.soon e).migs = s.migs := rfl
@[simp] theorem State.soon_heldStores (e : Event) : (s.soon e).heldStores = s.heldStores := rfl
@[simp] theorem State.soon_heldEnds (e : Event) : (s.soon e).heldEnds = s.heldEnds := rfl
@[simp] theorem State.soon_cream (e : Event) : (s.soon e).cream = s.cream := rfl
@[simp] theorem State.soon_queues (e : Event) : (s.soon e).queues = s.queues := rfl
@[simp] theorem State.soon_children (e : Event) : (s.soon e).children = s.children := rfl
@[simp] theorem State.soon_front (e : Event) : (s.soon e).front = s.front := rfl
@[simp] theorem State.soon_rrPos (e : Event) : (s.soon e).rrPos = s.rrPos := rfl
@[simp] theorem State.soon_events (e : Event) : (s.soon e).events = s.events := rfl
@[simp] theorem State.soon_heldEvts (e : Event) : (s.soon e).heldEvts = s.heldEvts := rfl
@[simp] theorem State.soon_qlocks (e : Event) : (s.soon e).qlocks = s.qlocks := rfl
@[simp] theorem State.soon_contexts (e : Event) : (s.soon e).contexts = s.contexts := rfl
@[simp] theorem State.soon_resid (e : Event) : (s.soon e).resid = s.resid := rfl
@[simp] theorem State.soon_scripts (e : Event) : (s.soon e).scripts = s.scripts := rfl
@[simp] theorem State.soon_cmcOut (e : Event) : (s.soon e).cmcOut = s.cmcOut := rfl
@[simp] theorem State.soon_cpHalt (e : Event) : (s.soon e).cpHalt = s.cpHalt := rfl
@[simp] theorem State.soon_cmcEvent (e : Event) : (s.soon e).cmcEvent = s.cmcEvent := rfl
@[simp] theorem State.soon_cmcTrapNs (e : Event) : (s.soon e).cmcTrapNs = s.cmcTrapNs := rfl
@[simp] theorem State.soon_keySlots (e : Event) : (s.soon e).keySlots = s.keySlots := rfl
@[simp] theorem State.soon_package (e : Event) : (s.soon e).package = s.package := rfl
@[simp] theorem State.soon_tickets (e : Event) : (s.soon e).tickets = s.tickets := rfl
@[simp] theorem State.soon_clbs (e : Event) : (s.soon e).clbs = s.clbs := rfl
@[simp] theorem State.soon_ports (e : Event) : (s.soon e).ports = s.ports := rfl
@[simp] theorem State.soon_modules (e : Event) : (s.soon e).modules = s.modules := rfl
@[simp] theorem State.soon_drained (e : Event) : (s.soon e).drained = s.drained := rfl
@[simp] theorem State.soon_peerLinks (e : Event) : (s.soon e).peerLinks = s.peerLinks := rfl
@[simp] theorem State.soon_hellos (e : Event) : (s.soon e).hellos = s.hellos := rfl
@[simp] theorem State.soon_silent (e : Event) : (s.soon e).silent = s.silent := rfl
@[simp] theorem State.soon_sessions (e : Event) : (s.soon e).sessions = s.sessions := rfl
@[simp] theorem State.soon_wheyDrops (e : Event) : (s.soon e).wheyDrops = s.wheyDrops := rfl
@[simp] theorem State.soon_links (e : Event) : (s.soon e).links = s.links := rfl
@[simp] theorem State.soon_reqs (e : Event) : (s.soon e).reqs = s.reqs := rfl
@[simp] theorem State.soon_ras (e : Event) : (s.soon e).ras = s.ras := rfl
@[simp] theorem State.soon_boot (e : Event) : (s.soon e).boot = s.boot := rfl
@[simp] theorem State.soon_fw (e : Event) : (s.soon e).fw = s.fw := rfl
@[simp] theorem State.soon_power (e : Event) : (s.soon e).power = s.power := rfl
@[simp] theorem State.soon_ident (e : Event) : (s.soon e).ident = s.ident := rfl
@[simp] theorem State.soon_hostErr (e : Event) : (s.soon e).hostErr = s.hostErr := rfl
@[simp] theorem State.soon_hostShares (e : Event) : (s.soon e).hostShares = s.hostShares := rfl
@[simp] theorem State.soon_outbox (e : Event) : (s.soon e).outbox = s.outbox := rfl

/-! ## State.send -/

@[simp] theorem State.send_agenda (x : Sent) : (s.send x).agenda = s.agenda := rfl
@[simp] theorem State.send_inputs (x : Sent) : (s.send x).inputs = s.inputs := rfl
@[simp] theorem State.send_asker (x : Sent) : (s.send x).asker = s.asker := rfl
@[simp] theorem State.send_chosen (x : Sent) : (s.send x).chosen = s.chosen := rfl
@[simp] theorem State.send_cur (x : Sent) : (s.send x).cur = s.cur := rfl
@[simp] theorem State.send_delays (x : Sent) : (s.send x).delays = s.delays := rfl
@[simp] theorem State.send_hits (x : Sent) : (s.send x).hits = s.hits := rfl
@[simp] theorem State.send_freeCtr (x : Sent) : (s.send x).freeCtr = s.freeCtr := rfl
@[simp] theorem State.send_nextId (x : Sent) : (s.send x).nextId = s.nextId := rfl
@[simp] theorem State.send_cycle (x : Sent) : (s.send x).cycle = s.cycle := rfl
@[simp] theorem State.send_baseCycle (x : Sent) : (s.send x).baseCycle = s.baseCycle := rfl
@[simp] theorem State.send_baseAcc (x : Sent) : (s.send x).baseAcc = s.baseAcc := rfl
@[simp] theorem State.send_baseDue (x : Sent) : (s.send x).baseDue = s.baseDue := rfl
@[simp] theorem State.send_timer (x : Sent) : (s.send x).timer = s.timer := rfl
@[simp] theorem State.send_timerAcc (x : Sent) : (s.send x).timerAcc = s.timerAcc := rfl
@[simp] theorem State.send_groups (x : Sent) : (s.send x).groups = s.groups := rfl
@[simp] theorem State.send_teams (x : Sent) : (s.send x).teams = s.teams := rfl
@[simp] theorem State.send_launches (x : Sent) : (s.send x).launches = s.launches := rfl
@[simp] theorem State.send_ranges (x : Sent) : (s.send x).ranges = s.ranges := rfl
@[simp] theorem State.send_ops (x : Sent) : (s.send x).ops = s.ops := rfl
@[simp] theorem State.send_regsUsed (x : Sent) : (s.send x).regsUsed = s.regsUsed := rfl
@[simp] theorem State.send_laneBusy (x : Sent) : (s.send x).laneBusy = s.laneBusy := rfl
@[simp] theorem State.send_clusters (x : Sent) : (s.send x).clusters = s.clusters := rfl
@[simp] theorem State.send_dies (x : Sent) : (s.send x).dies = s.dies := rfl
@[simp] theorem State.send_copies (x : Sent) : (s.send x).copies = s.copies := rfl
@[simp] theorem State.send_orphans (x : Sent) : (s.send x).orphans = s.orphans := rfl
@[simp] theorem State.send_mem (x : Sent) : (s.send x).mem = s.mem := rfl
@[simp] theorem State.send_dirty (x : Sent) : (s.send x).dirty = s.dirty := rfl
@[simp] theorem State.send_log (x : Sent) : (s.send x).log = s.log := rfl
@[simp] theorem State.send_reds (x : Sent) : (s.send x).reds = s.reds := rfl
@[simp] theorem State.send_heldLines (x : Sent) : (s.send x).heldLines = s.heldLines := rfl
@[simp] theorem State.send_poisoned (x : Sent) : (s.send x).poisoned = s.poisoned := rfl
@[simp] theorem State.send_keyed (x : Sent) : (s.send x).keyed = s.keyed := rfl
@[simp] theorem State.send_ciphers (x : Sent) : (s.send x).ciphers = s.ciphers := rfl
@[simp] theorem State.send_peers (x : Sent) : (s.send x).peers = s.peers := rfl
@[simp] theorem State.send_peerPoison (x : Sent) : (s.send x).peerPoison = s.peerPoison := rfl
@[simp] theorem State.send_pod (x : Sent) : (s.send x).pod = s.pod := rfl
@[simp] theorem State.send_peerAsks (x : Sent) : (s.send x).peerAsks = s.peerAsks := rfl
@[simp] theorem State.send_l1 (x : Sent) : (s.send x).l1 = s.l1 := rfl
@[simp] theorem State.send_victims (x : Sent) : (s.send x).victims = s.victims := rfl
@[simp] theorem State.send_slices (x : Sent) : (s.send x).slices = s.slices := rfl
@[simp] theorem State.send_remap (x : Sent) : (s.send x).remap = s.remap := rfl
@[simp] theorem State.send_tlb (x : Sent) : (s.send x).tlb = s.tlb := rfl
@[simp] theorem State.send_migs (x : Sent) : (s.send x).migs = s.migs := rfl
@[simp] theorem State.send_heldStores (x : Sent) : (s.send x).heldStores = s.heldStores := rfl
@[simp] theorem State.send_heldEnds (x : Sent) : (s.send x).heldEnds = s.heldEnds := rfl
@[simp] theorem State.send_cream (x : Sent) : (s.send x).cream = s.cream := rfl
@[simp] theorem State.send_queues (x : Sent) : (s.send x).queues = s.queues := rfl
@[simp] theorem State.send_children (x : Sent) : (s.send x).children = s.children := rfl
@[simp] theorem State.send_front (x : Sent) : (s.send x).front = s.front := rfl
@[simp] theorem State.send_rrPos (x : Sent) : (s.send x).rrPos = s.rrPos := rfl
@[simp] theorem State.send_events (x : Sent) : (s.send x).events = s.events := rfl
@[simp] theorem State.send_heldEvts (x : Sent) : (s.send x).heldEvts = s.heldEvts := rfl
@[simp] theorem State.send_qlocks (x : Sent) : (s.send x).qlocks = s.qlocks := rfl
@[simp] theorem State.send_contexts (x : Sent) : (s.send x).contexts = s.contexts := rfl
@[simp] theorem State.send_resid (x : Sent) : (s.send x).resid = s.resid := rfl
@[simp] theorem State.send_scripts (x : Sent) : (s.send x).scripts = s.scripts := rfl
@[simp] theorem State.send_cmcOut (x : Sent) : (s.send x).cmcOut = s.cmcOut := rfl
@[simp] theorem State.send_cpHalt (x : Sent) : (s.send x).cpHalt = s.cpHalt := rfl
@[simp] theorem State.send_cmcEvent (x : Sent) : (s.send x).cmcEvent = s.cmcEvent := rfl
@[simp] theorem State.send_cmcTrapNs (x : Sent) : (s.send x).cmcTrapNs = s.cmcTrapNs := rfl
@[simp] theorem State.send_keySlots (x : Sent) : (s.send x).keySlots = s.keySlots := rfl
@[simp] theorem State.send_package (x : Sent) : (s.send x).package = s.package := rfl
@[simp] theorem State.send_tickets (x : Sent) : (s.send x).tickets = s.tickets := rfl
@[simp] theorem State.send_clbs (x : Sent) : (s.send x).clbs = s.clbs := rfl
@[simp] theorem State.send_ports (x : Sent) : (s.send x).ports = s.ports := rfl
@[simp] theorem State.send_modules (x : Sent) : (s.send x).modules = s.modules := rfl
@[simp] theorem State.send_drained (x : Sent) : (s.send x).drained = s.drained := rfl
@[simp] theorem State.send_peerLinks (x : Sent) : (s.send x).peerLinks = s.peerLinks := rfl
@[simp] theorem State.send_hellos (x : Sent) : (s.send x).hellos = s.hellos := rfl
@[simp] theorem State.send_silent (x : Sent) : (s.send x).silent = s.silent := rfl
@[simp] theorem State.send_sessions (x : Sent) : (s.send x).sessions = s.sessions := rfl
@[simp] theorem State.send_wheyDrops (x : Sent) : (s.send x).wheyDrops = s.wheyDrops := rfl
@[simp] theorem State.send_links (x : Sent) : (s.send x).links = s.links := rfl
@[simp] theorem State.send_reqs (x : Sent) : (s.send x).reqs = s.reqs := rfl
@[simp] theorem State.send_ras (x : Sent) : (s.send x).ras = s.ras := rfl
@[simp] theorem State.send_boot (x : Sent) : (s.send x).boot = s.boot := rfl
@[simp] theorem State.send_fw (x : Sent) : (s.send x).fw = s.fw := rfl
@[simp] theorem State.send_power (x : Sent) : (s.send x).power = s.power := rfl
@[simp] theorem State.send_ident (x : Sent) : (s.send x).ident = s.ident := rfl
@[simp] theorem State.send_hostErr (x : Sent) : (s.send x).hostErr = s.hostErr := rfl
@[simp] theorem State.send_hostShares (x : Sent) : (s.send x).hostShares = s.hostShares := rfl
@[simp] theorem State.send_outbox (x : Sent) : (s.send x).outbox = s.outbox ++ [x] := rfl

/-! ## State.modGroup -/

@[simp] theorem State.modGroup_agenda (k : Nat) (f : Group → Group) : (s.modGroup k f).agenda = s.agenda := by
  unfold State.modGroup; split <;> rfl
@[simp] theorem State.modGroup_inputs (k : Nat) (f : Group → Group) : (s.modGroup k f).inputs = s.inputs := by
  unfold State.modGroup; split <;> rfl
@[simp] theorem State.modGroup_asker (k : Nat) (f : Group → Group) : (s.modGroup k f).asker = s.asker := by
  unfold State.modGroup; split <;> rfl
@[simp] theorem State.modGroup_chosen (k : Nat) (f : Group → Group) : (s.modGroup k f).chosen = s.chosen := by
  unfold State.modGroup; split <;> rfl
@[simp] theorem State.modGroup_cur (k : Nat) (f : Group → Group) : (s.modGroup k f).cur = s.cur := by
  unfold State.modGroup; split <;> rfl
@[simp] theorem State.modGroup_delays (k : Nat) (f : Group → Group) : (s.modGroup k f).delays = s.delays := by
  unfold State.modGroup; split <;> rfl
@[simp] theorem State.modGroup_hits (k : Nat) (f : Group → Group) : (s.modGroup k f).hits = s.hits := by
  unfold State.modGroup; split <;> rfl
@[simp] theorem State.modGroup_freeCtr (k : Nat) (f : Group → Group) : (s.modGroup k f).freeCtr = s.freeCtr := by
  unfold State.modGroup; split <;> rfl
@[simp] theorem State.modGroup_nextId (k : Nat) (f : Group → Group) : (s.modGroup k f).nextId = s.nextId := by
  unfold State.modGroup; split <;> rfl
@[simp] theorem State.modGroup_cycle (k : Nat) (f : Group → Group) : (s.modGroup k f).cycle = s.cycle := by
  unfold State.modGroup; split <;> rfl
@[simp] theorem State.modGroup_baseCycle (k : Nat) (f : Group → Group) : (s.modGroup k f).baseCycle = s.baseCycle := by
  unfold State.modGroup; split <;> rfl
@[simp] theorem State.modGroup_baseAcc (k : Nat) (f : Group → Group) : (s.modGroup k f).baseAcc = s.baseAcc := by
  unfold State.modGroup; split <;> rfl
@[simp] theorem State.modGroup_baseDue (k : Nat) (f : Group → Group) : (s.modGroup k f).baseDue = s.baseDue := by
  unfold State.modGroup; split <;> rfl
@[simp] theorem State.modGroup_timer (k : Nat) (f : Group → Group) : (s.modGroup k f).timer = s.timer := by
  unfold State.modGroup; split <;> rfl
@[simp] theorem State.modGroup_timerAcc (k : Nat) (f : Group → Group) : (s.modGroup k f).timerAcc = s.timerAcc := by
  unfold State.modGroup; split <;> rfl
@[simp] theorem State.modGroup_teams (k : Nat) (f : Group → Group) : (s.modGroup k f).teams = s.teams := by
  unfold State.modGroup; split <;> rfl
@[simp] theorem State.modGroup_launches (k : Nat) (f : Group → Group) : (s.modGroup k f).launches = s.launches := by
  unfold State.modGroup; split <;> rfl
@[simp] theorem State.modGroup_ranges (k : Nat) (f : Group → Group) : (s.modGroup k f).ranges = s.ranges := by
  unfold State.modGroup; split <;> rfl
@[simp] theorem State.modGroup_ops (k : Nat) (f : Group → Group) : (s.modGroup k f).ops = s.ops := by
  unfold State.modGroup; split <;> rfl
@[simp] theorem State.modGroup_regsUsed (k : Nat) (f : Group → Group) : (s.modGroup k f).regsUsed = s.regsUsed := by
  unfold State.modGroup; split <;> rfl
@[simp] theorem State.modGroup_laneBusy (k : Nat) (f : Group → Group) : (s.modGroup k f).laneBusy = s.laneBusy := by
  unfold State.modGroup; split <;> rfl
@[simp] theorem State.modGroup_clusters (k : Nat) (f : Group → Group) : (s.modGroup k f).clusters = s.clusters := by
  unfold State.modGroup; split <;> rfl
@[simp] theorem State.modGroup_dies (k : Nat) (f : Group → Group) : (s.modGroup k f).dies = s.dies := by
  unfold State.modGroup; split <;> rfl
@[simp] theorem State.modGroup_copies (k : Nat) (f : Group → Group) : (s.modGroup k f).copies = s.copies := by
  unfold State.modGroup; split <;> rfl
@[simp] theorem State.modGroup_orphans (k : Nat) (f : Group → Group) : (s.modGroup k f).orphans = s.orphans := by
  unfold State.modGroup; split <;> rfl
@[simp] theorem State.modGroup_mem (k : Nat) (f : Group → Group) : (s.modGroup k f).mem = s.mem := by
  unfold State.modGroup; split <;> rfl
@[simp] theorem State.modGroup_dirty (k : Nat) (f : Group → Group) : (s.modGroup k f).dirty = s.dirty := by
  unfold State.modGroup; split <;> rfl
@[simp] theorem State.modGroup_log (k : Nat) (f : Group → Group) : (s.modGroup k f).log = s.log := by
  unfold State.modGroup; split <;> rfl
@[simp] theorem State.modGroup_reds (k : Nat) (f : Group → Group) : (s.modGroup k f).reds = s.reds := by
  unfold State.modGroup; split <;> rfl
@[simp] theorem State.modGroup_heldLines (k : Nat) (f : Group → Group) : (s.modGroup k f).heldLines = s.heldLines := by
  unfold State.modGroup; split <;> rfl
@[simp] theorem State.modGroup_poisoned (k : Nat) (f : Group → Group) : (s.modGroup k f).poisoned = s.poisoned := by
  unfold State.modGroup; split <;> rfl
@[simp] theorem State.modGroup_keyed (k : Nat) (f : Group → Group) : (s.modGroup k f).keyed = s.keyed := by
  unfold State.modGroup; split <;> rfl
@[simp] theorem State.modGroup_ciphers (k : Nat) (f : Group → Group) : (s.modGroup k f).ciphers = s.ciphers := by
  unfold State.modGroup; split <;> rfl
@[simp] theorem State.modGroup_peers (k : Nat) (f : Group → Group) : (s.modGroup k f).peers = s.peers := by
  unfold State.modGroup; split <;> rfl
@[simp] theorem State.modGroup_peerPoison (k : Nat) (f : Group → Group) : (s.modGroup k f).peerPoison = s.peerPoison := by
  unfold State.modGroup; split <;> rfl
@[simp] theorem State.modGroup_pod (k : Nat) (f : Group → Group) : (s.modGroup k f).pod = s.pod := by
  unfold State.modGroup; split <;> rfl
@[simp] theorem State.modGroup_peerAsks (k : Nat) (f : Group → Group) : (s.modGroup k f).peerAsks = s.peerAsks := by
  unfold State.modGroup; split <;> rfl
@[simp] theorem State.modGroup_l1 (k : Nat) (f : Group → Group) : (s.modGroup k f).l1 = s.l1 := by
  unfold State.modGroup; split <;> rfl
@[simp] theorem State.modGroup_victims (k : Nat) (f : Group → Group) : (s.modGroup k f).victims = s.victims := by
  unfold State.modGroup; split <;> rfl
@[simp] theorem State.modGroup_slices (k : Nat) (f : Group → Group) : (s.modGroup k f).slices = s.slices := by
  unfold State.modGroup; split <;> rfl
@[simp] theorem State.modGroup_remap (k : Nat) (f : Group → Group) : (s.modGroup k f).remap = s.remap := by
  unfold State.modGroup; split <;> rfl
@[simp] theorem State.modGroup_tlb (k : Nat) (f : Group → Group) : (s.modGroup k f).tlb = s.tlb := by
  unfold State.modGroup; split <;> rfl
@[simp] theorem State.modGroup_migs (k : Nat) (f : Group → Group) : (s.modGroup k f).migs = s.migs := by
  unfold State.modGroup; split <;> rfl
@[simp] theorem State.modGroup_heldStores (k : Nat) (f : Group → Group) : (s.modGroup k f).heldStores = s.heldStores := by
  unfold State.modGroup; split <;> rfl
@[simp] theorem State.modGroup_heldEnds (k : Nat) (f : Group → Group) : (s.modGroup k f).heldEnds = s.heldEnds := by
  unfold State.modGroup; split <;> rfl
@[simp] theorem State.modGroup_cream (k : Nat) (f : Group → Group) : (s.modGroup k f).cream = s.cream := by
  unfold State.modGroup; split <;> rfl
@[simp] theorem State.modGroup_queues (k : Nat) (f : Group → Group) : (s.modGroup k f).queues = s.queues := by
  unfold State.modGroup; split <;> rfl
@[simp] theorem State.modGroup_children (k : Nat) (f : Group → Group) : (s.modGroup k f).children = s.children := by
  unfold State.modGroup; split <;> rfl
@[simp] theorem State.modGroup_front (k : Nat) (f : Group → Group) : (s.modGroup k f).front = s.front := by
  unfold State.modGroup; split <;> rfl
@[simp] theorem State.modGroup_rrPos (k : Nat) (f : Group → Group) : (s.modGroup k f).rrPos = s.rrPos := by
  unfold State.modGroup; split <;> rfl
@[simp] theorem State.modGroup_events (k : Nat) (f : Group → Group) : (s.modGroup k f).events = s.events := by
  unfold State.modGroup; split <;> rfl
@[simp] theorem State.modGroup_heldEvts (k : Nat) (f : Group → Group) : (s.modGroup k f).heldEvts = s.heldEvts := by
  unfold State.modGroup; split <;> rfl
@[simp] theorem State.modGroup_qlocks (k : Nat) (f : Group → Group) : (s.modGroup k f).qlocks = s.qlocks := by
  unfold State.modGroup; split <;> rfl
@[simp] theorem State.modGroup_contexts (k : Nat) (f : Group → Group) : (s.modGroup k f).contexts = s.contexts := by
  unfold State.modGroup; split <;> rfl
@[simp] theorem State.modGroup_resid (k : Nat) (f : Group → Group) : (s.modGroup k f).resid = s.resid := by
  unfold State.modGroup; split <;> rfl
@[simp] theorem State.modGroup_scripts (k : Nat) (f : Group → Group) : (s.modGroup k f).scripts = s.scripts := by
  unfold State.modGroup; split <;> rfl
@[simp] theorem State.modGroup_cmcOut (k : Nat) (f : Group → Group) : (s.modGroup k f).cmcOut = s.cmcOut := by
  unfold State.modGroup; split <;> rfl
@[simp] theorem State.modGroup_cpHalt (k : Nat) (f : Group → Group) : (s.modGroup k f).cpHalt = s.cpHalt := by
  unfold State.modGroup; split <;> rfl
@[simp] theorem State.modGroup_cmcEvent (k : Nat) (f : Group → Group) : (s.modGroup k f).cmcEvent = s.cmcEvent := by
  unfold State.modGroup; split <;> rfl
@[simp] theorem State.modGroup_cmcTrapNs (k : Nat) (f : Group → Group) : (s.modGroup k f).cmcTrapNs = s.cmcTrapNs := by
  unfold State.modGroup; split <;> rfl
@[simp] theorem State.modGroup_keySlots (k : Nat) (f : Group → Group) : (s.modGroup k f).keySlots = s.keySlots := by
  unfold State.modGroup; split <;> rfl
@[simp] theorem State.modGroup_package (k : Nat) (f : Group → Group) : (s.modGroup k f).package = s.package := by
  unfold State.modGroup; split <;> rfl
@[simp] theorem State.modGroup_tickets (k : Nat) (f : Group → Group) : (s.modGroup k f).tickets = s.tickets := by
  unfold State.modGroup; split <;> rfl
@[simp] theorem State.modGroup_clbs (k : Nat) (f : Group → Group) : (s.modGroup k f).clbs = s.clbs := by
  unfold State.modGroup; split <;> rfl
@[simp] theorem State.modGroup_ports (k : Nat) (f : Group → Group) : (s.modGroup k f).ports = s.ports := by
  unfold State.modGroup; split <;> rfl
@[simp] theorem State.modGroup_modules (k : Nat) (f : Group → Group) : (s.modGroup k f).modules = s.modules := by
  unfold State.modGroup; split <;> rfl
@[simp] theorem State.modGroup_drained (k : Nat) (f : Group → Group) : (s.modGroup k f).drained = s.drained := by
  unfold State.modGroup; split <;> rfl
@[simp] theorem State.modGroup_peerLinks (k : Nat) (f : Group → Group) : (s.modGroup k f).peerLinks = s.peerLinks := by
  unfold State.modGroup; split <;> rfl
@[simp] theorem State.modGroup_hellos (k : Nat) (f : Group → Group) : (s.modGroup k f).hellos = s.hellos := by
  unfold State.modGroup; split <;> rfl
@[simp] theorem State.modGroup_silent (k : Nat) (f : Group → Group) : (s.modGroup k f).silent = s.silent := by
  unfold State.modGroup; split <;> rfl
@[simp] theorem State.modGroup_sessions (k : Nat) (f : Group → Group) : (s.modGroup k f).sessions = s.sessions := by
  unfold State.modGroup; split <;> rfl
@[simp] theorem State.modGroup_wheyDrops (k : Nat) (f : Group → Group) : (s.modGroup k f).wheyDrops = s.wheyDrops := by
  unfold State.modGroup; split <;> rfl
@[simp] theorem State.modGroup_links (k : Nat) (f : Group → Group) : (s.modGroup k f).links = s.links := by
  unfold State.modGroup; split <;> rfl
@[simp] theorem State.modGroup_reqs (k : Nat) (f : Group → Group) : (s.modGroup k f).reqs = s.reqs := by
  unfold State.modGroup; split <;> rfl
@[simp] theorem State.modGroup_ras (k : Nat) (f : Group → Group) : (s.modGroup k f).ras = s.ras := by
  unfold State.modGroup; split <;> rfl
@[simp] theorem State.modGroup_boot (k : Nat) (f : Group → Group) : (s.modGroup k f).boot = s.boot := by
  unfold State.modGroup; split <;> rfl
@[simp] theorem State.modGroup_fw (k : Nat) (f : Group → Group) : (s.modGroup k f).fw = s.fw := by
  unfold State.modGroup; split <;> rfl
@[simp] theorem State.modGroup_power (k : Nat) (f : Group → Group) : (s.modGroup k f).power = s.power := by
  unfold State.modGroup; split <;> rfl
@[simp] theorem State.modGroup_ident (k : Nat) (f : Group → Group) : (s.modGroup k f).ident = s.ident := by
  unfold State.modGroup; split <;> rfl
@[simp] theorem State.modGroup_hostErr (k : Nat) (f : Group → Group) : (s.modGroup k f).hostErr = s.hostErr := by
  unfold State.modGroup; split <;> rfl
@[simp] theorem State.modGroup_hostShares (k : Nat) (f : Group → Group) : (s.modGroup k f).hostShares = s.hostShares := by
  unfold State.modGroup; split <;> rfl
@[simp] theorem State.modGroup_outbox (k : Nat) (f : Group → Group) : (s.modGroup k f).outbox = s.outbox := by
  unfold State.modGroup; split <;> rfl

/-- A resident group changed. -/
theorem State.modGroup_some {k : Nat} {g : Group} (f : Group → Group) (h : mapGet? s.groups k = some g) :
    s.modGroup k f = s.setGroup k (f g) := by simp [State.modGroup, h]

/-- A group read where it was put. -/
@[simp] theorem State.group_setGroup_self (k : Nat) (g : Group) : (s.setGroup k g).group k = g := by
  simp [State.group, State.setGroup]

/-- A group put elsewhere leaves the others. -/
theorem State.group_setGroup_ne {k n : Nat} (g : Group) (h : n ≠ k) : (s.setGroup k g).group n = s.group n := by
  simp only [State.group, State.setGroup, mapGet, mapGet?_mapSet_ne s.groups g h]

/-- A changed group read back. -/
theorem State.group_modGroup_self {k : Nat} (f : Group → Group) (h : (mapGet? s.groups k).isSome) :
    (s.modGroup k f).group k = f (s.group k) := by
  obtain ⟨g, hg⟩ := Option.isSome_iff_exists.mp h
  rw [State.modGroup_some s f hg]
  simp [State.group, State.setGroup, mapGet, hg]

/-- A changed group leaves the others. -/
theorem State.group_modGroup_ne {k n : Nat} (f : Group → Group) (h : n ≠ k) : (s.modGroup k f).group n = s.group n := by
  unfold State.modGroup
  split
  · exact State.group_setGroup_ne s _ h
  · rfl

@[simp] theorem State.queue_setQueue_self (k : Nat) (x : Queue) : (s.setQueue k x).queue k = x := by
  simp [State.queue, State.setQueue]

@[simp] theorem State.port_setPort_self (k : Nat) (x : Port) : (s.setPort k x).port k = x := by
  simp [State.port, State.setPort]

@[simp] theorem State.ticket_setTicket_self (k : Nat) (x : Ticket) : (s.setTicket k x).ticket k = x := by
  simp [State.ticket, State.setTicket]

@[simp] theorem State.session_setSession_self (k : Nat) (x : Session) : (s.setSession k x).session k = x := by
  simp [State.session, State.setSession]

@[simp] theorem State.die_setDie_self (k : Nat) (x : Die) : (s.setDie k x).die k = x := by
  simp [State.die, State.setDie]

@[simp] theorem State.cluster_setCluster_self (k : Nat) (x : Cluster) : (s.setCluster k x).cluster k = x := by
  simp [State.cluster, State.setCluster]

end Sys2Proof.Machine
end

