-- ==== Sys2Proof/Laws/Issue.lean ====
section
/-! SUPPORT. What issuing a word can do, said once (spec/02 R30-R44): the cases of `issueWord`, one lemma for each, and the
converse; what the link steps of a word without return-stack accesses do; and what a step can be. -/

namespace Sys2Proof.Machine

variable {i : Instr} {act : State → Ctx → Act} {s s' : State} {c : Ctx}

/-! ## The cases of `issueWord` -/

/-- A word that passes the gate and whose meaning answers an effect issues with it. -/
theorem issueWord_go {e : Effect} (hi : i.info = some c.info) (hc : c = s.ctx c.info)
    (hg : (mapGet? s.groups s.cur.group).isSome = true) (h : gate s c = .pass)
    (hl : linkSteps c (linkAccesses s c) s = .ok s') (ha : c.active ≠ 0#32) (hact : act s c = .go e) :
    issueWord i act s = .next (s'.issue c e) := by
  obtain ⟨g, hg⟩ := Option.isSome_iff_exists.1 hg
  simp only [issueWord, hi, hg, ← hc, h, hl, ha, hact, if_false]

/-- A word that passes the gate with no active lane issues with nothing to do in any lane. -/
theorem issueWord_idle (hi : i.info = some c.info) (hc : c = s.ctx c.info)
    (hg : (mapGet? s.groups s.cur.group).isSome = true) (h : gate s c = .pass)
    (hl : linkSteps c (linkAccesses s c) s = .ok s') (ha : c.active = 0#32) :
    issueWord i act s = .next (s'.issue c (idle c)) := by
  obtain ⟨g, hg⟩ := Option.isSome_iff_exists.1 hg
  simp only [issueWord, hi, hg, ← hc, h, hl, ha, if_true]

/-- A word that passes the gate and whose meaning is a precise trap takes it at its own address, or notes it while an
older operation of its group can still fault. -/
theorem issueWord_trap {x : BitVec 8} {d : Word} (hi : i.info = some c.info) (hc : c = s.ctx c.info)
    (hg : (mapGet? s.groups s.cur.group).isSome = true) (h : gate s c = .pass)
    (hl : linkSteps c (linkAccesses s c) s = .ok s') (ha : c.active ≠ 0#32) (hact : act s c = .trap x d) :
    issueWord i act s = .next (if olderFaults s c then s.deferTrap c x d else s.trapAt c x d) := by
  obtain ⟨g, hg⟩ := Option.isSome_iff_exists.1 hg
  simp only [issueWord, hi, hg, ← hc, h, hl, ha, hact, if_false]

/-- A word that the gate holds changes nothing. -/
theorem issueWord_hold (hi : i.info = some c.info) (hc : c = s.ctx c.info)
    (hg : (mapGet? s.groups s.cur.group).isSome = true) (h : gate s c = .hold) : issueWord i act s = .next s := by
  obtain ⟨g, hg⟩ := Option.isSome_iff_exists.1 hg
  simp only [issueWord, hi, hg, ← hc, h]

/-- A word that traps at the gate takes the trap at its own address. -/
theorem issueWord_gateTrap {x : BitVec 8} {d : Word} (hi : i.info = some c.info) (hc : c = s.ctx c.info)
    (hg : (mapGet? s.groups s.cur.group).isSome = true) (h : gate s c = .trap x d) :
    issueWord i act s = .next (s.trapAt c x d) := by
  obtain ⟨g, hg⟩ := Option.isSome_iff_exists.1 hg
  simp only [issueWord, hi, hg, ← hc, h]

/-- A word whose trap at the gate waits for older accesses notes it. -/
theorem issueWord_gateDefer {x : BitVec 8} {d : Word} (hi : i.info = some c.info) (hc : c = s.ctx c.info)
    (hg : (mapGet? s.groups s.cur.group).isSome = true) (h : gate s c = .defer x d) :
    issueWord i act s = .next (s.deferTrap c x d) := by
  obtain ⟨g, hg⟩ := Option.isSome_iff_exists.1 hg
  simp only [issueWord, hi, hg, ← hc, h]

/-- A word that would read poison ends its group's team. -/
theorem issueWord_gatePoison (hi : i.info = some c.info) (hc : c = s.ctx c.info)
    (hg : (mapGet? s.groups s.cur.group).isSome = true) (h : gate s c = .poison) :
    issueWord i act s = .next (s.consumePoison c.key) := by
  obtain ⟨g, hg⟩ := Option.isSome_iff_exists.1 hg
  simp only [issueWord, hi, hg, ← hc, h]

/-- A word barred from a transaction aborts the lanes that are in one. -/
theorem issueWord_abort {m : LaneMask} (hi : i.info = some c.info) (hc : c = s.ctx c.info)
    (hg : (mapGet? s.groups s.cur.group).isSome = true) (h : gate s c = .abort m) :
    issueWord i act s = .next (s.abortBarred c m) := by
  obtain ⟨g, hg⟩ := Option.isSome_iff_exists.1 hg
  simp only [issueWord, hi, hg, ← hc, h]

/-- All that a word whose group is there can do: it is held, traps or notes a trap, reads poison, aborts barred lanes,
faults on a link access, or issues. -/
theorem issueWord_cases {info : Info} (hi : i.info = some info) (hg : (mapGet? s.groups s.cur.group).isSome = true) :
    let c := s.ctx info
    issueWord i act s = .next s
    ∨ (∃ x d, gate s c = .trap x d ∧ issueWord i act s = .next (s.trapAt c x d))
    ∨ (∃ x d, issueWord i act s = .next (s.deferTrap c x d))
    ∨ issueWord i act s = .next (s.consumePoison c.key)
    ∨ (∃ m, gate s c = .abort m ∧ issueWord i act s = .next (s.abortBarred c m))
    ∨ gate s c = .pass ∧
      ((∃ t, linkSteps c (linkAccesses s c) s = .fault t ∧ issueWord i act s = .next t)
      ∨ (∃ t, linkSteps c (linkAccesses s c) s = .ok t ∧ c.active = 0#32
        ∧ issueWord i act s = .next (t.issue c (idle c)))
      ∨ (∃ t x d, linkSteps c (linkAccesses s c) s = .ok t ∧ c.active ≠ 0#32 ∧ act s c = .trap x d
        ∧ olderFaults s c = false ∧ issueWord i act s = .next (s.trapAt c x d))
      ∨ ∃ t e, linkSteps c (linkAccesses s c) s = .ok t ∧ c.active ≠ 0#32 ∧ act s c = .go e
        ∧ issueWord i act s = .next (t.issue c e)) := by
  intro c
  have hi' : i.info = some c.info := hi
  have step : ∀ {o : LinkAct}, gate s c = .pass → linkSteps c (linkAccesses s c) s = o →
      issueWord i act s = match o with
        | .hold => .next s
        | .fault t => .next t
        | .poison => .next (s.consumePoison c.key)
        | .ok t => if c.active = 0#32 then .next (t.issue c (idle c)) else match act s c with
          | .trap x d => .next (if olderFaults s c then s.deferTrap c x d else s.trapAt c x d)
          | .poison => .next (s.consumePoison c.key)
          | .go e => .next (t.issue c e) := by
    intro o h hl
    subst hl
    obtain ⟨g, hg⟩ := Option.isSome_iff_exists.1 hg
    simp only [issueWord, hi, hg, show s.ctx info = c from rfl, h]
    all_goals rfl
  cases h : gate s c with
  | hold => exact .inl (issueWord_hold hi' rfl hg h)
  | trap x d => exact .inr (.inl ⟨x, d, rfl, issueWord_gateTrap hi' rfl hg h⟩)
  | defer x d => exact .inr (.inr (.inl ⟨x, d, issueWord_gateDefer hi' rfl hg h⟩))
  | poison => exact .inr (.inr (.inr (.inl (issueWord_gatePoison hi' rfl hg h))))
  | abort m => exact .inr (.inr (.inr (.inr (.inl ⟨m, rfl, issueWord_abort hi' rfl hg h⟩))))
  | pass =>
    cases hl : linkSteps c (linkAccesses s c) s with
    | hold => exact .inl (step h hl)
    | fault t => exact .inr (.inr (.inr (.inr (.inr ⟨rfl, .inl ⟨t, rfl, step h hl⟩⟩))))
    | poison => exact .inr (.inr (.inr (.inl (step h hl))))
    | ok t =>
      have h' := step h hl
      by_cases ha : c.active = 0#32
      · exact .inr (.inr (.inr (.inr (.inr ⟨rfl, .inr (.inl ⟨t, rfl, ha, issueWord_idle hi' rfl hg h hl ha⟩)⟩))))
      · cases hact : act s c with
        | trap x d =>
          have h' := issueWord_trap hi' rfl hg h hl ha hact
          cases ho : olderFaults s c with
          | true => exact .inr (.inr (.inl ⟨x, d, by rw [h', ho]; rfl⟩))
          | false =>
            exact .inr (.inr (.inr (.inr (.inr
              ⟨rfl, .inr (.inr (.inl ⟨t, x, d, rfl, ha, rfl, rfl, by rw [h', ho]; rfl⟩))⟩))))
        | poison => exact .inr (.inr (.inr (.inl (by rw [h', hact]; simp only [if_neg ha]))))
        | go e =>
          exact .inr (.inr (.inr (.inr (.inr
            ⟨rfl, .inr (.inr (.inr ⟨t, e, rfl, ha, rfl, issueWord_go hi' rfl hg h hl ha hact⟩))⟩))))

end Sys2Proof.Machine
end

