-- ==== Sys2Proof/Laws/Memory.lean ====
section
/-! SUPPORT. Laws of memory: a byte read after a write, bytes elsewhere, the canonical form, and little-endian bytes
(spec/00 R1). -/

namespace Sys2Proof.Machine

/-! ## One byte -/

@[simp] theorem memGet_nil (a : Nat) : memGet [] a = memDefault := rfl

/-- A byte read where it was written. -/
@[simp] theorem memGet_memSet_self (m : List Host.Cell) (a : Nat) (b : Byte) : memGet (memSet m a b) a = b := by
  simp only [memSet]
  split
  · next h => simp [memGet, mapGet, h]
  · simp [memGet]

/-- A write leaves every other byte. -/
theorem memGet_memSet_ne (m : List Host.Cell) {a c : Nat} (b : Byte) (h : c ≠ a) :
    memGet (memSet m a b) c = memGet m c := by
  simp only [memSet]
  split
  · simp [memGet, mapGet, mapGet?_mapDel_ne m h]
  · simp [memGet, mapGet_mapSet_ne m b memDefault h]

/-! ## Runs of bytes -/

/-- Bytes below a run that is written stay. -/
theorem memGet_memSetAll_below (bs : List Byte) (m : List Host.Cell) (a c : Nat) (h : c < a) :
    memGet (memSetAll m a bs) c = memGet m c := by
  induction bs generalizing m a with
  | nil => rfl
  | cons b t ih => simp only [memSetAll]; rw [ih _ _ (by omega), memGet_memSet_ne _ _ (by omega)]

/-- A byte of a run reads as written. -/
theorem memGet_memSetAll_in (bs : List Byte) (m : List Host.Cell) (a i : Nat) (h : i < bs.length) :
    memGet (memSetAll m a bs) (a + i) = bs[i] := by
  induction bs generalizing m a i with
  | nil => simp at h
  | cons b t ih =>
    simp only [memSetAll]
    cases i with
    | zero => simp only [Nat.add_zero]; rw [memGet_memSetAll_below t _ (a + 1) a (by omega)]; simp
    | succ i =>
      have := ih (memSet m a b) (a + 1) i (by simpa using h)
      rw [show a + (i + 1) = a + 1 + i by omega, this]; rfl

/-- Bytes at or above the end of a run stay. -/
theorem memGet_memSetAll_above (bs : List Byte) (m : List Host.Cell) (a c : Nat) (h : a + bs.length ≤ c) :
    memGet (memSetAll m a bs) c = memGet m c := by
  induction bs generalizing m a with
  | nil => rfl
  | cons b t ih =>
    simp only [List.length_cons] at h
    simp only [memSetAll]; rw [ih _ _ (by omega), memGet_memSet_ne _ _ (by omega)]

/-! ## The canonical form -/

theorem Memory.wf_mapDel (m : List Host.Cell) (a : Nat) (h : Memory.wf m = true) : Memory.wf (mapDel m a) = true := by
  simp only [Memory.wf, Bool.and_eq_true] at h ⊢
  refine ⟨mapSorted_mapDel m a h.1, ?_⟩
  rw [List.all_eq_true] at h ⊢
  intro c hc
  exact h.2 c ((List.mem_filter.mp hc).1)

theorem mem_mapSet {α : Type} (m : List (Nat × α)) (n : Nat) (v : α) (c : Nat × α) (h : c ∈ mapSet m n v) :
    c ∈ m ∨ c = (n, v) := by
  induction m with
  | nil => simpa [mapSet] using h
  | cons p t ih =>
    obtain ⟨k, w⟩ := p
    simp only [mapSet] at h
    split at h
    · rcases List.mem_cons.mp h with h | h
      · exact .inr h
      · exact .inl h
    · split at h
      · rcases List.mem_cons.mp h with h | h
        · exact .inr h
        · exact .inl (List.mem_cons_of_mem _ h)
      · simp only [List.mem_cons] at h ⊢
        rcases h with h | h
        · exact .inl (.inl h)
        · rcases ih h with h | h
          · exact .inl (.inr h)
          · exact .inr h

theorem Memory.wf_mapSet (m : List Host.Cell) (a : Nat) (b : Byte) (hb : b ≠ memDefault) (h : Memory.wf m = true) :
    Memory.wf (mapSet m a b) = true := by
  simp only [Memory.wf, Bool.and_eq_true] at h ⊢
  refine ⟨mapSorted_mapSet m a b h.1, ?_⟩
  rw [List.all_eq_true] at h ⊢
  intro c hc
  rcases mem_mapSet m a b c hc with hc | rfl
  · exact h.2 c hc
  · simpa using hb

/-- A write keeps the canonical form. -/
theorem Memory.wf_memSet (m : List Host.Cell) (a : Nat) (b : Byte) (h : Memory.wf m = true) :
    Memory.wf (memSet m a b) = true := by
  simp only [memSet]
  split
  · exact Memory.wf_mapDel m a h
  · next hb => exact Memory.wf_mapSet m a b hb h

/-- A run of writes keeps the canonical form. -/
theorem Memory.wf_memSetAll (bs : List Byte) (m : List Host.Cell) (a : Nat) (h : Memory.wf m = true) :
    Memory.wf (memSetAll m a bs) = true := by
  induction bs generalizing m a with
  | nil => exact h
  | cons b t ih => exact ih _ _ (Memory.wf_memSet m a b h)

/-- Writes at the places of a list keep the canonical form. -/
theorem Memory.wf_foldl_memSet {β : Type} (f : β → Nat) (g : List Host.Cell → β → Byte) (l : List β)
    (m : List Host.Cell) (h : Memory.wf m = true) :
    Memory.wf (l.foldl (fun m x => memSet m (f x) (g m x)) m) = true := by
  induction l generalizing m with
  | nil => exact h
  | cons x t ih => exact ih _ (Memory.wf_memSet m _ _ h)

/-- Leaving bytes out keeps the canonical form. -/
theorem Memory.wf_filter (f : Host.Cell → Bool) (m : List Host.Cell) (h : Memory.wf m = true) :
    Memory.wf (m.filter f) = true := by
  simp only [Memory.wf, Bool.and_eq_true] at h ⊢
  refine ⟨mapSorted_filter f m h.1, ?_⟩
  rw [List.all_eq_true] at h ⊢
  intro c hc
  exact h.2 c ((List.mem_filter.mp hc).1)

/-! ## Little-endian bytes -/

@[simp] theorem leBytes_length (n x : Nat) : (leBytes n x).length = n := by
  induction n generalizing x with
  | zero => rfl
  | succ n ih => simp [leBytes, ih]

/-- A number given as bytes reads back, cut to their width. -/
theorem leNat_leBytes (n x : Nat) : leNat (leBytes n x) = x % 256 ^ n := by
  induction n generalizing x with
  | zero => simp [leBytes, leNat, Nat.mod_one]
  | succ n ih =>
    simp only [leBytes, leNat, ih, BitVec.toNat_ofNat]
    rw [show 256 ^ (n + 1) = 256 * 256 ^ n from Nat.pow_succ', Nat.mod_mul (x := x) (a := 256) (b := 256 ^ n)]

theorem leNat_lt (bs : List Byte) : leNat bs < 256 ^ bs.length := by
  induction bs with
  | nil => simp [leNat]
  | cons b t ih =>
    simp only [leNat, List.length_cons, Nat.pow_succ']
    have := b.isLt
    omega

/-- Bytes made of the number they stand for are themselves. -/
theorem leBytes_leNat (bs : List Byte) : leBytes bs.length (leNat bs) = bs := by
  induction bs with
  | nil => rfl
  | cons b t ih =>
    simp only [leNat, List.length_cons, leBytes]
    have hb := b.isLt
    congr 1
    · apply BitVec.eq_of_toNat_eq
      simp only [BitVec.toNat_ofNat]
      omega
    · rw [show (b.toNat + 256 * leNat t) / 256 = leNat t by omega, ih]

@[simp] theorem readWith_length (g : Nat → Byte) (a n : Nat) : (readWith g a n).length = n := by
  induction n generalizing a with
  | zero => rfl
  | succ n ih => simp [readWith, ih]

theorem readWith_congr (g g' : Nat → Byte) (a n : Nat) (h : ∀ i, i < n → g (a + i) = g' (a + i)) :
    readWith g a n = readWith g' a n := by
  induction n generalizing a with
  | zero => rfl
  | succ n ih =>
    simp only [readWith]
    have h0 : g a = g' a := h 0 (by omega)
    rw [h0, ih (a + 1) fun i hi => by
      have := h (i + 1) (by omega)
      rwa [show a + (i + 1) = a + 1 + i by omega] at this]

end Sys2Proof.Machine
end

