-- ==== Sys2Proof/Laws/MemoryWrites.lean ====
section
/-! SUPPORT. Every operation that writes the bytes of memory at their home keeps memory's canonical form. -/

namespace Sys2Proof.Machine

/-- A fold whose every step keeps memory canonical keeps it so. -/
theorem memWf_foldl {β : Type} (f : State → β → State)
    (hf : ∀ (s : State) x, Memory.wf s.mem = true → Memory.wf (f s x).mem = true) (l : List β) (s : State)
    (h : Memory.wf s.mem = true) : Memory.wf (l.foldl f s).mem = true := by
  induction l generalizing s with
  | nil => exact h
  | cons x t ih => exact ih _ (hf s x h)

/-- Bytes of one line stored. -/
theorem memWf_storeLine (s : State) (pa : Nat) (bs : List Byte) (h : Memory.wf s.mem = true) :
    Memory.wf (s.storeLine pa bs).mem = true := by
  unfold State.storeLine
  split
  · exact h
  · exact Memory.wf_memSetAll bs s.mem pa h

/-- A store folded out of the log. -/
theorem memWf_storeHome (s : State) (pa : Nat) (bs : List Byte) (h : Memory.wf s.mem = true) :
    Memory.wf (s.storeHome pa bs).mem = true :=
  memWf_foldl _ (fun s (p : Nat × List Byte) => memWf_storeLine s p.1 p.2) _ s h

/-- A line written back. -/
theorem memWf_writeBack (s : State) (pline : Nat) (h : Memory.wf s.mem = true) :
    Memory.wf (s.writeBack pline).mem = true :=
  Memory.wf_foldl_memSet (fun c : Host.Cell => c.1) (fun _ c => c.2) _ s.mem h

/-- A byte written by the host. -/
theorem memWf_hostByte (s : State) (pa : Nat) (b : Byte) (h : Memory.wf s.mem = true) :
    Memory.wf (s.hostByte pa b).mem = true := Memory.wf_memSet s.mem pa b h

/-- Consecutive bytes written by the host. -/
theorem memWf_hostBytes (bs : List Byte) (s : State) (pa : Nat) (h : Memory.wf s.mem = true) :
    Memory.wf (s.hostBytes pa bs).mem = true := by
  induction bs generalizing s pa with
  | nil => exact h
  | cons b t ih => exact ih _ _ (memWf_hostByte s pa b h)

/-- A line that decrypts with another key pair. -/
theorem memWf_recipher (s : State) (old new line : Nat) (h : Memory.wf s.mem = true) :
    Memory.wf (s.recipher old new line).mem = true := Memory.wf_memSetAll _ s.mem _ h

/-- Far memory read with another pair of keys. -/
theorem memWf_decryptAnew (s : State) (page n old new : Nat) (h : Memory.wf s.mem = true) :
    Memory.wf (s.decryptAnew page n old new).mem = true :=
  memWf_foldl _ (fun s i => memWf_recipher s old new (2048 * page + i)) _ s h

/-- A far page noted under a key slot. -/
theorem memWf_noteKey (s : State) (pa key : Nat) (big : Bool) (h : Memory.wf s.mem = true) :
    Memory.wf (s.noteKey pa key big).mem = true := by
  cases hc : (placeOf s pa != .far
    || s.keyed.contains ((pa - pa % (if big then 2 ^ 33 else 2 ^ 18)) / 2 ^ 18, key, big)) with
  | true => simpa only [State.noteKey, hc, if_true] using h
  | false =>
    simp only [State.noteKey, hc, Bool.false_eq_true, if_false]
    exact memWf_foldl _ (fun s _ hs => memWf_decryptAnew s _ _ _ _ hs) _ s h

/-- A key slot given another pair. -/
theorem memWf_rekeySlot (s : State) (slot new : Nat) (h : Memory.wf s.mem = true) :
    Memory.wf (s.rekeySlot slot new).mem = true :=
  memWf_foldl _ (fun s _ hs => memWf_decryptAnew s _ _ _ _ hs) _ s h

/-- A stretch of a save area written. -/
theorem memWf_writeSave (s : State) (pa n : Nat) (h : Memory.wf s.mem = true) :
    Memory.wf (s.writeSave pa n).mem = true := Memory.wf_memSetAll _ s.mem pa h

/-- A store to host memory. -/
theorem memWf_storeHostMem (s : State) (pa : Nat) (bytes : List Byte) (h : Memory.wf s.mem = true) :
    Memory.wf (s.storeHostMem pa bytes).mem = true := by
  unfold State.storeHostMem
  split
  · exact h
  · exact Memory.wf_memSetAll bytes s.mem pa h

/-- A key slot zeroised. -/
theorem memWf_zeroise (s : State) (slot : Nat) (h : Memory.wf s.mem = true) :
    Memory.wf (s.zeroise slot).mem = true := memWf_rekeySlot s slot _ h

/-- A table entry written. -/
theorem memWf_setEntry (s : State) (pa : Nat) (e : DWord) (h : Memory.wf s.mem = true) :
    Memory.wf (s.setEntry pa e).mem = true := Memory.wf_memSetAll _ s.mem pa h

/-- A page zeroed. -/
theorem memWf_zeroPage (s : State) (pa n : Nat) (h : Memory.wf s.mem = true) :
    Memory.wf (s.zeroPage pa n).mem = true := Memory.wf_filter _ s.mem h

/-- A page copied. -/
theorem memWf_copyPage (s : State) (old new : Nat) (h : Memory.wf s.mem = true) :
    Memory.wf (s.copyPage old new).mem = true := by
  have go (l : List Host.Cell) (m : List Host.Cell) (hm : Memory.wf m = true) :
      Memory.wf (l.foldl (fun m c => mapDel m c.1) m) = true := by
    induction l generalizing m with
    | nil => exact hm
    | cons c t ih => exact ih _ (Memory.wf_mapDel m c.1 hm)
  exact Memory.wf_foldl_memSet (fun c : Host.Cell => movedPa old new c.1) (fun _ c => c.2) _ _ (go _ _ h)

/-- What outlives a start. -/
theorem memWf_cold (s : State) (h : Memory.wf s.mem = true) : Memory.wf s.cold.mem = true := Memory.wf_filter _ s.mem h

end Sys2Proof.Machine
end

