-- ==== Sys2Proof/Laws/PerInstr.lean ====
section
/-! SUPPORT. For each instruction of a pipe, the codepoint maps of spec/05 R103 and R104 give it back from the codepoint
that the encoder writes; for each step of another agent, that no word stands for it. -/

namespace Sys2Proof.Laws.Codepoint

/-- The codepoint that the encoder gives an instruction fits the opcode field and names the instruction again, when
the sub-operation that shares the codepoint agrees. -/
def Statement (i : Instr) : Prop :=
  ∀ info, i.info = some info →
    info.op < 512 ∧ (i.subOpAgrees = true → codepointInstr info.uniform info.op info.fields = some i)

/-- An instruction of a pipe satisfies the statement when its codepoint is small and maps to it. -/
theorem pipe {i : Instr} {info : Info} (hi : i.info = some info) (ho : decide (info.op < 512) = true)
    (hc : i.subOpAgrees = true → codepointInstr info.uniform info.op info.fields = some i) : Statement i := by
  intro j hj
  obtain rfl : info = j := by simpa [hi] using hj
  exact ⟨of_decide_eq_true ho, hc⟩

/-- A step of another agent has no word. -/
theorem agent {i : Instr} (hi : i.info = none) : Statement i := by
  intro j hj
  simp [hi] at hj

theorem nop (f : Fields) : Statement (.nop f) := pipe rfl rfl fun _ => rfl
theorem iadd (f : Fields) : Statement (.iadd f) := pipe rfl rfl fun _ => rfl
theorem isub (f : Fields) : Statement (.isub f) := pipe rfl rfl fun _ => rfl
theorem imul (f : Fields) : Statement (.imul f) := pipe rfl rfl fun _ => rfl
theorem imulhi (f : Fields) : Statement (.imulhi f) := pipe rfl rfl fun _ => rfl
theorem imad (f : Fields) : Statement (.imad f) := pipe rfl rfl fun _ => rfl
theorem imin (f : Fields) : Statement (.imin f) := pipe rfl rfl fun _ => rfl
theorem imax (f : Fields) : Statement (.imax f) := pipe rfl rfl fun _ => rfl
theorem iabs (f : Fields) : Statement (.iabs f) := pipe rfl rfl fun _ => rfl
theorem idiv (f : Fields) : Statement (.idiv f) := pipe rfl rfl fun _ => rfl
theorem irem (f : Fields) : Statement (.irem f) := pipe rfl rfl fun _ => rfl
theorem isad (f : Fields) : Statement (.isad f) := pipe rfl rfl fun _ => rfl
theorem idp4 (f : Fields) : Statement (.idp4 f) := pipe rfl rfl fun _ => rfl
theorem isum (f : Fields) : Statement (.isum f) := pipe rfl rfl fun _ => rfl
theorem imadw (f : Fields) : Statement (.imadw f) := pipe rfl rfl fun _ => rfl
theorem lea (f : Fields) : Statement (.lea f) := pipe rfl rfl fun _ => rfl
theorem leas (f : Fields) : Statement (.leas f) := pipe rfl rfl fun _ => rfl
theorem and (f : Fields) : Statement (.and f) := pipe rfl rfl fun _ => rfl
theorem or (f : Fields) : Statement (.or f) := pipe rfl rfl fun _ => rfl
theorem xor (f : Fields) : Statement (.xor f) := pipe rfl rfl fun _ => rfl
theorem lut3 (f : Fields) : Statement (.lut3 f) := pipe rfl rfl fun _ => rfl
theorem shl (f : Fields) : Statement (.shl f) := pipe rfl rfl fun _ => rfl
theorem shr (f : Fields) : Statement (.shr f) := pipe rfl rfl fun _ => rfl
theorem sar (f : Fields) : Statement (.sar f) := pipe rfl rfl fun _ => rfl
theorem rot (f : Fields) : Statement (.rot f) := pipe rfl rfl fun _ => rfl
theorem catsh (f : Fields) : Statement (.catsh f) := pipe rfl rfl fun _ => rfl
theorem bxtr (f : Fields) : Statement (.bxtr f) := pipe rfl rfl fun _ => rfl
theorem bins (f : Fields) : Statement (.bins f) := pipe rfl rfl fun _ => rfl
theorem ones (f : Fields) : Statement (.ones f) := pipe rfl rfl fun _ => rfl
theorem clz (f : Fields) : Statement (.clz f) := pipe rfl rfl fun _ => rfl
theorem bitrev (f : Fields) : Statement (.bitrev f) := pipe rfl rfl fun _ => rfl
theorem bysel (f : Fields) : Statement (.bysel f) := pipe rfl rfl fun _ => rfl
theorem icmp (f : Fields) : Statement (.icmp f) := pipe rfl rfl fun _ => rfl
theorem fcmp (f : Fields) : Statement (.fcmp f) := pipe rfl rfl fun _ => rfl
theorem dcmp (f : Fields) : Statement (.dcmp f) := pipe rfl rfl fun _ => rfl
theorem d8cmp (f : Fields) : Statement (.d8cmp f) := pipe rfl rfl fun _ => rfl
theorem plog (f : Fields) : Statement (.plog f) := pipe rfl rfl fun _ => rfl
theorem ptox (f : Fields) : Statement (.ptox f) := pipe rfl rfl fun _ => rfl
theorem xtop (f : Fields) : Statement (.xtop f) := pipe rfl rfl fun _ => rfl
theorem fclass (f : Fields) : Statement (.fclass f) := pipe rfl rfl fun _ => rfl
theorem mov (f : Fields) : Statement (.mov f) := pipe rfl rfl fun _ => rfl
theorem sel (f : Fields) : Statement (.sel f) := pipe rfl rfl fun _ => rfl
theorem movq (f : Fields) : Statement (.movq f) := pipe rfl rfl fun _ => rfl
theorem fadd (f : Fields) : Statement (.fadd f) := pipe rfl rfl fun _ => rfl
theorem fmul (f : Fields) : Statement (.fmul f) := pipe rfl rfl fun _ => rfl
theorem ffma (f : Fields) : Statement (.ffma f) := pipe rfl rfl fun _ => rfl
theorem fmin (f : Fields) : Statement (.fmin f) := pipe rfl rfl fun _ => rfl
theorem fmax (f : Fields) : Statement (.fmax f) := pipe rfl rfl fun _ => rfl
theorem fint (f : Fields) : Statement (.fint f) := pipe rfl rfl fun _ => rfl
theorem fabs (f : Fields) : Statement (.fabs f) := pipe rfl rfl fun _ => rfl
theorem dadd (f : Fields) : Statement (.dadd f) := pipe rfl rfl fun _ => rfl
theorem dmul (f : Fields) : Statement (.dmul f) := pipe rfl rfl fun _ => rfl
theorem dfma (f : Fields) : Statement (.dfma f) := pipe rfl rfl fun _ => rfl
theorem dmin (f : Fields) : Statement (.dmin f) := pipe rfl rfl fun _ => rfl
theorem dmax (f : Fields) : Statement (.dmax f) := pipe rfl rfl fun _ => rfl
theorem dint (f : Fields) : Statement (.dint f) := pipe rfl rfl fun _ => rfl
theorem dabs (f : Fields) : Statement (.dabs f) := pipe rfl rfl fun _ => rfl
theorem frcp (f : Fields) : Statement (.frcp f) := pipe rfl rfl fun _ => rfl
theorem frsq (f : Fields) : Statement (.frsq f) := pipe rfl rfl fun _ => rfl
theorem fsqrt (f : Fields) : Statement (.fsqrt f) := pipe rfl rfl fun _ => rfl
theorem fex2 (f : Fields) : Statement (.fex2 f) := pipe rfl rfl fun _ => rfl
theorem flg2 (f : Fields) : Statement (.flg2 f) := pipe rfl rfl fun _ => rfl
theorem fex10 (f : Fields) : Statement (.fex10 f) := pipe rfl rfl fun _ => rfl
theorem flg10 (f : Fields) : Statement (.flg10 f) := pipe rfl rfl fun _ => rfl
theorem fsin (f : Fields) : Statement (.fsin f) := pipe rfl rfl fun _ => rfl
theorem fcos (f : Fields) : Statement (.fcos f) := pipe rfl rfl fun _ => rfl
theorem fdiv (f : Fields) : Statement (.fdiv f) := pipe rfl rfl fun _ => rfl
theorem drcp (f : Fields) : Statement (.drcp f) := pipe rfl rfl fun _ => rfl
theorem dsqrt (f : Fields) : Statement (.dsqrt f) := pipe rfl rfl fun _ => rfl
theorem ddiv (f : Fields) : Statement (.ddiv f) := pipe rfl rfl fun _ => rfl
theorem cvti2f (f : Fields) : Statement (.cvti2f f) := pipe rfl rfl fun _ => rfl
theorem cvtf2i (f : Fields) : Statement (.cvtf2i f) := pipe rfl rfl fun _ => rfl
theorem cvtf2f (f : Fields) : Statement (.cvtf2f f) := pipe rfl rfl fun _ => rfl
theorem cvti2i (f : Fields) : Statement (.cvti2i f) := pipe rfl rfl fun _ => rfl
theorem d8pack (f : Fields) : Statement (.d8pack f) := pipe rfl rfl fun _ => rfl
theorem d8unpk (f : Fields) : Statement (.d8unpk f) := pipe rfl rfl fun _ => rfl
theorem d8scale (f : Fields) : Statement (.d8scale f) := pipe rfl rfl fun _ => rfl
theorem d8min (f : Fields) : Statement (.d8min f) := pipe rfl rfl fun _ => rfl
theorem d8max (f : Fields) : Statement (.d8max f) := pipe rfl rfl fun _ => rfl
theorem pkadd (f : Fields) : Statement (.pkadd f) := pipe rfl rfl fun _ => rfl
theorem pkmul (f : Fields) : Statement (.pkmul f) := pipe rfl rfl fun _ => rfl
theorem pkfma (f : Fields) : Statement (.pkfma f) := pipe rfl rfl fun _ => rfl
theorem pkmin (f : Fields) : Statement (.pkmin f) := pipe rfl rfl fun _ => rfl
theorem pkmax (f : Fields) : Statement (.pkmax f) := pipe rfl rfl fun _ => rfl
theorem perm (f : Fields) : Statement (.perm f) := pipe rfl rfl fun _ => rfl
theorem permup (f : Fields) : Statement (.permup f) := pipe rfl rfl fun _ => rfl
theorem permdn (f : Fields) : Statement (.permdn f) := pipe rfl rfl fun _ => rfl
theorem permx (f : Fields) : Statement (.permx f) := pipe rfl rfl fun _ => rfl
theorem vote (f : Fields) : Statement (.vote f) := pipe rfl rfl fun _ => rfl
theorem ballot (f : Fields) : Statement (.ballot f) := pipe rfl rfl fun _ => rfl
theorem matchEq (f : Fields) : Statement (.matchEq f) := pipe rfl rfl fun _ => rfl
theorem gredi (f : Fields) : Statement (.gredi f) := pipe rfl rfl fun _ => rfl
theorem gredf (f : Fields) : Statement (.gredf f) := pipe rfl rfl fun _ => rfl
theorem gscan (f : Fields) : Statement (.gscan f) := pipe rfl rfl fun _ => rfl
theorem ldx (w : Width2) (f : Fields) : Statement (.ldx w f) := by cases w <;> exact pipe rfl rfl fun _ => rfl
theorem stx (w : Width2) (f : Fields) : Statement (.stx w f) := by cases w <;> exact pipe rfl rfl fun _ => rfl
theorem ld (w : LdWidth) (f : Fields) : Statement (.ld w f) := by cases w <;> exact pipe rfl rfl fun _ => rfl
theorem lda (w : Width2) (f : Fields) : Statement (.lda w f) := by cases w <;> exact pipe rfl rfl fun _ => rfl
theorem pref (f : Fields) : Statement (.pref f) := pipe rfl rfl fun _ => rfl
theorem st (w : StWidth) (m : StoreMode) (f : Fields) : Statement (.st w m f) := by cases w <;> cases m <;> exact pipe rfl rfl fun _ => rfl
theorem str (w : Width2) (m : StoreMode) (f : Fields) : Statement (.str w m f) := by cases w <;> cases m <;> exact pipe rfl rfl fun _ => rfl
theorem atom (op : AtomOp) (m : StoreMode) (f : Fields) : Statement (.atom op m f) := by cases op <;> cases m <;> exact pipe rfl rfl fun _ => rfl
theorem red (op : RedOp) (m : StoreMode) (f : Fields) : Statement (.red op m f) := by cases op <;> cases m <;> exact pipe rfl rfl fun _ => rfl
theorem ratom (op : AtomOp) (f : Fields) : Statement (.ratom op f) := by cases op <;> exact pipe rfl rfl fun _ => rfl
theorem rld (w : Width2) (f : Fields) : Statement (.rld w f) := by cases w <;> exact pipe rfl rfl fun _ => rfl
theorem rst (w : Width2) (f : Fields) : Statement (.rst w f) := by cases w <;> exact pipe rfl rfl fun _ => rfl
theorem ffence (f : Fields) : Statement (.ffence f) := pipe rfl rfl fun _ => rfl
theorem fence (f : Fields) : Statement (.fence f) := pipe rfl rfl fun _ => rfl
theorem fencex (f : Fields) : Statement (.fencex f) := pipe rfl rfl fun _ => rfl
theorem drain (f : Fields) : Statement (.drain f) := pipe rfl rfl fun _ => rfl
theorem xbegin (f : Fields) : Statement (.xbegin f) := pipe rfl rfl fun _ => rfl
theorem xend (f : Fields) : Statement (.xend f) := pipe rfl rfl fun _ => rfl
theorem xabort (f : Fields) : Statement (.xabort f) := pipe rfl rfl fun _ => rfl
theorem bar (f : Fields) : Statement (.bar f) := pipe rfl rfl fun _ => rfl
theorem bara (f : Fields) : Statement (.bara f) := pipe rfl rfl fun _ => rfl
theorem barc (f : Fields) : Statement (.barc f) := pipe rfl rfl fun _ => rfl
theorem bard (f : Fields) : Statement (.bard f) := pipe rfl rfl fun _ => rfl
theorem jset (f : Fields) : Statement (.jset f) := pipe rfl rfl fun _ => rfl
theorem join (f : Fields) : Statement (.join f) := pipe rfl rfl fun _ => rfl
theorem jdrop (f : Fields) : Statement (.jdrop f) := pipe rfl rfl fun _ => rfl
theorem wwait (f : Fields) : Statement (.wwait f) := pipe rfl rfl fun _ => rfl
theorem cbpost (f : Fields) : Statement (.cbpost f) := pipe rfl rfl fun _ => rfl
theorem cbwait (f : Fields) : Statement (.cbwait f) := pipe rfl rfl fun _ => rfl
theorem tfeed (f : Fields) : Statement (.tfeed f) := pipe rfl rfl fun h => by
  have h : (f.modHi != 3) = true := h
  show (if f.modHi == 3 then some (Instr.tfeedStab f) else some (.tfeed f)) = _
  simp_all
theorem tfeedStab (f : Fields) : Statement (.tfeedStab f) := pipe rfl rfl fun h => by
  have h : (f.modHi == 3) = true := h
  show (if f.modHi == 3 then some (Instr.tfeedStab f) else some (.tfeed f)) = _
  simp_all
theorem tdrain (f : Fields) : Statement (.tdrain f) := pipe rfl rfl fun _ => rfl
theorem emit (f : Fields) : Statement (.emit f) := pipe rfl rfl fun _ => rfl
theorem trap (f : Fields) : Statement (.trap f) := pipe rfl rfl fun _ => rfl
theorem bkpt (f : Fields) : Statement (.bkpt f) := pipe rfl rfl fun _ => rfl
theorem yield (f : Fields) : Statement (.yield f) := pipe rfl rfl fun _ => rfl
theorem unop (f : Fields) : Statement (.unop f) := pipe rfl rfl fun _ => rfl
theorem uiadd (f : Fields) : Statement (.uiadd f) := pipe rfl rfl fun _ => rfl
theorem uisub (f : Fields) : Statement (.uisub f) := pipe rfl rfl fun _ => rfl
theorem uimul (f : Fields) : Statement (.uimul f) := pipe rfl rfl fun _ => rfl
theorem uimulhi (f : Fields) : Statement (.uimulhi f) := pipe rfl rfl fun _ => rfl
theorem uimad (f : Fields) : Statement (.uimad f) := pipe rfl rfl fun _ => rfl
theorem uimin (f : Fields) : Statement (.uimin f) := pipe rfl rfl fun _ => rfl
theorem uimax (f : Fields) : Statement (.uimax f) := pipe rfl rfl fun _ => rfl
theorem uiabs (f : Fields) : Statement (.uiabs f) := pipe rfl rfl fun _ => rfl
theorem uidiv (f : Fields) : Statement (.uidiv f) := pipe rfl rfl fun _ => rfl
theorem uirem (f : Fields) : Statement (.uirem f) := pipe rfl rfl fun _ => rfl
theorem uisad (f : Fields) : Statement (.uisad f) := pipe rfl rfl fun _ => rfl
theorem uidp4 (f : Fields) : Statement (.uidp4 f) := pipe rfl rfl fun _ => rfl
theorem uisum (f : Fields) : Statement (.uisum f) := pipe rfl rfl fun _ => rfl
theorem uimadw (f : Fields) : Statement (.uimadw f) := pipe rfl rfl fun _ => rfl
theorem ulea (f : Fields) : Statement (.ulea f) := pipe rfl rfl fun _ => rfl
theorem uleas (f : Fields) : Statement (.uleas f) := pipe rfl rfl fun _ => rfl
theorem uand (f : Fields) : Statement (.uand f) := pipe rfl rfl fun _ => rfl
theorem uor (f : Fields) : Statement (.uor f) := pipe rfl rfl fun _ => rfl
theorem uxor (f : Fields) : Statement (.uxor f) := pipe rfl rfl fun _ => rfl
theorem ulut3 (f : Fields) : Statement (.ulut3 f) := pipe rfl rfl fun _ => rfl
theorem ushl (f : Fields) : Statement (.ushl f) := pipe rfl rfl fun _ => rfl
theorem ushr (f : Fields) : Statement (.ushr f) := pipe rfl rfl fun _ => rfl
theorem usar (f : Fields) : Statement (.usar f) := pipe rfl rfl fun _ => rfl
theorem urot (f : Fields) : Statement (.urot f) := pipe rfl rfl fun _ => rfl
theorem ucatsh (f : Fields) : Statement (.ucatsh f) := pipe rfl rfl fun _ => rfl
theorem ubxtr (f : Fields) : Statement (.ubxtr f) := pipe rfl rfl fun _ => rfl
theorem ubins (f : Fields) : Statement (.ubins f) := pipe rfl rfl fun _ => rfl
theorem uones (f : Fields) : Statement (.uones f) := pipe rfl rfl fun _ => rfl
theorem uclz (f : Fields) : Statement (.uclz f) := pipe rfl rfl fun _ => rfl
theorem ubitrev (f : Fields) : Statement (.ubitrev f) := pipe rfl rfl fun _ => rfl
theorem ubysel (f : Fields) : Statement (.ubysel f) := pipe rfl rfl fun _ => rfl
theorem uicmp (f : Fields) : Statement (.uicmp f) := pipe rfl rfl fun _ => rfl
theorem ufcmp (f : Fields) : Statement (.ufcmp f) := pipe rfl rfl fun _ => rfl
theorem uplog (f : Fields) : Statement (.uplog f) := pipe rfl rfl fun _ => rfl
theorem uptox (f : Fields) : Statement (.uptox f) := pipe rfl rfl fun _ => rfl
theorem uxtop (f : Fields) : Statement (.uxtop f) := pipe rfl rfl fun _ => rfl
theorem umov (f : Fields) : Statement (.umov f) := pipe rfl rfl fun _ => rfl
theorem usel (f : Fields) : Statement (.usel f) := pipe rfl rfl fun _ => rfl
theorem ureadl (f : Fields) : Statement (.ureadl f) := pipe rfl rfl fun _ => rfl
theorem ufadd (f : Fields) : Statement (.ufadd f) := pipe rfl rfl fun _ => rfl
theorem ufmul (f : Fields) : Statement (.ufmul f) := pipe rfl rfl fun _ => rfl
theorem uffma (f : Fields) : Statement (.uffma f) := pipe rfl rfl fun _ => rfl
theorem ufmin (f : Fields) : Statement (.ufmin f) := pipe rfl rfl fun _ => rfl
theorem ufmax (f : Fields) : Statement (.ufmax f) := pipe rfl rfl fun _ => rfl
theorem ucvti2f (f : Fields) : Statement (.ucvti2f f) := pipe rfl rfl fun _ => rfl
theorem ucvtf2i (f : Fields) : Statement (.ucvtf2i f) := pipe rfl rfl fun _ => rfl
theorem uld (w : UWidth) (f : Fields) : Statement (.uld w f) := by cases w <;> exact pipe rfl rfl fun _ => rfl
theorem ulda (w : Width2) (f : Fields) : Statement (.ulda w f) := by cases w <;> exact pipe rfl rfl fun _ => rfl
theorem ust (w : UWidth) (m : StoreMode) (f : Fields) : Statement (.ust w m f) := by cases w <;> cases m <;> exact pipe rfl rfl fun _ => rfl
theorem ustr (w : Width2) (m : StoreMode) (f : Fields) : Statement (.ustr w m f) := by cases w <;> cases m <;> exact pipe rfl rfl fun _ => rfl
theorem uatom (op : AtomOp) (m : StoreMode) (f : Fields) : Statement (.uatom op m f) := by cases op <;> cases m <;> exact pipe rfl rfl fun _ => rfl
theorem ured (op : RedOp) (m : StoreMode) (f : Fields) : Statement (.ured op m f) := by cases op <;> cases m <;> exact pipe rfl rfl fun _ => rfl
theorem urld (w : Width2) (f : Fields) : Statement (.urld w f) := by cases w <;> exact pipe rfl rfl fun _ => rfl
theorem urst (w : Width2) (f : Fields) : Statement (.urst w f) := by cases w <;> exact pipe rfl rfl fun _ => rfl
theorem uffence (f : Fields) : Statement (.uffence f) := pipe rfl rfl fun _ => rfl
theorem ufence (f : Fields) : Statement (.ufence f) := pipe rfl rfl fun _ => rfl
theorem ufencex (f : Fields) : Statement (.ufencex f) := pipe rfl rfl fun _ => rfl
theorem udrain (f : Fields) : Statement (.udrain f) := pipe rfl rfl fun _ => rfl
theorem uwwait (f : Fields) : Statement (.uwwait f) := pipe rfl rfl fun _ => rfl
theorem ucbpost (f : Fields) : Statement (.ucbpost f) := pipe rfl rfl fun _ => rfl
theorem ucbwait (f : Fields) : Statement (.ucbwait f) := pipe rfl rfl fun _ => rfl
theorem utrap (f : Fields) : Statement (.utrap f) := pipe rfl rfl fun _ => rfl
theorem ubkpt (f : Fields) : Statement (.ubkpt f) := pipe rfl rfl fun _ => rfl
theorem uyield (f : Fields) : Statement (.uyield f) := pipe rfl rfl fun _ => rfl
theorem tcopy (f : Fields) : Statement (.tcopy f) := pipe rfl rfl fun _ => rfl
theorem tclose (f : Fields) : Statement (.tclose f) := pipe rfl rfl fun _ => rfl
theorem twait (f : Fields) : Statement (.twait f) := pipe rfl rfl fun _ => rfl
theorem lease (f : Fields) : Statement (.lease f) := pipe rfl rfl fun _ => rfl
theorem leasem (f : Fields) : Statement (.leasem f) := pipe rfl rfl fun _ => rfl
theorem lrel (f : Fields) : Statement (.lrel f) := pipe rfl rfl fun _ => rfl
theorem enq (f : Fields) : Statement (.enq f) := pipe rfl rfl fun _ => rfl
theorem eret (f : Fields) : Statement (.eret f) := pipe rfl rfl fun _ => rfl
theorem crd (f : Fields) : Statement (.crd f) := pipe rfl rfl fun _ => rfl
theorem cwr (f : Fields) : Statement (.cwr f) := pipe rfl rfl fun _ => rfl
theorem halt (f : Fields) : Statement (.halt f) := pipe rfl rfl fun _ => rfl
theorem mma (f : Fields) : Statement (.mma f) := pipe rfl rfl fun _ => rfl
theorem mmag (f : Fields) : Statement (.mmag f) := pipe rfl rfl fun _ => rfl
theorem mzero (f : Fields) : Statement (.mzero f) := pipe rfl rfl fun _ => rfl
theorem mmovDrain (f : Fields) : Statement (.mmovDrain f) := pipe rfl rfl fun h => by
  have h : (f.modHi == 0) = true := h
  show (if f.modHi == 1 then some (Instr.mmovCopy f) else some (.mmovDrain f)) = _
  simp_all
theorem mmovCopy (f : Fields) : Statement (.mmovCopy f) := pipe rfl rfl fun h => by
  have h : (f.modHi == 1) = true := h
  show (if f.modHi == 1 then some (Instr.mmovCopy f) else some (.mmovDrain f)) = _
  simp_all
theorem mld (f : Fields) : Statement (.mld f) := pipe rfl rfl fun _ => rfl
theorem mst (f : Fields) : Statement (.mst f) := pipe rfl rfl fun _ => rfl
theorem creq (f : Fields) : Statement (.creq f) := pipe rfl rfl fun _ => rfl
theorem cawait (f : Fields) : Statement (.cawait f) := pipe rfl rfl fun _ => rfl
theorem cuse (f : Fields) : Statement (.cuse f) := pipe rfl rfl fun _ => rfl
theorem crel (f : Fields) : Statement (.crel f) := pipe rfl rfl fun _ => rfl
theorem pldrain (f : Fields) : Statement (.pldrain f) := pipe rfl rfl fun _ => rfl
theorem pljoin (f : Fields) : Statement (.pljoin f) := pipe rfl rfl fun _ => rfl
theorem wsend (f : Fields) : Statement (.wsend f) := pipe rfl rfl fun _ => rfl
theorem wrecv (f : Fields) : Statement (.wrecv f) := pipe rfl rfl fun _ => rfl
theorem wpoll (f : Fields) : Statement (.wpoll f) := pipe rfl rfl fun _ => rfl
theorem tmrRead (f : Fields) : Statement (.tmrRead f) := pipe rfl rfl fun h => by
  have h : (f.modHi == 0) = true := h
  show (if f.modHi == 0 then some (Instr.tmrRead f) else if f.modHi == 1 then some (.tmrSet f)
    else if f.modHi == 2 then some (.tmrWait f) else some (.tmrCancel f)) = _
  simp_all
theorem tmrSet (f : Fields) : Statement (.tmrSet f) := pipe rfl rfl fun h => by
  have h : (f.modHi == 1) = true := h
  show (if f.modHi == 0 then some (Instr.tmrRead f) else if f.modHi == 1 then some (.tmrSet f)
    else if f.modHi == 2 then some (.tmrWait f) else some (.tmrCancel f)) = _
  simp_all
theorem tmrWait (f : Fields) : Statement (.tmrWait f) := pipe rfl rfl fun h => by
  have h : (f.modHi == 2) = true := h
  show (if f.modHi == 0 then some (Instr.tmrRead f) else if f.modHi == 1 then some (.tmrSet f)
    else if f.modHi == 2 then some (.tmrWait f) else some (.tmrCancel f)) = _
  simp_all
theorem tmrCancel (f : Fields) : Statement (.tmrCancel f) := pipe rfl rfl fun h => by
  have h : (f.modHi == 3) = true := h
  show (if f.modHi == 0 then some (Instr.tmrRead f) else if f.modHi == 1 then some (.tmrSet f)
    else if f.modHi == 2 then some (.tmrWait f) else some (.tmrCancel f)) = _
  simp_all
theorem evtake (f : Fields) : Statement (.evtake f) := pipe rfl rfl fun _ => rfl
theorem evpost (f : Fields) : Statement (.evpost f) := pipe rfl rfl fun _ => rfl
theorem qlock (f : Fields) : Statement (.qlock f) := pipe rfl rfl fun _ => rfl
theorem qfree (f : Fields) : Statement (.qfree f) := pipe rfl rfl fun _ => rfl
theorem issueSelect (part : Nat) : Statement (.issueSelect part) := agent rfl
theorem fixedResultWriteback (op : Nat) : Statement (.fixedResultWriteback op) := agent rfl
theorem variableOpComplete (op : Nat) : Statement (.variableOpComplete op) := agent rfl
theorem boostDecay (group : Nat) : Statement (.boostDecay group) := agent rfl
theorem activationEvaluate (core : Nat) : Statement (.activationEvaluate core) := agent rfl
theorem leaseOverrunDeactivate (core : Nat) : Statement (.leaseOverrunDeactivate core) := agent rfl
theorem protectionExpiry (group : Nat) : Statement (.protectionExpiry group) := agent rfl
theorem dormantEntry (group : Nat) : Statement (.dormantEntry group) := agent rfl
theorem wwaitReread (op : Nat) : Statement (.wwaitReread op) := agent rfl
theorem waitSwapCheck (part : Nat) : Statement (.waitSwapCheck part) := agent rfl
theorem waitSwapSaveEnd (team : Nat) : Statement (.waitSwapSaveEnd team) := agent rfl
theorem teamReturn (team : Nat) : Statement (.teamReturn team) := agent rfl
theorem teamPlace (cluster : Nat) : Statement (.teamPlace cluster) := agent rfl
theorem distributorSteal (cluster : Nat) : Statement (.distributorSteal cluster) := agent rfl
theorem teamEnd (team : Nat) (code : (BitVec 16)) : Statement (.teamEnd team code) := agent rfl
theorem groupSlotRelease (group : Nat) : Statement (.groupSlotRelease group) := agent rfl
theorem rennetRecordAccept (die : Nat) : Statement (.rennetRecordAccept die) := agent rfl
theorem rennetBatchTimeout (die : Nat) (grid : Nat) (node : Nat) : Statement (.rennetBatchTimeout die grid node) := agent rfl
theorem rennetStallEnd (grid : Nat) : Statement (.rennetStallEnd grid) := agent rfl
theorem copyPieceDeliver (copy : Nat) : Statement (.copyPieceDeliver copy) := agent rfl
theorem clbCopyTest (copy : Nat) : Statement (.clbCopyTest copy) := agent rfl
theorem macroStep (cluster : Nat) : Statement (.macroStep cluster) := agent rfl
theorem macroComplete (cluster : Nat) : Statement (.macroComplete cluster) := agent rfl
theorem scaleCacheMissRead (cluster : Nat) (tid : Nat) (block : Nat) : Statement (.scaleCacheMissRead cluster tid block) := agent rfl
theorem pageWalk (who : WalkFor) : Statement (.pageWalk who) := agent rfl
theorem faultResolution (ctx : Nat) : Statement (.faultResolution ctx) := agent rfl
theorem ackLostTimeout (op : Nat) (state : AckState) : Statement (.ackLostTimeout op state) := agent rfl
theorem homeAtomicApply (op : Nat) : Statement (.homeAtomicApply op) := agent rfl
theorem redEntryDrain (pa : PAddr) : Statement (.redEntryDrain pa) := agent rfl
theorem xendAckTimeout (op : Nat) : Statement (.xendAckTimeout op) := agent rfl
theorem remoteRequestAtPeer (op : Nat) (accept : Bool) : Statement (.remoteRequestAtPeer op accept) := agent rfl
theorem fabricTimeout (who : RemoteWork) : Statement (.fabricTimeout who) := agent rfl
theorem residentChoice (part : (BitVec 64)) : Statement (.residentChoice part) := agent rfl
theorem crockExchange (part : (BitVec 64)) : Statement (.crockExchange part) := agent rfl
theorem imageSpill (part : (BitVec 64)) : Statement (.imageSpill part) := agent rfl
theorem imageFill (part : (BitVec 64)) (ctx : Nat) : Statement (.imageFill part ctx) := agent rfl
theorem contextDue (ctx : Nat) : Statement (.contextDue ctx) := agent rfl
theorem quantumExpiry (part : (BitVec 64)) : Statement (.quantumExpiry part) := agent rfl
theorem crockUncorrectable (hit : CrockHit) : Statement (.crockUncorrectable hit) := agent rfl
theorem pageMigration (ctx : Nat) (va : VAddr) (dst : PAddr) : Statement (.pageMigration ctx va dst) := agent rfl
theorem migrationAbandon (ctx : Nat) (va : VAddr) : Statement (.migrationAbandon ctx va) := agent rfl
theorem mappingChange (ctx : Nat) (va : VAddr) (level : Nat) (entry : DWord) : Statement (.mappingChange ctx va level entry) := agent rfl
theorem hostBar2Access (ctx : Nat) (offset : Nat) (acc : HostAccess) : Statement (.hostBar2Access ctx offset acc) := agent rfl
theorem hostWindowWrite (offset : Nat) (bytes : (List Byte)) : Statement (.hostWindowWrite offset bytes) := agent rfl
theorem hostSnoopTimeout : Statement (.hostSnoopTimeout) := agent rfl
theorem cxlUncorrectableError : Statement (.cxlUncorrectableError) := agent rfl
theorem doorbell (queue : Nat) (wptr : DWord) : Statement (.doorbell queue wptr) := agent rfl
theorem qctlWrite (queue : Nat) (value : Word) : Statement (.qctlWrite queue value) := agent rfl
theorem registerWrite (offset : Nat) (size : Nat) (value : DWord) : Statement (.registerWrite offset size value) := agent rfl
theorem icwWrite (ctx : Nat) (value : Word) : Statement (.icwWrite ctx value) := agent rfl
theorem packetDispatch : Statement (.packetDispatch) := agent rfl
theorem nopPacket (queue : Nat) : Statement (.nopPacket queue) := agent rfl
theorem launchPacket (queue : Nat) : Statement (.launchPacket queue) := agent rfl
theorem graphPacket (queue : Nat) : Statement (.graphPacket queue) := agent rfl
theorem scriptPacket (queue : Nat) : Statement (.scriptPacket queue) := agent rfl
theorem waitPacket (queue : Nat) : Statement (.waitPacket queue) := agent rfl
theorem flushPacket (queue : Nat) : Statement (.flushPacket queue) := agent rfl
theorem reservedPacket (queue : Nat) : Statement (.reservedPacket queue) := agent rfl
theorem phaseCleaning (queue : Nat) : Statement (.phaseCleaning queue) := agent rfl
theorem scriptHeldStart : Statement (.scriptHeldStart) := agent rfl
theorem cmcTrap (core : Nat) : Statement (.cmcTrap core) := agent rfl
theorem linkDataFlit (link : Nat) (dir : Bool) (flit : Flit) : Statement (.linkDataFlit link dir flit) := agent rfl
theorem linkIdleFlit (link : Nat) (dir : Bool) (flit : Flit) : Statement (.linkIdleFlit link dir flit) := agent rfl
theorem linkNak (link : Nat) (dir : Bool) (flit : Flit) : Statement (.linkNak link dir flit) := agent rfl
theorem linkStateFlit (link : Nat) (dir : Bool) (flit : Flit) : Statement (.linkStateFlit link dir flit) := agent rfl
theorem linkResendTimeout (link : Nat) (dir : Bool) : Statement (.linkResendTimeout link dir) := agent rfl
theorem linkRetrain (link : Nat) : Statement (.linkRetrain link) := agent rfl
theorem linkRetrainEnd (link : Nat) (good : (BitVec 64)) : Statement (.linkRetrainEnd link good) := agent rfl
theorem linkDownRetest (link : Nat) (good : (BitVec 64)) : Statement (.linkDownRetest link good) := agent rfl
theorem lkcrcRead (link : Nat) : Statement (.lkcrcRead link) := agent rfl
theorem fabricFlitReceive (port : Nat) (seq : Word) (auth : FlitSeal) (payload : (List PeerReq)) : Statement (.fabricFlitReceive port seq auth payload) := agent rfl
theorem fabricFlitAck (peer : Nat) (seq : Word) : Statement (.fabricFlitAck peer seq) := agent rfl
theorem fabricResendTimeout (peer : Nat) (seq : Word) : Statement (.fabricResendTimeout peer seq) := agent rfl
theorem stripeRecompute (peer : Nat) : Statement (.stripeRecompute peer) := agent rfl
theorem connected (msg : SwitchMsg) : Statement (.connected msg) := agent rfl
theorem refused (msg : SwitchMsg) : Statement (.refused msg) := agent rfl
theorem released (msg : SwitchMsg) : Statement (.released msg) := agent rfl
theorem broken (msg : SwitchMsg) : Statement (.broken msg) := agent rfl
theorem hello (msg : SwitchMsg) : Statement (.hello msg) := agent rfl
theorem helloSend : Statement (.helloSend) := agent rfl
theorem switchSilent (plane : Nat) : Statement (.switchSilent plane) := agent rfl
theorem connectRetry (slot : Nat) : Statement (.connectRetry slot) := agent rfl
theorem releaseTimeout (slot : Nat) : Statement (.releaseTimeout slot) := agent rfl
theorem portSettled (port : Nat) : Statement (.portSettled port) := agent rfl
theorem portTrained (port : Nat) (usable : LanesUp) : Statement (.portTrained port usable) := agent rfl
theorem portLockTimeout (port : Nat) (unlocked : (BitVec 4)) : Statement (.portLockTimeout port unlocked) := agent rfl
theorem keyAgreementComplete (keys : KeysEnd) : Statement (.keyAgreementComplete keys) := agent rfl
theorem keyAgreementTimeout (who : KeyFor) : Statement (.keyAgreementTimeout who) := agent rfl
theorem rekey (who : KeyFor) : Statement (.rekey who) := agent rfl
theorem peerLost (port : Nat) : Statement (.peerLost port) := agent rfl
theorem authFailureDark (port : Nat) : Statement (.authFailureDark port) := agent rfl
theorem laserModuleRemove (module : Nat) : Statement (.laserModuleRemove module) := agent rfl
theorem laserModuleInsert (module : Nat) (channels : Nat) : Statement (.laserModuleInsert module channels) := agent rfl
theorem moduleMonitorPoll (module : Nat) (bias : (List (BitVec 16))) (moduleTemp : Int) : Statement (.moduleMonitorPoll module bias moduleTemp) := agent rfl
theorem laneRateStepDown (port : Nat) (lane : Nat) (temp : (BitVec 16)) : Statement (.laneRateStepDown port lane temp) := agent rfl
theorem laneRateStepUp (port : Nat) (lane : Nat) (temp : (BitVec 16)) : Statement (.laneRateStepUp port lane temp) := agent rfl
theorem laneRetire (port : Nat) (lane : Nat) : Statement (.laneRetire port lane) := agent rfl
theorem lstatRetireWrite (port : Nat) (lane : Nat) (value : Word) : Statement (.lstatRetireWrite port lane value) := agent rfl
theorem pcapWrite (port : Nat) (value : Word) : Statement (.pcapWrite port value) := agent rfl
theorem tapSample (port : Nat) (lane : Nat) (cpl : (BitVec 16)) (spl : (BitVec 16)) (mod : (BitVec 16)) : Statement (.tapSample port lane cpl spl mod) := agent rfl
theorem wheyFrameReceive (frame : WheyFrame) : Statement (.wheyFrameReceive frame) := agent rfl
theorem wheyRetransmitTimeout (session : Nat) (seq : Word) : Statement (.wheyRetransmitTimeout session seq) := agent rfl
theorem wheySessionTimeout (session : Nat) : Statement (.wheySessionTimeout session) := agent rfl
theorem wheySessionOpen (session : Nat) (record : (List Byte)) : Statement (.wheySessionOpen session record) := agent rfl
theorem cawaitTimeout (op : Nat) : Statement (.cawaitTimeout op) := agent rfl
theorem timerExpiry (ctx : Nat) (timer : Nat) : Statement (.timerExpiry ctx timer) := agent rfl
theorem patrolScrub (line : PAddr) (result : ScrubResult) : Statement (.patrolScrub line result) := agent rfl
theorem uncorrectableError (hit : ErrorSite) : Statement (.uncorrectableError hit) := agent rfl
theorem rasceRead (base : Nat) : Statement (.rasceRead base) := agent rfl
theorem rasueRead (base : Nat) : Statement (.rasueRead base) := agent rfl
theorem powerSample (pwr : (BitVec 16)) (tcp : (BitVec 8)) : Statement (.powerSample pwr tcp) := agent rfl
theorem thermalHalt : Statement (.thermalHalt) := agent rfl
theorem thermalHaltEnd : Statement (.thermalHaltEnd) := agent rfl
theorem pwrctlWrite (value : Word) : Statement (.pwrctlWrite value) := agent rfl
theorem packageStart (pass : (BitVec 16)) (cream : (List Nat)) : Statement (.packageStart pass cream) := agent rfl
theorem startStepTimeout (reason : (BitVec 16)) (pass : (BitVec 16)) : Statement (.startStepTimeout reason pass) := agent rfl
theorem heartbeatTimeout : Statement (.heartbeatTimeout) := agent rfl
theorem hbeatWrite (value : Word) : Statement (.hbeatWrite value) := agent rfl
theorem rollbackClear (value : Word) : Statement (.rollbackClear value) := agent rfl
theorem contextCreate (ctx : Nat) (record : (List Byte)) (res : ContextResources) : Statement (.contextCreate ctx record res) := agent rfl
theorem contextDestroy (ctx : Nat) : Statement (.contextDestroy ctx) := agent rfl
theorem fabricBind (ctx : Nat) (peer : Nat) (peerCtx : (Option Nat)) : Statement (.fabricBind ctx peer peerCtx) := agent rfl
theorem rosterSet (pod : Bool) (keys : (List (List Byte))) : Statement (.rosterSet pod keys) := agent rfl
theorem firmwareStage (image : FirmwareImage) : Statement (.firmwareStage image) := agent rfl
theorem firmwareUpdate : Statement .firmwareUpdate := agent rfl
theorem recordClear : Statement .recordClear := agent rfl
theorem rasRead (base : Nat) : Statement (.rasRead base) := agent rfl
theorem powerSet (value : Word) : Statement (.powerSet value) := agent rfl
theorem hostLinkReset : Statement .hostLinkReset := agent rfl
theorem debugAttach (requester : Nat) (ctx : Nat) : Statement (.debugAttach requester ctx) := agent rfl
theorem debugDetach (requester : Nat) (ctx : Nat) : Statement (.debugDetach requester ctx) := agent rfl
theorem debugHalt (requester : Nat) (die : Nat) : Statement (.debugHalt requester die) := agent rfl
theorem debugResume (requester : Nat) (target : DebugTarget) : Statement (.debugResume requester target) := agent rfl
theorem debugRead (requester : Nat) (group : Nat) (obj : DebugObj) : Statement (.debugRead requester group obj) := agent rfl
theorem debugWrite (requester : Nat) (group : Nat) (obj : DebugObj) (value : DebugVal) : Statement (.debugWrite requester group obj value) := agent rfl
theorem spdmSessionEnd (requester : Nat) : Statement (.spdmSessionEnd requester) := agent rfl
theorem getVersion (msg : (List Byte)) : Statement (.getVersion msg) := agent rfl
theorem getCapabilities (msg : (List Byte)) : Statement (.getCapabilities msg) := agent rfl
theorem negotiateAlgorithms (msg : (List Byte)) : Statement (.negotiateAlgorithms msg) := agent rfl
theorem getDigests (msg : (List Byte)) : Statement (.getDigests msg) := agent rfl
theorem getCertificate (msg : (List Byte)) : Statement (.getCertificate msg) := agent rfl
theorem challenge (msg : (List Byte)) : Statement (.challenge msg) := agent rfl
theorem getMeasurements (msg : (List Byte)) : Statement (.getMeasurements msg) := agent rfl
theorem keyExchange (msg : (List Byte)) : Statement (.keyExchange msg) := agent rfl
theorem finish (msg : FinishMsg) : Statement (.finish msg) := agent rfl
theorem hostWindowRead (offset : Nat) : Statement (.hostWindowRead offset) := agent rfl
theorem laserChannelFailure (port : Nat) (lane : Nat) : Statement (.laserChannelFailure port lane) := agent rfl
theorem laneRetrainEnd (port : Nat) (lane : Nat) : Statement (.laneRetrainEnd port lane) := agent rfl

end Sys2Proof.Laws.Codepoint
end

