-- ==== Sys2Proof/Tests/Words.lean ====
section
/-! SUPPORT. Witnesses for the statements about words: for each, words that issue from small states in which all its
hypotheses hold together. -/

set_option Elab.async false

namespace Sys2Proof.Tests

open Machine Stated

/-- Register 4 of the pipe, register 0, `zero`, `imm`, and a special register. -/
def r4 : Operand := field .main 4
def r0 : Operand := field .main 0
def zr : Operand := zeroField
def im : Operand := immField
def sp (n : Nat) : Operand := field .special n

/-- The fields of a word: MOD, D, A, B, C and IMM, the rest at their defaults. -/
def wd (mod : Nat) (d a b c : Operand) (imm : Nat) : Fields :=
  { plainFields with mod := BitVec.ofNat 6 mod, d := d, a := a, b := b, c := c, imm := BitVec.ofNat 32 imm }

/-- The state in which the word of an instruction is the next to run, prepared further. -/
def at_ (i : Instr) (prep : State → State) : State :=
  match encode i with
  | some w => prep { State.reset.withFetchWord 128 w.toNat with chosen := [] }
  | none => State.reset

/-- The word of `i` issues at `s` with some active lane, and a condition holds. -/
def issues (i : Instr) (s : State) (may : State → Ctx → Bool) : Bool :=
  match i.info with
  | none => false
  | some info =>
    let c := s.ctx info
    (mapGet? s.groups s.cur.group).isSome && may s c && c.active != 0#32
      && (match gate s c with
        | .pass => true
        | _ => false)
      && match linkSteps c (linkAccesses s c) s with
        | .ok _ => true
        | _ => false

/-- No condition. -/
def yes : State → Ctx → Bool := fun _ _ => true

/-- What `issues` computes is the hypothesis of the statements. -/
theorem issues_iff {i : Instr} {s : State} {may : State → Ctx → Bool} (h : issues i s may = true) :
    ∃ s' c, Issues i s s' c ∧ may s c = true := by
  unfold issues at h
  split at h
  · cases h
  · next info hi =>
    simp only [Bool.and_eq_true, bne_iff_ne] at h
    obtain ⟨⟨⟨⟨hg, hm⟩, ha⟩, hp⟩, hl⟩ := h
    cases hgate : gate s (s.ctx info) with
    | pass =>
      cases hlink : linkSteps (s.ctx info) (linkAccesses s (s.ctx info)) s with
      | ok s' => exact ⟨s', s.ctx info, ⟨hi, rfl, hg, hgate, hlink, ha⟩, hm⟩
      | _ => rw [hlink] at hl; cases hl
    | _ => rw [hgate] at hp; cases hp

/-! ## States -/

/-- The group that runs the word, changed. -/
def grp (f : Group → Group) (s : State) : State := s.modGroup s.cur.group f

/-- A lane register with a value in every lane. -/
def xr (n : Nat) (v : Word) : State → State := grp fun g => { g with x := mapSet g.x n ⟨[n], Vector.replicate 32 v, false, 0⟩ }

/-- A uniform register. -/
def qr (n : Nat) (v : Word) : State → State := grp fun g => { g with q := g.q.setIfInBounds n v }

/-- A team of one group with a deep window. -/
def team1 (deep : Nat) : Team where
  grid := 0
  index := 0#32
  core := 0
  ctx := 1
  ngrp := 1
  producers := 0
  deepSize := deep
  mirror := []
  frame := 0
  age := 0
  bars := Vector.replicate 8 Barrier.closed
  cbs := Vector.replicate 8 ByteBarrier.zero
  nteam := 1#32
  node := 0#32
  nrec := 0#32
  swap := .resident
  ready := true
  saved := []
  ended := false

/-- The word's group belongs to that team. -/
def inTeam (deep : Nat) (s : State) : State := { s with teams := [(0, team1 deep)] }

/-- A kernel of one group. -/
def kernel1 : Descriptor := ⟨64, 0, 1, 0, 16, 512, 16, 512, [], 0, 0, []⟩

/-- A launch of one team of that kernel in context 1, with one node. -/
def launch1 : Launch where
  queue := 0
  index := 0
  gen := 0
  tlInit := 0#64
  parent := none
  ctx := 1
  packet := ⟨1, 0#8, 0#16, 1, 0#16, 0#64, 1, 0, 0, 0#64, 0#64, 0#64, 0#64, 0#64, 0, 0#64, 0#64, 0⟩
  desc := kernel1
  chc := none
  args := []
  nodes := [⟨0#64, kernel1, 1, 16, 0⟩]
  counter := 1
  error := 0#16
  errorLost := false
  teams := 1
  startNs := 0
  moveNs := 0
  churnSeen := []
  churnLeft := []
  handler := none
  done := false

/-- The word's context, changed. -/
def ctx1 (f : Context → Context) (s : State) : State := s.modContext 1 f

/-- A tile to drain, for a TDRAIN. -/
def withTile (s : State) : State := s.modChurn 0 fun x => { x with drain := [⟨[], none⟩] }

/-- A launch of the word's team that declares node 0. -/
def withNode (s : State) : State := { inTeam 0 s with launches := [(0, launch1)] }

/-- The word's group is in handler mode. -/
def handling : State → State := grp fun g => { g with trap := { g.trap with hm := true, vec := fetchPc, mask := 0xFFFFFFFF#32 } }

/-- The word's group is the program of another engine. -/
def onEngine (e : EngineKind) (s : State) : State :=
  { s with groups := [(fetchKey e, fetchGroup e)], cur := ⟨fetchKey e, fetchPc, 1#32, 0⟩ }

/-! ## Words -/

/-- Words of R117 that issue. -/
theorem witness_IntegerArithmetic :
    ([.iadd (wd 0 r4 r4 r4 zr 0),
      .isub (wd 0 r4 r4 r4 zr 0),
      .imul (wd 0 r4 r4 r4 zr 0),
      .imulhi (wd 0 r4 r4 r4 zr 0),
      .imad (wd 0 r4 r4 r4 r4 0),
      .imin (wd 0 r4 r4 r4 zr 0),
      .imax (wd 0 r4 r4 r4 zr 0),
      .iabs (wd 0 r4 r4 zr zr 0),
      .isad (wd 0 r4 r4 r4 r4 0),
      .isum (wd 0 r4 r4 r4 r4 0),
      .idp4 (wd 0 r4 r4 r4 r4 0),
      .imadw (wd 0 r4 r4 r4 r4 0),
      .uiadd (wd 0 r4 r4 r4 zr 0),
      .uisub (wd 0 r4 r4 r4 zr 0),
      .uimul (wd 0 r4 r4 r4 zr 0),
      .uimulhi (wd 0 r4 r4 r4 zr 0),
      .uimad (wd 0 r4 r4 r4 r4 0),
      .uimin (wd 0 r4 r4 r4 zr 0),
      .uimax (wd 0 r4 r4 r4 zr 0),
      .uiabs (wd 0 r4 r4 zr zr 0),
      .uisad (wd 0 r4 r4 r4 r4 0),
      .uisum (wd 0 r4 r4 r4 r4 0),
      .uidp4 (wd 0 r4 r4 r4 r4 0),
      .uimadw (wd 0 r4 r4 r4 r4 0)].all fun i => issues i (at_ i id) yes) = true := by
  decide +kernel

/-- Words of R120 that issue. -/
theorem witness_LogicAndShifts :
    ([.and (wd 0 r4 r4 r4 zr 0),
      .or (wd 0 r4 r4 r4 zr 0),
      .xor (wd 0 r4 r4 r4 zr 0),
      .lut3 (wd 0 r4 r4 r4 r4 0),
      .shl (wd 0 r4 r4 r4 zr 0),
      .shr (wd 0 r4 r4 r4 zr 0),
      .sar (wd 0 r4 r4 r4 zr 0),
      .rot (wd 0 r4 r4 r4 zr 0),
      .catsh (wd 0 r4 r4 r4 r4 0),
      .uand (wd 0 r4 r4 r4 zr 0),
      .uor (wd 0 r4 r4 r4 zr 0),
      .uxor (wd 0 r4 r4 r4 zr 0),
      .ulut3 (wd 0 r4 r4 r4 r4 0),
      .ushl (wd 0 r4 r4 r4 zr 0),
      .ushr (wd 0 r4 r4 r4 zr 0),
      .usar (wd 0 r4 r4 r4 zr 0),
      .urot (wd 0 r4 r4 r4 zr 0),
      .ucatsh (wd 0 r4 r4 r4 r4 0)].all fun i => issues i (at_ i id) yes) = true := by
  decide +kernel

/-- Words of R120 to R122 that issue. -/
theorem witness_BitFields :
    ([.bxtr (wd 0 r4 r4 r4 zr 0),
      .bins (wd 0 r4 r4 r4 r4 0),
      .ones (wd 0 r4 r4 zr zr 0),
      .clz (wd 0 r4 r4 zr zr 0),
      .bitrev (wd 0 r4 r4 zr zr 0),
      .bysel (wd 0 r4 r4 r4 r4 0),
      .ubxtr (wd 0 r4 r4 r4 zr 0),
      .ubins (wd 0 r4 r4 r4 r4 0),
      .uones (wd 0 r4 r4 zr zr 0),
      .uclz (wd 0 r4 r4 zr zr 0),
      .ubitrev (wd 0 r4 r4 zr zr 0),
      .ubysel (wd 0 r4 r4 r4 r4 0)].all fun i => issues i (at_ i id) yes) = true := by
  decide +kernel

/-- Words of R118 and R119 that issue (IDIV and IREM with MOD[5] = 0). -/
theorem witness_DivisionAndAddresses :
    ([.idiv (wd 0 r4 r4 r4 zr 0),
      .irem (wd 0 r4 r4 r4 zr 0),
      .lea (wd 0 r4 r4 r4 zr 0),
      .leas (wd 0 r4 r4 r4 zr 0),
      .uidiv (wd 0 r4 r4 r4 zr 0),
      .uirem (wd 0 r4 r4 r4 zr 0),
      .ulea (wd 0 r4 r4 r4 zr 0),
      .uleas (wd 0 r4 r4 r4 zr 0)].all fun i => issues i (at_ i id) yes) = true := by
  decide +kernel

/-- Compares that issue, ICMP with the last condition it has (5). -/
theorem witness_Compares :
    ([.icmp (wd 40 (sp 64) r4 r4 zr 0),
      .uicmp (wd 40 (sp 72) r4 r4 zr 0),
      .fcmp (wd 0 (sp 64) r4 r4 zr 0),
      .ufcmp (wd 0 (sp 72) r4 r4 zr 0),
      .dcmp (wd 0 (sp 64) r4 r4 zr 0),
      .d8cmp (wd 0 (sp 64) r4 r4 zr 0)].all fun i => issues i (at_ i id) yes) = true := by
  decide +kernel

/-- Predicate moves that issue (PLOG with its last operation, 4). -/
theorem witness_PredicateMoves :
    ([.plog (wd 32 (sp 64) (sp 64) (sp 64) zr 0),
      .uplog (wd 32 (sp 72) (sp 72) (sp 72) zr 0),
      .ptox (wd 0 r4 zr zr zr 0),
      .uptox (wd 0 r4 zr zr zr 0),
      .xtop (wd 0 zr r4 r4 zr 0),
      .uxtop (wd 0 zr r4 r4 zr 0)].all fun i => issues i (at_ i id) yes) = true := by
  decide +kernel

/-- Moves that issue, UREADL of a register without poison. -/
theorem witness_Moves :
    ([.mov (wd 0 r4 r4 zr zr 0),
      .umov (wd 0 r4 r4 zr zr 0),
      .movq (wd 0 r4 r4 zr zr 0),
      .sel (wd 0 r4 r4 r4 (sp 64) 0),
      .usel (wd 0 r4 r4 r4 (sp 72) 0),
      .nop (wd 0 zr zr zr zr 0),
      .unop (wd 0 zr zr zr zr 0)].all fun i => issues i (at_ i id) yes) = true
    ∧ ([.ureadl (wd 0 r4 r4 r4 zr 0)].all fun i => issues i (at_ i id) (fun s c => readlPoison s c ((low 5 (opB s c 0)).toNat) == false)) = true := by
  decide +kernel

/-- FP words that issue. -/
theorem witness_FloatArithmetic :
    ([.fadd (wd 0 r4 r4 r4 zr 0),
      .ufadd (wd 0 r4 r4 r4 zr 0),
      .fmul (wd 0 r4 r4 r4 zr 0),
      .ufmul (wd 0 r4 r4 r4 zr 0),
      .ffma (wd 0 r4 r4 r4 r4 0),
      .uffma (wd 0 r4 r4 r4 r4 0),
      .fint (wd 0 r4 r4 zr zr 0),
      .fmin (wd 0 r4 r4 r4 zr 0),
      .ufmin (wd 0 r4 r4 r4 zr 0),
      .fmax (wd 0 r4 r4 r4 zr 0),
      .ufmax (wd 0 r4 r4 r4 zr 0),
      .fabs (wd 0 r4 r4 zr zr 0),
      .fclass (wd 0 r4 r4 zr zr 0)].all fun i => issues i (at_ i id) yes) = true := by
  decide +kernel

/-- FP64 and packed words that issue. -/
theorem witness_DoubleAndPacked :
    ([.dadd (wd 0 r4 r4 r4 zr 0),
      .dmul (wd 0 r4 r4 r4 zr 0),
      .dfma (wd 0 r4 r4 r4 r4 0),
      .dint (wd 0 r4 r4 zr zr 0),
      .dmin (wd 0 r4 r4 r4 zr 0),
      .dmax (wd 0 r4 r4 r4 zr 0),
      .dabs (wd 0 r4 r4 zr zr 0),
      .drcp (wd 0 r4 r4 zr zr 0),
      .dsqrt (wd 0 r4 r4 zr zr 0),
      .ddiv (wd 0 r4 r4 r4 zr 0),
      .pkadd (wd 0 r4 r4 r4 zr 0),
      .pkmul (wd 0 r4 r4 r4 zr 0),
      .pkfma (wd 0 r4 r4 r4 r4 0),
      .pkmin (wd 0 r4 r4 r4 zr 0),
      .pkmax (wd 0 r4 r4 r4 zr 0)].all fun i => issues i (at_ i id) yes) = true := by
  decide +kernel

/-- Special functions that issue. -/
theorem witness_SpecialFunctions :
    ([.frcp (wd 0 r4 r4 zr zr 0),
      .fsqrt (wd 0 r4 r4 zr zr 0),
      .fdiv (wd 0 r4 r4 r4 zr 0),
      .frsq (wd 0 r4 r4 zr zr 0),
      .fex2 (wd 0 r4 r4 zr zr 0),
      .flg2 (wd 0 r4 r4 zr zr 0),
      .fex10 (wd 0 r4 r4 zr zr 0),
      .flg10 (wd 0 r4 r4 zr zr 0),
      .fsin (wd 0 r4 r4 zr zr 0),
      .fcos (wd 0 r4 r4 zr zr 0)].all fun i => issues i (at_ i id) yes) = true := by
  decide +kernel

/-- Conversions that issue. -/
theorem witness_Conversions :
    ([.cvti2f (wd 0 r4 r4 zr zr 0),
      .ucvti2f (wd 0 r4 r4 zr zr 0),
      .cvtf2i (wd 0 r4 r4 zr zr 0),
      .ucvtf2i (wd 0 r4 r4 zr zr 0),
      .cvtf2f (wd 0 r4 r4 zr zr 0),
      .cvti2i (wd 0 r4 r4 zr zr 0)].all fun i => issues i (at_ i id) yes) = true := by
  decide +kernel

/-- D8 words that issue. -/
theorem witness_D8Operations :
    ([.d8pack (wd 0 r4 r4 r4 zr 0),
      .d8unpk (wd 0 r4 r4 r4 zr 0),
      .d8min (wd 0 r4 r4 r4 zr 0),
      .d8max (wd 0 r4 r4 r4 zr 0),
      .d8scale (wd 0 r4 r4 zr zr 0)].all fun i => issues i (at_ i id) yes) = true := by
  decide +kernel

/-- Cross-lane words that issue, with the last operation of each (VOTE 2, GREDF 0 to 2, GSCAN 3). -/
theorem witness_AcrossLanes :
    ([.perm (wd 0 r4 r4 r4 zr 0),
      .permup (wd 0 r4 r4 r4 zr 0),
      .permdn (wd 0 r4 r4 r4 zr 0),
      .permx (wd 0 r4 r4 r4 zr 0),
      .ballot (wd 0 r4 (sp 64) zr zr 0),
      .matchEq (wd 0 r4 r4 zr zr 0),
      .gredi (wd 0 r4 r4 zr zr 0),
      .vote (wd 16 (sp 64) (sp 64) zr zr 0),
      .gredf (wd 0 r4 r4 zr zr 0),
      .gredf (wd 8 r4 r4 zr zr 0),
      .gredf (wd 16 r4 r4 zr zr 0),
      .gscan (wd 24 r4 r4 zr zr 0)].all fun i => issues i (at_ i id) yes) = true := by
  decide +kernel

/-- The last entries of a deep window of 8 words, and the first beyond it. -/
theorem witness_DeepWindow :
    ([.ldx .b32 (wd 0 r4 r4 zr zr 7),
      .stx .b32 (wd 0 zr r4 r4 zr 7)].all fun i => issues i (at_ i (inTeam 8)) (fun s c => (lanesOf c.active).all (fun l => !beyondDeep s c 1 l) && (s.group c.key).poison.isEmpty)) = true
    ∧ ([.ldx .b64 (wd 0 r4 r4 zr zr 6),
      .stx .b64 (wd 0 zr r4 r4 zr 6)].all fun i => issues i (at_ i (inTeam 8)) (fun s c => (lanesOf c.active).all (fun l => !beyondDeep s c 2 l) && (s.group c.key).poison.isEmpty)) = true
    ∧ ([.ldx .b32 (wd 0 r4 r4 zr zr 8),
      .stx .b32 (wd 0 zr r4 r4 zr 8)].all fun i => issues i (at_ i (inTeam 8)) (fun s c => !olderFaults s c && (lanesOf c.active).find? (beyondDeep s c 1) == some 0)) = true
    ∧ ([.ldx .b64 (wd 0 r4 r4 zr zr 7),
      .stx .b64 (wd 0 zr r4 r4 zr 7)].all fun i => issues i (at_ i (inTeam 8)) (fun s c => !olderFaults s c && (lanesOf c.active).find? (beyondDeep s c 2) == some 0)) = true := by
  decide +kernel

/-- Accesses at address 0, and at addresses 1, 4 and 7, which are off 4 and 8 bytes. -/
theorem witness_MemoryWords :
    ([.ld .b32 (wd 0 r4 r4 (sp 0x61) zr 0),
      .uld .b32 (wd 0 r4 r4 (sp 0x61) zr 0),
      .lda .b32 (wd 0 r4 r4 (sp 0x61) zr 0),
      .ulda .b32 (wd 0 r4 r4 (sp 0x61) zr 0),
      .st .b32 .ga (wd 0 zr r4 (sp 0x61) r4 0),
      .st .b32 .ef (wd 0 zr r4 (sp 0x61) r4 0),
      .ust .b32 .ga (wd 0 zr r4 (sp 0x61) r4 0),
      .str .b32 .ga (wd 0 zr r4 (sp 0x61) r4 0),
      .ustr .b32 .ga (wd 0 zr r4 (sp 0x61) r4 0),
      .atom .add .ga (wd 0 r4 r4 (sp 0x61) r4 0),
      .uatom .add .ga (wd 0 r4 r4 (sp 0x61) r4 0),
      .red .add .ga (wd 0 zr r4 (sp 0x61) r4 0),
      .ured .add .ga (wd 0 zr r4 (sp 0x61) r4 0),
      .atom .add .ef (wd 0 r4 r4 (sp 0x61) r4 0)].all fun i => issues i (at_ i id) (fun s c => (lanesOf c.active).all fun l => (address s c l).toNat % 4 = 0)) = true
    ∧ ([.ld .b32 (wd 0 r4 r4 (sp 0x61) zr 1),
      .uld .b32 (wd 0 r4 r4 (sp 0x61) zr 1),
      .lda .b32 (wd 0 r4 r4 (sp 0x61) zr 1),
      .ulda .b32 (wd 0 r4 r4 (sp 0x61) zr 1),
      .st .b32 .ga (wd 0 zr r4 (sp 0x61) r4 1),
      .st .b32 .ef (wd 0 zr r4 (sp 0x61) r4 1),
      .ust .b32 .ga (wd 0 zr r4 (sp 0x61) r4 1),
      .str .b32 .ga (wd 0 zr r4 (sp 0x61) r4 1),
      .ustr .b32 .ga (wd 0 zr r4 (sp 0x61) r4 1),
      .atom .add .ga (wd 0 r4 r4 (sp 0x61) r4 1),
      .uatom .add .ga (wd 0 r4 r4 (sp 0x61) r4 1),
      .red .add .ga (wd 0 zr r4 (sp 0x61) r4 1),
      .ured .add .ga (wd 0 zr r4 (sp 0x61) r4 1),
      .atom .add .ef (wd 0 r4 r4 (sp 0x61) r4 1)].all fun i => issues i (at_ i id) (fun s c => !olderFaults s c && (lanesOf c.active).find? (fun l => (address s c l).toNat % 4 != 0) == some 0)) = true
    ∧ ([.ld .b64 (wd 0 r4 r4 (sp 0x61) zr 0),
      .st .b64 .ga (wd 0 zr r4 (sp 0x61) r4 0),
      .lda .b64 (wd 0 r4 r4 (sp 0x61) zr 0),
      .atom .add .ga (wd 2 r4 r4 (sp 0x61) r4 0)].all fun i => issues i (at_ i id) (fun s c => (lanesOf c.active).all fun l => (address s c l).toNat % 8 = 0)) = true
    ∧ ([.ld .b64 (wd 0 r4 r4 (sp 0x61) zr 4),
      .st .b64 .ga (wd 0 zr r4 (sp 0x61) r4 7)].all fun i => issues i (at_ i id) (fun s c => !olderFaults s c && (lanesOf c.active).find? (fun l => (address s c l).toNat % 8 != 0) == some 0)) = true
    ∧ ([.ld .b128 (wd 0 r4 r4 (sp 0x61) zr 0)].all fun i => issues i (at_ i id) (fun s c => (lanesOf c.active).all fun l => (address s c l).toNat % 16 = 0)) = true
    ∧ ([.pref (wd 0 zr r4 (sp 0x61) zr 0)].all fun i => issues i (at_ i id) yes) = true := by
  decide +kernel

/-- Remote words towards peer 1, bound to a context of it; towards this package; and off 4 bytes. -/
theorem witness_RemoteWords :
    ([.rld .b32 (wd 0 r4 r4 r4 zr 0),
      .urld .b32 (wd 0 r4 r4 r4 zr 0),
      .rst .b32 (wd 0 zr r4 r4 r4 0),
      .urst .b32 (wd 0 zr r4 r4 r4 0),
      .ratom .add (wd 40 r4 r4 r4 r4 0),
      .ffence (wd 0 zr r4 r4 r4 0),
      .uffence (wd 0 zr r4 r4 r4 0)].all fun i => issues i (at_ i (fun s => ctx1 (fun x => { x with binds := [(1, 1)] }) (xr 4 0x10000#32 (qr 4 0x10000#32 s)))) (fun s c => (lanesOf c.active).all fun l => (remoteAddress s c l).toNat % 4 == 0 && !badPeerOf s c l)) = true
    ∧ ([.rld .b32 (wd 0 r4 r4 r4 zr 0),
      .urld .b32 (wd 0 r4 r4 r4 zr 0),
      .rst .b32 (wd 0 zr r4 r4 r4 0),
      .urst .b32 (wd 0 zr r4 r4 r4 0),
      .ratom .add (wd 40 r4 r4 r4 r4 0),
      .ffence (wd 0 zr r4 r4 r4 0),
      .uffence (wd 0 zr r4 r4 r4 0)].all fun i => issues i (at_ i id) (fun s c => !olderFaults s c && (lanesOf c.active).all (fun l => (remoteAddress s c l).toNat % 4 == 0) && (lanesOf c.active).find? (badPeerOf s c) == some 0)) = true
    ∧ ([.rld .b32 (wd 0 r4 r4 r4 zr 1),
      .urld .b32 (wd 0 r4 r4 r4 zr 1),
      .rst .b32 (wd 0 zr r4 r4 r4 1),
      .urst .b32 (wd 0 zr r4 r4 r4 1),
      .ratom .add (wd 40 r4 r4 r4 r4 1),
      .ffence (wd 0 zr r4 r4 r4 1),
      .uffence (wd 0 zr r4 r4 r4 1)].all fun i => issues i (at_ i id) (fun s c => !olderFaults s c && (lanesOf c.active).find? (fun l => (remoteAddress s c l).toNat % 4 != 0) == some 0)) = true := by
  decide +kernel

/-- Fences that issue, with paths and memory that are not reserved. -/
theorem witness_Fences :
    ([.fence (wd 0 zr zr zr zr 0),
      .ufence (wd 0 zr zr zr zr 0)].all fun i => issues i (at_ i id) yes) = true
    ∧ ([.fencex (wd 0 zr zr zr zr 0),
      .ufencex (wd 0 zr zr zr zr 0)].all fun i => issues i (at_ i id) (fun _ c => (AccPath.ofCode c.f.modHi).isSome && (AccPath.ofCode c.f.modLo).isSome)) = true
    ∧ ([.drain (wd 0 zr zr zr zr 0),
      .udrain (wd 0 zr zr zr zr 0)].all fun i => issues i (at_ i id) (fun _ c => (AccPath.ofCode c.f.modHi).isSome && (MemKind.ofCode c.f.modLo).isSome)) = true := by
  decide +kernel

/-- Transaction words that issue. -/
theorem witness_Transactions :
    ([.xbegin (wd 0 zr zr zr zr 0),
      .xend (wd 0 zr zr zr zr 0),
      .xabort (wd 0 zr r4 zr zr 0)].all fun i => issues i (at_ i id) yes) = true := by
  decide +kernel

/-- Barrier words that issue, and one whose count is above the groups of its team. -/
theorem witness_Barriers :
    ([.bar (wd 0 zr r4 zr zr 0),
      .bara (wd 0 zr r4 zr zr 0),
      .barc (wd 0 zr r4 zr zr 0),
      .bard (wd 0 zr r4 zr zr 0)].all fun i => issues i (at_ i (inTeam 0)) (fun s c => !barTraps s c)) = true
    ∧ ([.bar (wd 0 zr im zr zr 2),
      .bara (wd 0 zr im zr zr 2)].all fun i => issues i (at_ i (inTeam 0)) (fun s c => !olderFaults s c && (s.group c.key).liveMask &&& ~~~c.active == 0#32 && s.ops.isEmpty && (s.team? (s.group c.key).team).isSome && 1 < (low 32 (opA s c (firstLane c.active))).toNat)) = true := by
  decide +kernel

/-- Rejoin words that issue, and a JSET of a mask at which a lane waits. -/
theorem witness_RejoinMasks :
    ([.jset (wd 0 (sp 80) zr zr zr 0),
      .join (wd 0 (sp 80) zr zr zr 0),
      .jdrop (wd 0 (sp 80) zr zr zr 0)].all fun i => issues i (at_ i id) (fun s c => (oldJoin s c).arrived == 0#32)) = true
    ∧ ([.jset (wd 0 (sp 80) zr zr zr 0)].all fun i => issues i (at_ i (grp fun g => g.setRejoin (0) ⟨3#32, 1#32⟩)) (fun s c => !olderFaults s c && (oldJoin s c).arrived != 0#32)) = true := by
  decide +kernel

/-- Word waits at address 0 and at address 1. -/
theorem witness_WordWaits :
    ([.wwait (wd 0 r4 r4 (sp 0x61) r4 0),
      .uwwait (wd 0 r4 r4 (sp 0x61) r4 0)].all fun i => issues i (at_ i id) (fun s c => (lanesOf c.active).all fun l => (address s c l).toNat % 4 = 0)) = true
    ∧ ([.wwait (wd 0 r4 r4 (sp 0x61) r4 1),
      .uwwait (wd 0 r4 r4 (sp 0x61) r4 1)].all fun i => issues i (at_ i id) (fun s c => !olderFaults s c && (lanesOf c.active).find? (fun l => (address s c l).toNat % 4 != 0) == some 0)) = true := by
  decide +kernel

/-- Words of byte-counting barriers that issue. -/
theorem witness_ByteBarrierWords :
    ([.cbpost (wd 0 zr r4 zr zr 0),
      .ucbpost (wd 0 zr r4 zr zr 0),
      .cbwait (wd 0 zr zr zr zr 0),
      .ucbwait (wd 0 zr zr zr zr 0)].all fun i => issues i (at_ i (inTeam 0)) yes) = true := by
  decide +kernel

/-- Copy words that issue, and a TCOPY off 64 bytes. -/
theorem witness_CopyWords :
    ([.tcopy (wd 0 zr r4 (sp 0x61) r4 0)].all fun i => issues i (at_ i id) (fun s c => (address s c 0).toNat % 64 == 0)) = true
    ∧ ([.tclose (wd 0 zr zr zr zr 0),
      .twait (wd 0 zr r4 zr zr 0)].all fun i => issues i (at_ i id) yes) = true
    ∧ ([.tcopy (wd 0 zr r4 (sp 0x61) r4 32)].all fun i => issues i (at_ i id) (fun s c => !olderFaults s c && (address s c 0).toNat % 64 != 0)) = true := by
  decide +kernel

/-- Feeds of every form with a good format at address 0; off 64 bytes; with a reserved format (3), and with formats
that differ among the lanes; a TDRAIN at address 0 and off 256 bytes, with a tile to drain. -/
theorem witness_FeedAndDrain :
    ([.tfeed (wd 0 zr r4 (sp 0x61) r4 0),
      .tfeed (wd 8 zr r4 (sp 0x61) r4 0),
      .tfeed (wd 16 zr r4 (sp 0x61) r4 0),
      .tfeedStab (wd 24 zr r4 (sp 0x61) r4 0)].all fun i => issues i (at_ i id) (fun s c => ((lanesOf c.active).all fun l => low 32 (opC s c l) == low 32 (opC s c (firstLane c.active))) && !(decide (formatOf s c / 8 % 32 ≠ 0) || decide (formatOf s c % 4 = 3) || (decide (formatOf s c / 4 % 2 = 1) && decide (formatOf s c % 4 ≠ 0))) && ((lanesOf c.active).all fun l => (address s c l).toNat % 64 == 0))) = true
    ∧ ([.tfeed (wd 0 zr r4 (sp 0x61) r4 32),
      .tfeed (wd 8 zr r4 (sp 0x61) r4 1),
      .tfeed (wd 16 zr r4 (sp 0x61) r4 1),
      .tfeedStab (wd 24 zr r4 (sp 0x61) r4 1)].all fun i => issues i (at_ i id) (fun s c => !olderFaults s c && ((lanesOf c.active).all fun l => low 32 (opC s c l) == low 32 (opC s c (firstLane c.active))) && !(decide (formatOf s c / 8 % 32 ≠ 0) || decide (formatOf s c % 4 = 3) || (decide (formatOf s c / 4 % 2 = 1) && decide (formatOf s c % 4 ≠ 0))) && ((lanesOf c.active).find? (fun l => (address s c l).toNat % 64 != 0) == some 0))) = true
    ∧ ([.tfeed (wd 0 zr r4 (sp 0x61) (field .main 5) 0),
      .tfeedStab (wd 24 zr r4 (sp 0x61) (field .main 5) 0)].all fun i => issues i (at_ i (xr 5 3#32)) (fun s c => !olderFaults s c && ((lanesOf c.active).all fun l => low 32 (opC s c l) == low 32 (opC s c (firstLane c.active))) && (decide (formatOf s c / 8 % 32 ≠ 0) || decide (formatOf s c % 4 = 3) || (decide (formatOf s c / 4 % 2 = 1) && decide (formatOf s c % 4 ≠ 0))))) = true
    ∧ ([.tfeed (wd 0 zr r4 (sp 0x61) (field .main 5) 0),
      .tfeedStab (wd 24 zr r4 (sp 0x61) (field .main 5) 0)].all fun i => issues i (at_ i (grp fun g => { g with x := mapSet g.x 5 ⟨[5], Vector.ofFn fun l => BitVec.ofNat 32 (256 * l.val), false, 0⟩ })) (fun s c => !olderFaults s c && !((lanesOf c.active).all fun l => low 32 (opC s c l) == low 32 (opC s c (firstLane c.active))))) = true
    ∧ ([.tdrain (wd 0 zr r4 (sp 0x61) zr 0)].all fun i => issues i (at_ i withTile) (fun s c => (lanesOf c.active).all fun l => (address s c l).toNat % 256 = 0)) = true
    ∧ ([.tdrain (wd 0 zr r4 (sp 0x61) zr 64)].all fun i => issues i (at_ i withTile) (fun s c => !olderFaults s c && (lanesOf c.active).find? (fun l => (address s c l).toNat % 256 != 0) == some 0)) = true := by
  decide +kernel

/-- Macro-operations at the ends of their ranges: counts of fed tiles of 8 and 9, bits beyond the form, a reserved
format, and addresses on and off 128 bytes. -/
theorem witness_MacroWords :
    ([.mma (wd 0 zr zr zr zr 64),
      .mma (wd 8 zr zr zr zr 128),
      .mmag (wd 0 zr zr zr zr 268370032),
      .mmag (wd 8 zr zr zr zr 65520),
      .mzero (wd 0 zr zr zr zr 15),
      .mmovDrain (wd 0 zr zr zr zr 15),
      .mld (wd 0 zr r4 (sp 0x61) zr 15),
      .mst (wd 0 zr r4 (sp 0x61) zr 15),
      .mmovCopy (wd 8 zr zr zr zr 255)].all fun i => issues i (at_ i id) yes) = true
    ∧ ([.mma (wd 0 zr zr zr zr 80),
      .mma (wd 0 zr zr zr zr 0),
      .mma (wd 0 zr zr zr zr 65552),
      .mma (wd 8 zr zr zr zr 144),
      .mmag (wd 0 zr zr zr zr 128),
      .mmag (wd 0 zr zr zr zr 0),
      .mmag (wd 0 zr zr zr zr 268435472),
      .mzero (wd 0 zr zr zr zr 16),
      .mmovDrain (wd 0 zr zr zr zr 16),
      .mld (wd 0 zr r4 (sp 0x61) zr 16),
      .mst (wd 0 zr r4 (sp 0x61) zr 16),
      .mmovCopy (wd 8 zr zr zr zr 256)].all fun i => issues i (at_ i id) (fun s c => !olderFaults s c)) = true
    ∧ ([.mma (wd 8 zr zr zr (field .main 8) 16),
      .mmag (wd 8 zr zr zr (field .main 8) 16)].all fun i => issues i (at_ i (qr 8 3#32)) (fun s c => !olderFaults s c && uC s c == 3)) = true
    ∧ ([.mld (wd 0 zr (field .main 8) (sp 0x61) zr 0),
      .mst (wd 0 zr (field .main 8) (sp 0x61) zr 0)].all fun i => issues i (at_ i (qr 8 64#32)) (fun s c => !olderFaults s c && (low 64 (opA s c 0)).toNat % 128 != 0)) = true := by
  decide +kernel

/-- Leases of 4,096 and 4,097, LREL and LEASEM. -/
theorem witness_LeaseWords :
    ([.lease (wd 0 zr im zr zr 4096)].all fun i => issues i (at_ i id) (fun s c => decide (uA s c ≤ 4096))) = true
    ∧ ([.lease (wd 0 zr im zr zr 4097)].all fun i => issues i (at_ i id) (fun s c => !olderFaults s c && decide (4096 < uA s c))) = true
    ∧ ([.lrel (wd 0 zr zr zr zr 0),
      .leasem (wd 0 r4 zr zr zr 0)].all fun i => issues i (at_ i id) yes) = true := by
  decide +kernel

/-- An EMIT to a declared node, to one not declared and off 4 bytes; an ENQ to a queue of the context, off 64 bytes,
to queue 256, and to a queue of another context. -/
theorem witness_WorkCreation :
    ([.emit (wd 0 zr r4 (sp 0x61) r4 0)].all fun i => issues i (at_ i withNode) (fun s c => ((lanesOf c.active).all fun l => decide ((low 32 (opC s c l)).toNat < 65536) && (s.nodeRec (s.gridOf c.key) (low 32 (opC s c l)).toNat).isSome) && (lanesOf c.active).all fun l => (address s c l).toNat % 4 == 0)) = true
    ∧ ([.emit (wd 0 zr r4 (sp 0x61) im 1)].all fun i => issues i (at_ i withNode) (fun s c => !olderFaults s c && !((lanesOf c.active).all fun l => decide ((low 32 (opC s c l)).toNat < 65536) && (s.nodeRec (s.gridOf c.key) (low 32 (opC s c l)).toNat).isSome))) = true
    ∧ ([.emit (wd 0 zr r4 (sp 0x61) r4 2)].all fun i => issues i (at_ i withNode) (fun s c => !olderFaults s c && ((lanesOf c.active).all fun l => decide ((low 32 (opC s c l)).toNat < 65536) && (s.nodeRec (s.gridOf c.key) (low 32 (opC s c l)).toNat).isSome) && (lanesOf c.active).find? (fun k => (address s c k).toNat % 4 != 0) == some 0)) = true
    ∧ ([.enq (wd 0 zr r4 (sp 0x61) r4 0)].all fun i => issues i (at_ i (fun s => { s with queues := [(0, { Queue.reset with ctx := 1#8 })] })) (fun s c => decide (uC s c < 256) && (s.queue (uC s c)).ctx.toNat == (s.group c.key).ctx && (address s c 0).toNat % 64 == 0)) = true
    ∧ ([.enq (wd 0 zr r4 (sp 0x61) r4 8)].all fun i => issues i (at_ i (fun s => { s with queues := [(0, { Queue.reset with ctx := 1#8 })] })) (fun s c => !olderFaults s c && decide (uC s c < 256) && (s.queue (uC s c)).ctx.toNat == (s.group c.key).ctx && (address s c 0).toNat % 64 != 0)) = true
    ∧ ([.enq (wd 0 zr r4 (sp 0x61) (field .main 8) 0)].all fun i => issues i (at_ i (qr 8 256#32)) (fun s c => !olderFaults s c && decide (256 ≤ uC s c))) = true
    ∧ ([.enq (wd 0 zr r4 (sp 0x61) r4 0)].all fun i => issues i (at_ i id) (fun s c => !olderFaults s c && decide (uC s c < 256) && (s.queue (uC s c)).ctx.toNat != (s.group c.key).ctx)) = true := by
  decide +kernel

/-- CREQ with a free slot, of port 64, and of a reserved bit; CAWAIT of 60 s, of a microsecond more, of a slot owned
and of one not. -/
theorem witness_CircuitRequests :
    ([.creq (wd 0 r4 r4 r4 zr 0)].all fun i => issues i (at_ i (ctx1 fun x => { x with slots := 1#64, barriers := 1#64 })) (fun s c => decide (uA s c < 64) && uB s c == 0 && (s.freeSlot (s.group c.key).ctx).isSome)) = true
    ∧ ([.creq (wd 0 r4 r4 zr zr 0)].all fun i => issues i (at_ i (fun s => qr 4 64#32 ((ctx1 fun x => { x with slots := 1#64, barriers := 1#64 }) s))) (fun s c => !olderFaults s c && decide (64 ≤ uA s c))) = true
    ∧ ([.creq (wd 0 r4 zr r4 zr 0)].all fun i => issues i (at_ i (fun s => qr 4 64#32 ((ctx1 fun x => { x with slots := 1#64, barriers := 1#64 }) s))) (fun s c => !olderFaults s c && decide (uA s c < 64) && decide (uB s c % 65536 / 64 ≠ 0))) = true
    ∧ ([.cawait (wd 0 (sp 72) r4 im zr 60000000),
      .cawait (wd 0 (sp 72) r4 zr zr 0)].all fun i => issues i (at_ i (ctx1 fun x => { x with slots := 1#64, barriers := 1#64 })) (fun s c => s.ownsSlot (s.group c.key).ctx 0 && decide (uB s c ≤ 60000000))) = true
    ∧ ([.cawait (wd 0 (sp 72) r4 zr zr 0)].all fun i => issues i (at_ i id) (fun s c => !s.ownsSlot (s.group c.key).ctx 0 && decide (uB s c ≤ 60000000))) = true
    ∧ ([.cawait (wd 0 (sp 72) r4 im zr 60000001)].all fun i => issues i (at_ i (ctx1 fun x => { x with slots := 1#64, barriers := 1#64 })) (fun s c => !olderFaults s c && decide (60000000 < uB s c))) = true := by
  decide +kernel

/-- CUSE and CREL of a held ticket, of a stale one, of one that is being released, of a slot or a barrier of another
context; barrier 64. -/
theorem witness_CircuitUse :
    ([.cuse (wd 0 zr r4 im zr 64)].all fun i => issues i (at_ i (fun s => qr 4 256#32 ((ctx1 fun x => { x with slots := 1#64, barriers := 1#64 }) (s.setTicket 0 { Ticket.free with state := 4, releasing := false })))) (fun s c => !olderFaults s c && decide (64 ≤ uB s c))) = true
    ∧ ([.cuse (wd 0 zr r4 zr zr 0)].all fun i => issues i (at_ i (qr 4 256#32)) (fun s c => !olderFaults s c && decide (uB s c < 64) && !s.ownsSlot (s.group c.key).ctx (uA s c % 256))) = true
    ∧ ([.cuse (wd 0 zr r4 im zr 63)].all fun i => issues i (at_ i (fun s => qr 4 256#32 ((ctx1 fun x => { x with slots := 1#64, barriers := 1#64 }) (s.setTicket 0 { Ticket.free with state := 4, releasing := false })))) (fun s c => !olderFaults s c && decide (uB s c < 64) && s.ownsSlot (s.group c.key).ctx (uA s c % 256) && !s.ownsClb (s.group c.key).ctx (uB s c))) = true
    ∧ ([.cuse (wd 0 zr r4 zr zr 0)].all fun i => issues i (at_ i (fun s => qr 4 256#32 ((ctx1 fun x => { x with slots := 1#64, barriers := 1#64 }) (s.setTicket 0 { Ticket.free with state := 4, releasing := true })))) (fun s c => !olderFaults s c && s.ownsSlot (s.group c.key).ctx (uA s c % 256) && s.ownsClb (s.group c.key).ctx (uB s c) && (s.ticket 0).releasing)) = true
    ∧ ([.cuse (wd 0 zr r4 zr zr 0)].all fun i => issues i (at_ i (fun s => qr 4 256#32 ((ctx1 fun x => { x with slots := 1#64, barriers := 1#64 }) (s.setTicket 0 { Ticket.free with state := 0, releasing := false })))) (fun s c => !olderFaults s c && s.ownsSlot (s.group c.key).ctx (uA s c % 256) && s.ownsClb (s.group c.key).ctx (uB s c) && !((s.ticket 0).state != 0 && (s.ticket 0).seq == BitVec.ofNat 24 (uA s c / 256)))) = true
    ∧ ([.cuse (wd 0 zr r4 zr zr 0)].all fun i => issues i (at_ i (fun s => qr 4 256#32 ((ctx1 fun x => { x with slots := 1#64, barriers := 1#64 }) (s.setTicket 0 { Ticket.free with state := 4, releasing := false })))) (fun s c => s.ownsSlot (s.group c.key).ctx (uA s c % 256) && s.ownsClb (s.group c.key).ctx (uB s c) && (s.ticket 0).state != 0 && (s.ticket 0).seq == BitVec.ofNat 24 (uA s c / 256) && !(s.ticket 0).releasing)) = true
    ∧ ([.crel (wd 0 zr r4 zr zr 0)].all fun i => issues i (at_ i (qr 4 256#32)) (fun s c => !olderFaults s c && !s.ownsSlot (s.group c.key).ctx (uA s c % 256))) = true
    ∧ ([.crel (wd 0 zr r4 zr zr 0)].all fun i => issues i (at_ i (fun s => qr 4 256#32 ((ctx1 fun x => { x with slots := 1#64, barriers := 1#64 }) (s.setTicket 0 { Ticket.free with state := 0, releasing := false })))) (fun s c => s.ownsSlot (s.group c.key).ctx (uA s c % 256) && !((s.ticket 0).state != 0 && (s.ticket 0).seq == BitVec.ofNat 24 (uA s c / 256)))) = true
    ∧ ([.crel (wd 0 zr r4 zr zr 0)].all fun i => issues i (at_ i (fun s => qr 4 256#32 ((ctx1 fun x => { x with slots := 1#64, barriers := 1#64 }) (s.setTicket 0 { Ticket.free with state := 4, releasing := false })))) (fun s c => s.ownsSlot (s.group c.key).ctx (uA s c % 256) && (s.ticket 0).state != 0 && (s.ticket 0).seq == BitVec.ofNat 24 (uA s c / 256))) = true
    ∧ ([.crel (wd 0 zr r4 zr zr 0)].all fun i => issues i (at_ i (fun s => qr 4 256#32 ((ctx1 fun x => { x with slots := 1#64, barriers := 1#64 }) (s.setTicket 0 { Ticket.free with state := 4, releasing := true })))) (fun s c => s.ownsSlot (s.group c.key).ctx (uA s c % 256) && (s.ticket 0).state != 0 && (s.ticket 0).seq == BitVec.ofNat 24 (uA s c / 256) && (s.ticket 0).releasing)) = true := by
  decide +kernel

/-- Planes 15 and 16. -/
theorem witness_PlaneWords :
    ([.pldrain (wd 0 (sp 72) im zr zr 15),
      .pljoin (wd 0 (sp 72) im zr zr 15)].all fun i => issues i (at_ i id) (fun s c => decide (uA s c < 16))) = true
    ∧ ([.pldrain (wd 0 (sp 72) im zr zr 16),
      .pljoin (wd 0 (sp 72) im zr zr 16)].all fun i => issues i (at_ i id) (fun s c => !olderFaults s c && decide (16 ≤ uA s c))) = true := by
  decide +kernel

/-- Messages of 1,024 and 1,025 bytes to an open session and to one that is not; addresses on and off 4 bytes. -/
theorem witness_WheyWords :
    ([.wsend (wd 0 zr r4 (sp 0x61) (field .main 8) 0),
      .wrecv (wd 0 r4 r4 (sp 0x61) (field .main 8) 0)].all fun i => issues i (at_ i (fun s => qr 8 0x04000000#32 { s with sessions := [(0, { Session.closed with ctx := 1, state := 2 })] })) (fun s c => decide (4 ≤ uC s c / 65536) && decide (uC s c / 65536 ≤ 1024) && decide (uC s c / 65536 % 4 = 0) && s.wheyOpen c.key (uC s c % 65536) && (address s c 0).toNat % 4 == 0)) = true
    ∧ ([.wsend (wd 0 zr r4 (sp 0x61) (field .main 8) 2),
      .wrecv (wd 0 r4 r4 (sp 0x61) (field .main 8) 2)].all fun i => issues i (at_ i (fun s => qr 8 0x04000000#32 { s with sessions := [(0, { Session.closed with ctx := 1, state := 2 })] })) (fun s c => !olderFaults s c && decide (4 ≤ uC s c / 65536) && decide (uC s c / 65536 ≤ 1024) && decide (uC s c / 65536 % 4 = 0) && s.wheyOpen c.key (uC s c % 65536) && (address s c 0).toNat % 4 != 0)) = true
    ∧ ([.wsend (wd 0 zr r4 (sp 0x61) (field .main 8) 0)].all fun i => issues i (at_ i (fun s => qr 8 0x04010000#32 { s with sessions := [(0, { Session.closed with ctx := 1, state := 2 })] })) (fun s c => !olderFaults s c && !(decide (4 ≤ uC s c / 65536) && decide (uC s c / 65536 ≤ 1024) && decide (uC s c / 65536 % 4 = 0)))) = true
    ∧ ([.wsend (wd 0 zr r4 (sp 0x61) (field .main 8) 0),
      .wrecv (wd 0 r4 r4 (sp 0x61) (field .main 8) 0)].all fun i => issues i (at_ i (qr 8 0x04000000#32)) (fun s c => !olderFaults s c && decide (4 ≤ uC s c / 65536) && decide (uC s c / 65536 ≤ 1024) && decide (uC s c / 65536 % 4 = 0) && !s.wheyOpen c.key (uC s c % 65536))) = true
    ∧ ([.wpoll (wd 0 r4 zr zr r4 0)].all fun i => issues i (at_ i id) (fun s c => !olderFaults s c && !s.wheyOpen c.key (uC s c % 65536))) = true
    ∧ ([.wpoll (wd 0 r4 zr zr r4 0)].all fun i => issues i (at_ i (fun s => { s with sessions := [(0, { Session.closed with ctx := 1, state := 2, inbox := [[1#8, 2#8]] })] })) (fun s c => s.wheyOpen c.key (uC s c % 65536))) = true := by
  decide +kernel

/-- Timers 7 and 8. -/
theorem witness_Timers :
    ([.tmrRead (wd 0 r4 zr zr zr 0)].all fun i => issues i (at_ i id) yes) = true
    ∧ ([.tmrSet (wd 8 zr im r4 zr 7),
      .tmrCancel (wd 24 zr im zr zr 7),
      .tmrWait (wd 16 zr im zr zr 7)].all fun i => issues i (at_ i id) (fun s c => decide (uA s c < 8))) = true
    ∧ ([.tmrSet (wd 8 zr im r4 zr 8),
      .tmrCancel (wd 24 zr im zr zr 8),
      .tmrWait (wd 16 zr im zr zr 8)].all fun i => issues i (at_ i id) (fun s c => !olderFaults s c && decide (8 ≤ uA s c))) = true := by
  decide +kernel

/-- Words of a command core that issue, a QFREE of a lock it holds and of one it does not. -/
theorem witness_CommandWords :
    ([.evtake (wd 0 r4 zr zr zr 0),
      .evpost (wd 0 zr r4 zr zr 0),
      .qlock (wd 0 zr r4 zr zr 0)].all fun i => issues i (at_ i id) yes) = true
    ∧ ([.qfree (wd 0 zr r4 zr zr 0)].all fun i => issues i (at_ i (fun s => { s with qlocks := [(0, s.cur.group)] })) (fun s c => mapGet? s.qlocks (uA s c % 256) == some c.key)) = true
    ∧ ([.qfree (wd 0 zr r4 zr zr 0)].all fun i => issues i (at_ i id) (fun s c => !olderFaults s c && mapGet? s.qlocks (uA s c % 256) != some c.key)) = true := by
  decide +kernel

/-- TRAP of 0xFFFF and 0x10000, breakpoints, YIELD of 1,024 and 1,025, and ERET and HALT in handler mode and outside
it, HALT on the circuit processor and a command core. -/
theorem witness_SystemWords :
    ([.trap (wd 0 zr im zr zr 65535),
      .utrap (wd 0 zr im zr zr 65535)].all fun i => issues i (at_ i id) (fun s c => decide (firstA s c < 65536))) = true
    ∧ ([.trap (wd 0 zr im zr zr 65536),
      .utrap (wd 0 zr im zr zr 65536)].all fun i => issues i (at_ i id) (fun s c => !olderFaults s c && decide (65536 ≤ firstA s c))) = true
    ∧ ([.bkpt (wd 0 zr zr zr zr 0),
      .ubkpt (wd 0 zr zr zr zr 0)].all fun i => issues i (at_ i id) yes) = true
    ∧ ([.yield (wd 0 zr im zr zr 1024),
      .uyield (wd 0 zr im zr zr 1024)].all fun i => issues i (at_ i id) (fun s c => decide (firstA s c ≤ 1024))) = true
    ∧ ([.yield (wd 0 zr im zr zr 1025),
      .uyield (wd 0 zr im zr zr 1025)].all fun i => issues i (at_ i id) (fun s c => !olderFaults s c && decide (1024 < firstA s c))) = true
    ∧ ([.eret (wd 0 zr zr zr zr 0),
      .halt (wd 0 zr zr zr zr 0)].all fun i => issues i (at_ i handling) (fun s c => (s.group c.key).trap.hm)) = true
    ∧ ([.eret (wd 0 zr zr zr zr 0),
      .halt (wd 0 zr zr zr zr 0)].all fun i => issues i (at_ i id) (fun s c => !olderFaults s c && !(s.group c.key).trap.hm)) = true
    ∧ ([.halt (wd 0 zr zr zr zr 0)].all fun i => issues i (at_ i (onEngine .circuit)) (fun s c => (s.group c.key).engine == .circuit)) = true
    ∧ ([.halt (wd 0 zr zr zr zr 0)].all fun i => issues i (at_ i (onEngine .command)) (fun s c => (s.group c.key).engine == .command)) = true := by
  decide +kernel

/-- Control registers 0 to 6, 0x100, 0x13F, 0x140, 0x17F on the circuit processor, and those that are reserved (7,
0xFF, 0x180, 0x1FF, 0x1000) or of another engine (0x100, 0x200, 0xFFF); CWR in handler mode and outside it. -/
theorem witness_ControlRegisters :
    ([.crd (wd 0 r4 zr zr zr 0),
      .crd (wd 0 r4 zr zr zr 1),
      .crd (wd 0 r4 zr zr zr 2),
      .crd (wd 0 r4 zr zr zr 3),
      .crd (wd 0 r4 zr zr zr 4),
      .crd (wd 0 r4 zr zr zr 5),
      .crd (wd 0 r4 zr zr zr 6)].all fun i => issues i (at_ i id) yes) = true
    ∧ ([.crd (wd 0 r4 zr zr zr 256),
      .crd (wd 0 r4 zr zr zr 319),
      .crd (wd 0 r4 zr zr zr 320),
      .crd (wd 0 r4 zr zr zr 383)].all fun i => issues i (at_ i (onEngine .circuit)) (fun s c => (s.group c.key).engine == .circuit)) = true
    ∧ ([.cwr (wd 0 zr r4 zr zr 2),
      .cwr (wd 0 zr r4 zr zr 3)].all fun i => issues i (at_ i handling) (fun s c => (s.group c.key).trap.hm)) = true
    ∧ ([.cwr (wd 0 zr r4 zr zr 2),
      .cwr (wd 0 zr r4 zr zr 3)].all fun i => issues i (at_ i id) (fun s c => !olderFaults s c && !(s.group c.key).trap.hm)) = true
    ∧ ([.cwr (wd 0 zr r4 zr zr 0),
      .cwr (wd 0 zr r4 zr zr 1),
      .cwr (wd 0 zr r4 zr zr 4),
      .cwr (wd 0 zr r4 zr zr 5),
      .cwr (wd 0 zr r4 zr zr 6)].all fun i => issues i (at_ i id) yes) = true
    ∧ ([.crd (wd 0 r4 zr zr zr 7),
      .crd (wd 0 r4 zr zr zr 255),
      .crd (wd 0 r4 zr zr zr 4096),
      .cwr (wd 0 zr r4 zr zr 7),
      .cwr (wd 0 zr r4 zr zr 255),
      .cwr (wd 0 zr r4 zr zr 4096)].all fun i => issues i (at_ i id) (fun s c => !olderFaults s c)) = true
    ∧ ([.crd (wd 0 r4 zr zr zr 384),
      .crd (wd 0 r4 zr zr zr 511),
      .cwr (wd 0 zr r4 zr zr 384),
      .cwr (wd 0 zr r4 zr zr 511)].all fun i => issues i (at_ i (onEngine .circuit)) (fun s c => !olderFaults s c && (s.group c.key).engine == .circuit)) = true
    ∧ ([.crd (wd 0 r4 zr zr zr 256),
      .crd (wd 0 r4 zr zr zr 512),
      .crd (wd 0 r4 zr zr zr 4095),
      .cwr (wd 0 zr r4 zr zr 256),
      .cwr (wd 0 zr r4 zr zr 512),
      .cwr (wd 0 zr r4 zr zr 4095)].all fun i => issues i (at_ i id) (fun s c => !olderFaults s c && (s.group c.key).engine == .partition)) = true := by
  decide +kernel

end Sys2Proof.Tests
end

