-- ==== Sys2Proof/Tests/Groups.lean ====
section
/-! SUPPORT. Witnesses for the statements about groups, operations in flight and memory: small states in which the
hypotheses of each clause hold together, and what the step then leaves. -/

set_option Elab.async false

namespace Sys2Proof.Tests

open Machine Stated

/-- A step answers a next state that meets a test. -/
def after (i : Instr) (s : State) (p : State → Bool) : Bool :=
  match exec i s with
  | .next t => p t
  | _ => false

/-- A group that runs on core 0 in context 1, in its team. -/
def base : State := at_ (.nop (wd 0 zr zr zr zr 0)) (inTeam 0)

/-- The state after a word has issued, 30 cycles later. -/
def ran (i : Instr) (prep : State → State) : State :=
  match exec i (at_ i prep) with
  | .next t => { t with cycle := t.cycle + 30#64 }
  | _ => State.reset

/-- An access of lane 0 to 4 bytes at physical address 0x2000. -/
def acc1 (data : Val) : Access := ⟨0, 0x2000#80, 4, data, some 0x2000#52, false, false, 0#128, none⟩

/-- A result for operand-file register 3 in lane 0. -/
def res1 : RegResult := ⟨.oper 3, 32, Vector.replicate 32 0#128, 1#32, [], false, false⟩

/-- A result for a predicate or a register of the uniform pipe. -/
def resU (d : Dest) (width : Nat) (latch : Bool) : RegResult :=
  ⟨d, width, Vector.replicate 32 0#128, 1#32, [], true, latch⟩

/-- An operation of the group in flight. -/
def op1 (kind : OpKind) (acc : List Access) (res : List RegResult) : Op where
  group := 0
  seq := 0
  pc := 0x1000#64
  npc := 0x1010#64
  lanes := 1#32
  active := 1#32
  uni := false
  flag := 0
  issueNs := 0
  due := 0
  kind := kind
  acc := acc
  res := res
  walked := true
  left := true
  holds := false
  ackLost := none
  mask := 0#8

/-- The operation 7 in flight. -/
def flying (o : Op) (s : State) : State := { s with ops := [(7, o)] }

/-! ## Issue and landing -/

/-- Every hypothesis of QuietGroupIssues. -/
def quiet (i : Instr) (s : State) : Bool :=
  match i.info, mapGet? s.groups s.cur.group with
  | some info, some g =>
    (info.klass == .compute || ((info.klass == .memory || info.klass == .atomic) && (List.range 32).all fun l => laneOf g.tx l == none))
      && decide (s.cur.group < 0x4000) && g.engine == .partition
      && (match s.team? g.team with
        | some t => t.swap == .resident
        | none => false)
      && !g.halted && g.wait == none && g.fault == none && g.stop == none && g.holdOp == none && g.trapPend == none && g.lease.act == .active
      && (s.die (dieOf s.cur.group)).dbgHalt.isEmpty && !(s.die (dieOf s.cur.group)).thermHalt && s.resid.all (fun r => !r.stopped)
      && !g.trap.hm && s.cur.lanes != 0#32
      && (g.table.any fun e => e.pc == s.cur.pc && s.cur.lanes &&& ~~~e.lanes == 0#32)
      && decide (g.stallEnd ≤ s.now) && decide (g.yieldEnd ≤ s.now)
      && ((List.range 12).all fun n => !info.fields.wt.getLsbD n || vget g.f n 0#6 == 0#6)
      && (info.fields.sf == 0#4 || vget g.f (info.fields.sf.toNat - 1) 0#6 != 63#6)
      && s.ops.all (fun p => p.2.group != s.cur.group) && info.fields.nx == .seq
      && info.fields.a.level != .latch && info.fields.b.level != .latch && info.fields.c.level != .latch
      && g.poison.isEmpty && g.x.all (fun e => !e.2.poison)
      && (info.mainNames.isEmpty || s.grant s.cur.group (regsNeeded s (s.ctx info)) g.seq == .take && s.picks (s.ctx info))
      && (s.ctx info).active != 0#32
  | _, _ => false

theorem witness_QuietGroupIssues :
    ([.iadd (wd 0 r4 r4 r4 zr 0), .ld .b32 (wd 0 r4 r4 (sp 0x61) zr 0), .atom .add .ga (wd 0 r4 r4 (sp 0x61) r4 0)].all
      fun i => quiet i (at_ i (inTeam 0)) && issues i (at_ i (inTeam 0)) yes) = true := by
  decide +kernel

/-- The gate's answer for the word of `i`. -/
def gateOf (i : Instr) (s : State) : Option Gate := i.info.map fun info => gate s (s.ctx info)

/-- A word whose guard holds in no lane passes, of fixed and of variable latency. -/
theorem witness_GuardedOffWords :
    ([.iadd { wd 0 r4 r4 r4 zr 0 with guardNeg := true }, .ld .b32 { wd 0 r4 r4 (sp 0x61) zr 0 with guardNeg := true }].all
      fun i => (match gateOf i (at_ i id) with
        | some .pass => true
        | _ => false) && match i.info with
        | some info => ((at_ i id).ctx info).active == 0#32
        | none => false) = true := by
  decide +kernel

/-- A trap at the gate, by its cause. -/
def gateTraps (x : BitVec 8) (i : Instr) (prep : State → State) : Bool :=
  match gateOf i (at_ i prep) with
  | some (.trap y _) => x == y
  | _ => false

/-- A word held by its wait mask; the stale latch; the register budget; RET from an empty stack and CALL with a full one;
a poisoned source; a word barred from the transaction its lanes are in. -/
theorem witness_WordsThatDoNotIssue :
    (match gateOf (.iadd { wd 0 r4 r4 r4 zr 0 with wt := 1#12 })
        (at_ (.iadd { wd 0 r4 r4 r4 zr 0 with wt := 1#12 }) (grp fun g => { g with f := g.f.setIfInBounds 0 1#6 })) with
      | some .hold => true
      | _ => false) = true
    ∧ gateTraps 0x02#8 (.iadd (wd 0 r4 (field .latch 0) r4 zr 0)) id = true
    ∧ gateTraps 0x04#8 (.iadd (wd 0 r4 r4 r4 zr 0)) (grp fun g => { g with budget := 0 }) = true
    ∧ gateTraps 0x08#8 (.iadd { wd 0 r4 r4 r4 zr 0 with nx := .ret }) id = true
    ∧ gateTraps 0x07#8 (.iadd { wd 0 r4 r4 r4 zr 0 with nx := .call })
        (grp fun g => { g with ret := Vector.replicate 32 ⟨List.replicate 8 0#64, 65535⟩ }) = true
    ∧ (match gateOf (.iadd (wd 0 r4 r4 r4 zr 0)) (at_ (.iadd (wd 0 r4 r4 r4 zr 0))
        (grp fun g => { g with x := mapSet g.x 4 ⟨[4], Vector.replicate 32 0#32, true, 0⟩ })) with
      | some .poison => true
      | _ => false) = true
    ∧ (match gateOf (.emit (wd 0 zr r4 (sp 0x61) r4 0)) (at_ (.emit (wd 0 zr r4 (sp 0x61) r4 0))
        (grp fun g => { g with tx := Vector.replicate 32 (some ⟨0#64, 0, [], [], [], false, false⟩) })) with
      | some (.abort m) => m != 0#32
      | _ => false) = true := by
  decide +kernel

/-- The effect of the IADD of the next witness is plain; the word of IssueCounts and IssueFrame issues. -/
theorem witness_Issuing : Plain { kind := some .result }
    ∧ issues (.iadd (wd 0 r4 r4 r4 zr 0)) (at_ (.iadd (wd 0 r4 r4 r4 zr 0)) id) yes = true
    ∧ issues (.iadd { wd 0 r4 r4 r4 zr 0 with nx := .exit })
        (at_ (.iadd { wd 0 r4 r4 r4 zr 0 with nx := .exit }) id) yes = true
    ∧ issues (.iadd { wd 0 r4 r4 r4 zr 0 with nx := .call })
        (at_ (.iadd { wd 0 r4 r4 r4 zr 0 with nx := .call }) id) yes = true := by
  refine ⟨⟨rfl, rfl, rfl, rfl, fun _ _ => rfl⟩, ?_⟩
  decide +kernel

/-- The one operation of a state lands, with one 32-bit result that meets a test. -/
def lands (s : State) (p : RegResult → Bool) : Bool :=
  match s.ops with
  | [(id, o)] => o.kind == .result && decide (o.due ≤ s.timeOf o.group) && (mapGet? s.groups o.group).isSome
      && (match o.res with
        | [r] => decide (r.width ≤ 32) && p r
        | _ => false)
      && after (.fixedResultWriteback id) s fun t => (mapGet? t.groups o.group).isSome && t.ops.isEmpty
  | _ => false

/-- Results for each kind of destination land, and one whose cycle has not come does not. -/
theorem witness_Landing :
    lands (ran (.iadd (wd 0 r4 r4 r4 zr 0)) id) (fun r => r.dest == .main 4 && r.targets.length == 1 && r.latch && !r.uniform)
      = true
    ∧ lands (ran (.iadd (wd 0 (field .oper 15) r4 r4 zr 0)) id) (fun r => r.dest == .oper 15) = true
    ∧ lands (ran (.uiadd (wd 0 (field .main 63) r4 r4 zr 0)) id) (fun r => r.dest == .uni 63 && r.latch && r.uniform) = true
    ∧ lands (ran (.icmp (wd 0 (sp 0x46) r4 r4 zr 0)) id) (fun r => r.dest == .pred 6) = true
    ∧ lands (ran (.uicmp (wd 0 (sp 0x4B) r4 r4 zr 0)) id) (fun r => r.dest == .upred 3) = true
    ∧ lands (ran (.iadd (wd 0 zr r4 r4 zr 0)) id) (fun r => r.dest == .zero) = true
    ∧ ((ran (.iadd (wd 0 r4 r4 r4 zr 0)) id).ops.any fun p => decide (p.2.due ≥ 4)) = true := by
  decide +kernel

/-! ## Memory -/

/-- Every hypothesis of `Ready` and `OneAccess`. -/
def readyOne (s : State) (o : Op) : Bool :=
  mapGet? s.ops 7 == some o && decide (o.due ≤ s.now) && o.ackLost == none && (mapGet? s.groups o.group).isSome
    && decide (o.group < 0x4060) && o.walked && s.mayPerform o && s.reds.isEmpty && o.left
    && match o.acc with
      | [a] => !a.skip && s.missingAcks o a == 0#8 && s.forwarded o a == none && !s.parksAt o 0x2000 && !s.storeWaits 7 && a.pa == some 0x2000#52 && !s.inTx o a.lane && !s.poisoned.contains (lineOf 0x2000)
          && placeOf s 0x2000 == .near
      | _ => false

/-- No slice's line is needed: no byte is held over its home. -/
def cold (s : State) : Bool := s.dirty.isEmpty && s.l1.all fun c => c.2.isEmpty

/-- The word at 0x2000 as memory has it. -/
def with2000 (bs : List Byte) (s : State) : State := { s with mem := memSetAll s.mem 0x2000 bs }

/-- The latest bytes at 0x2000. -/
def at2000 (s : State) : List Byte := (List.range 4).map fun i => s.latestByte (0x2000 + i)

/-- A load binds what stands there, an atomic that has been applied the value it took. -/
theorem witness_LoadsBind :
    (let s := with2000 [1#8, 2#8, 3#8, 4#8] (flying (op1 (.load false none 0) [acc1 0#128] [res1]) base)
    (readyOne s (op1 (.load false none 0) [acc1 0#128] [res1]) && cold s
      && after (.variableOpComplete 7) s fun t => t.ops.isEmpty && at2000 t == at2000 s
        && laneOf (vget (t.group 0).o 3 (Vector.replicate 32 0#32)) 0 == 0x04030201#32) = true)
    ∧ (let a : Access := { acc1 0#128 with bound := true, val := 9#128 }
    let o := op1 (.atom .add .ga .package 1) [a] [res1]
    (readyOne (flying o base) o && after (.variableOpComplete 7) (flying o base) fun t => t.ops.isEmpty
      && laneOf (vget (t.group 0).o 3 (Vector.replicate 32 0#32)) 0 == 9#32) = true) := by
  decide +kernel

/-- An EF and a GA store: who sees them. -/
theorem witness_StoresPerform :
    ([StoreMode.ef, .ga].all fun m =>
      let o := op1 (.store m none) [acc1 0x04030201#128] []
      let s := flying o base
      readyOne s o && cold s && s.log.all (fun r => !overlaps r.pa r.bytes.length 0x2000 4)
        && after (.variableOpComplete 7) s fun t => t.ops.isEmpty && at2000 t == [1#8, 2#8, 3#8, 4#8]
          && t.viewByte 0 0x2000 == 1#8 && t.viewByte 1 0x2000 == (if m = .ga then 1#8 else 0#8)) = true := by
  decide +kernel

/-- An atomic add; a compare-and-swap that fails; a reduction's entry that drains alone. -/
theorem witness_AtomicsApply :
    (let o := op1 (.atom .add .ga .package 1) [acc1 5#128] [res1]
    let s := with2000 [255#8, 0#8, 0#8, 0#8] (flying o base)
    (readyOne s o && cold s && after (.homeAtomicApply 7) s fun t => at2000 t == [4#8, 1#8, 0#8, 0#8]) = true)
    ∧ (let o := op1 (.atom .cas .ga .package 0) [acc1 5#128] [res1]
    let s := with2000 [255#8, 0#8, 0#8, 0#8] (flying o base)
    (readyOne s o && cold s && (atomic .cas 0 (numberAt s.latestByte 0x2000 4) 5#128).isNone
      && after (.homeAtomicApply 7) s fun t => at2000 t == at2000 s) = true)
    ∧ (let r : RedEntry := ⟨0x2000, .add, 1, [5#64], .ga, 0, 0, 0⟩
    let s := with2000 [255#8, 0#8, 0#8, 0#8] { base with reds := [r] }
    (decide (r.due ≤ s.now) && placeOf s 0x2000 == .near && cold s && !s.poisoned.contains (lineOf 0x2000)
      && s.log.all (fun r => !r.parked) && (atomic .add 1 (numberAt s.latestByte 0x2000 4) 5#128).isSome
      && after (.redEntryDrain 0x2000#52) s fun t => t.reds.isEmpty && at2000 t == [4#8, 1#8, 0#8, 0#8]) = true) := by
  decide +kernel

/-- A store that only its own die has seen. -/
def unseen : State := { base with log := [⟨0x2000, [7#8], 1#8, [(1, 900)], 3, true⟩] }

theorem witness_VisibilityIsLatest : SlicesHoldDirty unseen ∧ (∀ r ∈ unseen.log, r.parked = false) ∧ unseen.viewByte 1 0x2000 ≠ unseen.latestByte 0x2000
    ∧ (unseen.showAll fun _ => true).viewByte 1 0x2000 = unseen.latestByte 0x2000 := by
  refine ⟨fun x h => ?_, ?_⟩
  · cases h
  · decide +kernel

/-- The group's context bound to a context of peer 1, which the fabric reaches. -/
def bound (s : State) : State := ctx1 (fun x => { x with binds := [(1, 1)] }) (reach s)
where
  /-- A live stripe to peer 1. -/
  reach (s : State) : State :=
    { s with ports := [(0, { Port.reset with state := 3, peerPkg := 1#6 })], peerLinks := [(1, { PeerLink.idle with stripe := [0] })] }

/-- Remote operations at a peer that accepts, and at one that refuses. -/
theorem witness_RemoteOperations :
    (let o := op1 .rst [{ acc1 0x04030201#128 with pa := none, peer := some 1 }] []
    let s := bound (flying o base)
    (s.bindingOf (s.group 0).ctx 1 == some 1 && s.reachable 1 && after (.remoteRequestAtPeer 7 true) s fun t =>
      t.ops.isEmpty && t.peerBytes 1 1 0x2000#80 4 == [1#8, 2#8, 3#8, 4#8]) = true)
    ∧ (let o := op1 .rld [{ acc1 0#128 with pa := none, peer := some 1 }] [res1]
    let s := bound (flying o base)
    (s.bindingOf (s.group 0).ctx 1 == some 1 && s.reachable 1 && s.peerPoison.isEmpty
      && after (.remoteRequestAtPeer 7 true) s fun t => t.peers == s.peers) = true)
    ∧ (let o := op1 .rld [{ acc1 0#128 with pa := none, peer := some 1 }] [res1]
    (o.kind.remote && o.left && after (.remoteRequestAtPeer 7 false) (flying o base) fun t =>
      t == (flying o base).haltTeam 0 0x0131#16) = true) := by
  decide +kernel

/-- Tables in near memory: a chain from 0x40000 on to a leaf for the addresses from 0 on, with the given entry. -/
def tables (leaf : Nat) : State :=
  let s := ctx1 (fun x => { x with ttbase := 0x40000#52 }) base
  { s with mem := memSetAll (memSetAll (memSetAll (memSetAll s.mem 0x40000 (leBytes 8 0x80001)) 0x80000 (leBytes 8 0xC0001))
      0xC0000 (leBytes 8 0x100001)) 0x100000 (leBytes 8 leaf) }

/-- The fault of a walk of address 0x345 for a write and the address it names, 0 for none. -/
def walkFault (s : State) : BitVec 8 × PAddr :=
  match s.walk 1 0x345#80 .write with
  | .fault x pa => (x, pa)
  | _ => (0#8, 0#52)

/-- Walks of address 0x345: to a leaf at 0x140000 with every right, without the write right that the access needs, to
a page that does not exist, and through a first entry that is not valid. -/
theorem witness_TranslationWalks :
    (match (tables 0x14003B).walk 1 0x345#80 .write with
      | .ok pa _ r big => pa == 0x140345 && r.wr && !big
      | _ => false) = true
    ∧ walkFault (tables 0x14002B) = (0x21#8, 0#52) ∧ walkFault (tables 0xF00000014003B) = (0x22#8, 0xF000000140345#52)
    ∧ walkFault base = (0x20#8, 0#52) := by
  decide +kernel

/-! ## Fences, transactions, barriers -/

/-- FENCE, FENCEX and DRAIN, alone in flight and with an older access of lane 0 in flight. -/
theorem witness_FencesComplete :
    ([OpKind.fence .die, .fence .package, .fencex .l .p, .drain .l .near].all fun k =>
      let s := flying { op1 k [] [] with seq := 5 } base
      s.copies.isEmpty && (s.group 0).awaits.isEmpty && !s.parkedSeen 0 && after (.variableOpComplete 7) s fun t => t.ops.isEmpty) = true
    ∧ ([OpKind.fence .die, .fencex .l .p, .drain .l .near].all fun k =>
      let o := { op1 k [] [] with seq := 5 }
      let s := { base with ops := [(6, { op1 (.store .ef none) [acc1 0#128] [] with left := false }), (7, o)] }
      (match k with
        | .fence sc => s.laneOwes o sc 0
        | .fencex a _ => s.pathOwes 0 7 o.seq a
        | .drain a m => s.coreOwes 0 7 a m
        | _ => false)
        && after (.variableOpComplete 7) s fun t => (mapGet? t.ops 7).any fun x => x.kind == k) = true := by
  decide +kernel

/-- Lane 0 in a transaction that has read the given byte of 0x2000. -/
def inTransaction (b : Byte) : State → State := grp fun g =>
  { g with tx := g.tx.setIfInBounds 0 (some ⟨0x3000#64, 0, [], [(0x2000, b)], [], false, false⟩) }

/-- Transactions that open at an XBEGIN, abort, commit, and abort for a value that no longer stands. -/
theorem witness_TransactionsEnd :
    (laneOf ((inTransaction 0#8 base).group 0).tx 0).isSome = true
    ∧ ([(0#8, 0x00#8), (1#8, 0x02#8)].all fun x =>
      let o := { op1 .xend [] [] with seq := 5 }
      let s := inTransaction x.1 (flying o base)
      s.mayPerform o && s.reds.isEmpty && after (.variableOpComplete 7) s fun t => t.ops.isEmpty
        && laneOf (t.group 0).tx 0 == none && (laneOf (t.group 0).xcode 0).setWidth 8 == x.2) = true := by
  decide +kernel

/-- The group has executed BAR n0 with the given count in every lane. -/
def atBar (count ngrp : Nat) (b : Barrier) : State :=
  let s := grp (fun g => { g with barExec := [(0, 0xFFFFFFFF#32, count)] }) base
  { s with teams := [(0, { team1 0 with ngrp := ngrp, bars := (Vector.replicate 8 Barrier.closed).setIfInBounds 0 b })] }

/-- The hypotheses about the arrival of the group at barrier n0. -/
def arrives (s : State) : Bool :=
  let g := s.group 0
  g.executedBar 0 != 0#32 && g.reachedBar 0 && s.barDrained (.team 0 0) 0

/-- Arrivals that complete a barrier (count 1; count 0 with every group there; the second of 2) and one that does not (the
first of 2). -/
theorem witness_BarrierArrival :
    ([(1, 1, Barrier.closed), (0, 1, Barrier.closed), (2, 2, ⟨true, 2, [9], []⟩)].all fun x =>
      arrives (atBar x.1 x.2.1 x.2.2) && ((atBar x.1 x.2.1 x.2.2).tryArrive (.team 0 0) 0).barrier (.team 0 0) == Barrier.closed)
      = true
    ∧ arrives (atBar 2 2 Barrier.closed) = true
    ∧ ((atBar 2 2 Barrier.closed).tryArrive (.team 0 0) 0).barrier (.team 0 0) = ⟨true, 2, [groupParty (base.group 0)], []⟩ := by
  decide +kernel

/-- Check at a mask whose lanes have all arrived, and at one that still waits for lane 1. -/
theorem witness_RejoinCheck :
    let s (m : LaneMask) := grp (fun g => g.setRejoin 3 ⟨m, 1#32⟩) base
    (((s 1#32).checkJoin 0 3).group 0).rejoin 3 = ⟨0#32, 0#32⟩ ∧ (s 3#32).checkJoin 0 3 = s 3#32 := by
  decide +kernel

/-- A CBWAIT of barrier cb7 as it stands. -/
def atCb (b : ByteBarrier) : State :=
  { flying (op1 (.cbwait 7) [] []) base with
    teams := [(0, { team1 0 with cbs := (Vector.replicate 8 ByteBarrier.zero).setIfInBounds 7 b })] }

/-- CBWAITs that pass, wait for bytes, wait for a post, and trap. -/
theorem witness_ByteBarriers :
    (base.group 0).waiting = [] ∧ (base.group 0).barExec = [] ∧ (base.group 0).fault = none ∧ (base.group 0).stop = none
    ∧ after (.variableOpComplete 7) (atCb ⟨0, false, false⟩) (fun t => t.ops.isEmpty && (t.group 0).epoch == 1) = true
    ∧ after (.variableOpComplete 7) (atCb ⟨5, true, false⟩) (fun t => t == atCb ⟨5, true, false⟩) = true
    ∧ after (.variableOpComplete 7) (atCb ⟨-5, false, false⟩) (fun t => t == atCb ⟨-5, false, false⟩) = true
    ∧ after (.variableOpComplete 7) (atCb ⟨-24, true, true⟩) (fun t => t.agenda.head? == some (.teamEnd 0 0x010B#16)
      && (t.team? 0).any fun u => vget u.cbs 7 ByteBarrier.zero == ByteBarrier.zero) = true := by
  decide +kernel

/-! ## Engines and the system -/

/-- A TWAIT of n, with the given batches. -/
def atTwait (n : Nat) (bs : List CopyBatch) : State :=
  grp (fun g => { g with batches := bs }) (flying { op1 (.twait n) [] [] with uni := true } base)

/-- A TWAIT that waits, one that ends, and one that reports the first error of a batch. -/
theorem witness_BatchWaits :
    after (.variableOpComplete 7) (atTwait 0 [⟨0, 1, 1, []⟩]) (fun t => !t.ops.isEmpty) = true
    ∧ after (.variableOpComplete 7) (atTwait 1 [⟨0, 1, 0, []⟩, ⟨1, 1, 1, []⟩])
      (fun t => t.ops.isEmpty && (t.group 0).batches == [⟨1, 1, 1, []⟩] && (t.group 0).epoch == 1) = true
    ∧ after (.variableOpComplete 7) (atTwait 0 [⟨0, 1, 0, [(0, 6)]⟩])
      (fun t => t.agenda.head? == some (.teamEnd 0 0x010E#16) && (t.group 0).batches.isEmpty) = true := by
  decide +kernel

/-- LEASE, LREL and LEASEM when the controller takes them. -/
theorem witness_LeaseRecorded :
    after (.variableOpComplete 7) (flying (op1 (.lease 96) [] []) base)
      (fun t => (t.group 0).lease.mode == .declared && (t.group 0).lease.declared == 96) = true
    ∧ after (.variableOpComplete 7) (flying (op1 .lrel [] []) base)
      (fun t => (t.group 0).lease.mode == .declared && (t.group 0).lease.declared == 0) = true
    ∧ after (.variableOpComplete 7) (flying { op1 .leasem [] [resU (.uni 9) 32 true] with uni := true } base)
      (fun t => (t.group 0).lease.mode == .measured && t.ops.isEmpty) = true := by
  decide +kernel

/-- The circuit processor's script, its operation 7 in flight. -/
def script (o : Op) : State :=
  { onEngine .circuit base with ops := [(7, { o with group := fetchKey .circuit, uni := true })] }

/-- CAWAITs of a ticket in each state, of a stale one, and with no time to wait. -/
theorem witness_CircuitWaits :
    ([(0, 2#24, 0, some 5), (4, 1#24, 0, some 0), (5, 1#24, 0, some 2), (6, 1#24, 0, some 3), (7, 1#24, 0, some 4),
      (0, 1#24, 0, some 5), (1, 1#24, 0, some 1), (2, 1#24, 0, some 1), (3, 1#24, 0, some 1), (3, 1#24, 5000, none)].all
      fun x =>
        let s := (script (op1 (.cawait 0 x.2.1 x.2.2.1) [] [resU (.upred 2) 1 false, resU .latchOnly 32 true])).setTicket 0
          { Ticket.free with state := x.1 }
        after (.variableOpComplete 7) s fun t => match x.2.2.2 with
          | some code => t.ops.isEmpty && vget (t.group (fetchKey .circuit)).h 2 false == (code == 0)
              && (t.group (fetchKey .circuit)).ulat.val == BitVec.ofNat 64 code
          | none => !t.ops.isEmpty) = true := by
  decide +kernel

/-- A CUSE in flight ends; the barrier that it put its circuit in holds it and what it held before. -/
theorem witness_CircuitUsed :
    after (.variableOpComplete 7) (script (op1 .cuse [] [])) (fun t => t.ops.isEmpty) = true
    ∧ mapGet ((({ base with clbs := [(63, [2])] } : State).useCircuit 0 63).clbs) 63 [] = [2, 0] := by
  decide +kernel

/-- Ports 0 and 1 live, of planes 0 and 1 or of plane 0 alone. -/
def livePorts (ns : List Nat) (s : State) : State :=
  { s with ports := ns.map fun n => (n, { Port.reset with state := 3 }) }

/-- PLDRAIN of plane 0 with and without another live plane; PLJOIN with and without a live port. -/
theorem witness_Planes :
    let s (k : OpKind) (ns : List Nat) := livePorts ns (script (op1 k [] [resU (.upred 1) 1 false]))
    let h (b : Bool) (t : State) : Bool := t.ops.isEmpty && vget (t.group (fetchKey .circuit)).h 1 false == b
    after (.variableOpComplete 7) (s (.pldrain 0 false) [0]) (h false) = true
    ∧ after (.variableOpComplete 7) (s (.pldrain 0 false) (List.range 64)) (h true) = true
    ∧ after (.variableOpComplete 7) (s (.pldrain 0 true) [0]) (h true) = true
    ∧ (s (.pldrain 0 false) (List.range 64)).flitsOn 0 = false
    ∧ after (.variableOpComplete 7) (s (.pljoin 0) []) (h false) = true
    ∧ after (.variableOpComplete 7) (s (.pljoin 0) (List.range 64)) (h true) = true := by
  decide +kernel

/-- TMR.WAIT of a timer that is not armed, and of one that is. -/
theorem witness_TimerWaits :
    after (.variableOpComplete 7) (script (op1 (.tmrWait 7) [] [])) (fun t => t.ops.isEmpty) = true
    ∧ after (.variableOpComplete 7)
      (ctx1 (fun x => { x with timers := x.timers.setIfInBounds 7 (some 1000) }) (script (op1 (.tmrWait 7) [] [])))
      (fun t => !t.ops.isEmpty) = true := by
  decide +kernel

/-- A command core's program, its operation 7 in flight. -/
def command (o : Op) : State :=
  { onEngine .command base with ops := [(7, { o with group := fetchKey .command, uni := true })] }

/-- EVTAKE with an event and without; QLOCK of a lock that is free and of one that is held. -/
theorem witness_CommandWaits :
    let k := fetchKey .command
    after (.variableOpComplete 7) { command (op1 .evtake [] [resU (.uni 4) 64 true]) with events := [9#64] }
      (fun t => t.ops.isEmpty && t.events.isEmpty) = true
    ∧ after (.variableOpComplete 7) (command (op1 .evtake [] [resU (.uni 4) 64 true])) (fun t => !t.ops.isEmpty) = true
    ∧ after (.variableOpComplete 7) (command (op1 (.qlock 255) [] []))
      (fun t => t.ops.isEmpty && mapGet? t.qlocks 255 == some k) = true
    ∧ after (.variableOpComplete 7) { command (op1 (.qlock 255) [] []) with qlocks := [(255, 1)] }
      (fun t => !t.ops.isEmpty && mapGet? t.qlocks 255 == some 1) = true
    ∧ base.events.length < 4096 ∧ base.heldEvts = [] := by
  decide +kernel

/-- Traps with a vector, without one, and in handler mode; the return from one. -/
theorem witness_Traps :
    let with_ (r : TrapRegs) := grp (fun g => { g with trap := r }) base
    (∀ l, l < 32 → laneOf (base.group 0).tx l = none)
    ∧ (((with_ ⟨false, 0#8, 0#32, 0#64, 0#32, 0x4000#64⟩).takeTrap 0 fetchPc 1#32 0x11#8 42#32).group 0).trap
      = ⟨true, 0x11#8, 42#32, fetchPc, 1#32, 0x4000#64⟩
    ∧ (base.takeTrap 0 fetchPc 1#32 0x11#8 42#32).agenda = [.teamEnd 0 0x0111#16]
    ∧ ((with_ ⟨true, 0#8, 0#32, 0#64, 1#32, 0x4000#64⟩).takeTrap 0 fetchPc 1#32 0x11#8 42#32).agenda = [.teamEnd 0 0x0133#16]
    ∧ lanesAt (((with_ ⟨true, 0x11#8, 42#32, 0x5000#64, 1#32, 0x4000#64⟩).returnFromTrap 0).group 0) 0x5000#64 = 1#32 := by
  decide +kernel

/-! ## Decoding and steps -/

/-- A well-formed instruction of every engine. -/
theorem witness_EncodedDecodes :
    ([(EngineKind.partition, Instr.iadd (wd 0 r4 r4 r4 zr 0)), (.churn, .mzero (wd 0 zr zr zr zr 3)),
      (.circuit, .crel (wd 0 zr r4 zr zr 0)), (.command, .evtake (wd 0 r4 zr zr zr 0))].all fun x => x.2.wellFormedOn x.1)
      = true := by
  decide +kernel

/-- The word of R22 that decodes, and one that fails check 1. -/
theorem witness_DecodedEncodes :
    (decode .partition 0x0400_9010_010C_04C0_0100_0000_0000_0064).toOption.isSome = true
    ∧ (decode .partition 0x0040_7C00_C00C_00C0_0000_0001_0000_0000).toOption = none := by
  decide +kernel

/-- The state in which a word is next has every premise of StepRunsDecoded. -/
theorem witness_StepRunsDecoded :
    (let w : InstrWord := 0x0400_9010_010C_04C0_0100_0000_0000_0064
    let s0 := State.reset.withFetchWord 128 w.toNat
    match s0.chosen with
    | [c] =>
      let s := { s0 with chosen := [], cur := c }
      s.mayRun c.group && (s.group c.group).hasPath c.pc c.lanes && s.stallOver c.group
        && (s.tluHit 0 1 (vaddr 0#16 c.pc)).isSome && s.homeReached 0 0x1000 && !s.readsPoison 0x1000
        && (match s.translate 0 1 (vaddr 0#16 c.pc) .fetch with
          | .ok pa _ _ _ => pa == 0x1000
          | _ => false)
        && (List.range 16).all fun n => s.viewByte 0 (0x1000 + n) == byteAt w n
    | _ => false) = true := by
  decide +kernel

end Sys2Proof.Tests
end

