-- ==== Sys2Proof/Tests/Teams.lean ====
section
/-! SUPPORT. Witnesses for the statements about the steps of the issue stages, the lease controllers, the wait-swap, the
distributors and the Rennet, and what each step then leaves. -/

set_option Elab.async false

namespace Sys2Proof.Tests

open Machine Stated

/-- The event changes nothing. -/
def idles (i : Instr) (s : State) : Bool := after i s fun t => t == s

/-- Package time. -/
def at_ns (n : Nat) (s : State) : State := { s with timer := BitVec.ofNat 64 n }
/-- Core cycles. -/
def at_cycle (n : Nat) (s : State) : State := { s with cycle := BitVec.ofNat 64 n }

/-- Context 1 resident on cluster 0. -/
def resident1 (s : State) : State := { s with resid := [⟨1#64, some 1, none, 0, none, none, none, false⟩] }

/-- The group's lease. -/
def leased (l : Lease) : State → State := grp fun g => { g with lease := l }

/-- A lease of a group, with its activation. -/
def lease1 (boost count : Nat) (act : Activation) : Lease :=
  { Group.blank.lease with boost := boost, declared := count, mode := .declared, act := act }

/-! ## Issue and leases -/

/-- A partition whose one path may issue, and one with no group. -/
theorem witness_IssueSelection :
    base.stageKeys 0 = [0] ∧ (match base.pathReady 0 ⟨fetchPc, 0xFFFFFFFF#32, 0⟩ with
      | .ready _ st held => st == 0 && !held
      | _ => false) = true
    ∧ base.laneFree 0 = true
    ∧ after (.issueSelect 0) base (fun t => t.chosen == [⟨0, fetchPc, 0xFFFFFFFF#32, base.now + 1⟩]) = true
    ∧ base.stageKeys 5 = [] ∧ idles (.issueSelect 5) base = true := by
  decide +kernel

/-- Two active groups of core 0, with leases of 4,000 and 3,000. -/
def twoLeased : State :=
  let s := leased { lease1 0 4000 .active with protectedUntil := 9 } base
  { s with groups := s.groups ++ [(1, { s.group 0 with grp := 1, occ := 1, lease := lease1 0 3000 .active })] }

/-- A boost that falls; a core over its budget and cores that are not; an inactive group alone; protection that ends;
a group that has waited 1,024 cycles and one that has waited 1,023. -/
theorem witness_LeaseControllers :
    after (.boostDecay 0) (leased (lease1 100 0 .active) base) (fun t => (t.group 0).lease.boost == 36) = true
    ∧ idles (.leaseOverrunDeactivate 0) base = true
    ∧ (twoLeased.leaseBudget 0 < twoLeased.leaseSum 0 ∧ twoLeased.activeCount 0 = 2 ∧ twoLeased.canDeactivate 0 = [1])
    ∧ after (.leaseOverrunDeactivate 0) twoLeased (fun t => (t.group 1).lease.act == .inactive && t.group 0 == twoLeased.group 0)
      = true
    ∧ after (.activationEvaluate 0) (leased { lease1 0 4 .inactive with inactiveSince := 5 } (at_ns 100005 base)) (fun t =>
      (t.group 0).lease.act == .active && (t.group 0).lease.protectedUntil == 110005) = true
    ∧ after (.activationEvaluate 0) (leased { lease1 0 4 .inactive with recentlyOff := true } (at_ns 99999 base)) (fun t =>
      (t.group 0).lease.act == .inactive && !(t.group 0).lease.recentlyOff) = true
    ∧ after (.protectionExpiry 0) (leased { lease1 0 4 .active with protectedUntil := 70 } (at_ns 70 base)) (fun t =>
      (t.group 0).lease.protectedUntil == 0 && t.agenda.isEmpty) = true
    ∧ ([(1024, Activation.dormant), (1023, .active)].all fun x =>
      after (.dormantEntry 0) (grp (fun g => { g with wait := some ⟨.bar, 0, 0⟩ }) (at_cycle x.1 base)) fun t =>
        (t.group 0).lease.act == x.2) = true := by
  decide +kernel

/-! ## The wait-swap -/

/-- A team whose one group has waited since time 0, with room to save it. -/
def waiting1 : State :=
  resident1 (ctx1 (fun x => { x with teamSave := 65536 }) (grp (fun g => { g with wait := some ⟨.bar, 0, 0⟩ }) (at_ns 20001 base)))

/-- That team while it is saved, and out. -/
def saving1 (sw : SwapState) : State := { waiting1 with teams := [(0, { team1 0 with swap := sw, ready := false })] }

/-- That team out, its group saved. -/
def out1 (ready : Bool) : State :=
  { waiting1 with
    groups := []
    teams := [(0, { team1 0 with swap := .out, ready := ready, saved := [(parkedKey 0 0, waiting1.group 0)] })] }

/-- A team that may leave, on a halted die too; one whose group has waited WTHRESH and no longer; a save that has not
ended and one that has; a team that may return and one that may not. -/
theorem witness_WaitSwaps :
    waiting1.partTeams 0 = [0] ∧ waiting1.mayLeave 0 (team1 0) = true ∧ waiting1.dieHalted 0 = false
    ∧ after (.waitSwapCheck 0) waiting1 (fun t => t.teams.all (fun x => x.2.swap != .resident) && t.groups == waiting1.groups) = true
    ∧ ((at_ns 20000 waiting1).group 0).waitedPast 20000 (20 * 1000) = false
    ∧ idles (.waitSwapCheck 0) (at_ns 20000 waiting1) = true
    ∧ (let s := waiting1.setDie 0 { Die.idle with thermHalt := true }
      s.dieHalted 0 && after (.waitSwapCheck 0) s fun t => t.teams.all (fun x => x.2.swap != .resident)) = true
    ∧ idles (.waitSwapSaveEnd 0) (saving1 (.saving 20002)) = true
    ∧ after (.waitSwapSaveEnd 0) (saving1 (.saving 20001)) (fun t => t.groups.isEmpty && (t.team? 0).any fun y =>
      y.swap == .out && y.saved.map (·.2) == [(waiting1.group 0).saved]) = true
    ∧ idles (.teamReturn 0) (out1 false) = true
    ∧ after (.teamReturn 0) (out1 true) (fun t => t.groups.length == 1 && (t.team? 0).any fun y =>
      y.swap == .resident && y.saved.isEmpty && y.age == (out1 true).nextId) = true := by
  decide +kernel

/-! ## Distributors -/

/-- A launch with teams still to place in a range of a cluster. -/
def toPlace (cl : Nat) : State :=
  { ctx1 (fun x => { x with part := 3#64 }) (resident1 base) with
    resid := [⟨3#64, some 1, none, 0, none, none, none, false⟩]
    groups := []
    teams := []
    launches := [(0, { launch1 with teams := 0, packet := { launch1.packet with nteam := 8 } })]
    ranges := [⟨0, cl, 2, 8⟩] }

/-- A range whose low end is placed, a cluster with nothing to place, a steal and nothing to steal. -/
theorem witness_Distributors :
    let s := toPlace 0
    (match rangeOrders { launch1 with packet := { launch1.packet with nteam := 8 } } ⟨0, 0, 2, 8⟩ with
      | [x] => s.bestCore 0 x == some 0
      | _ => false) = true
    ∧ after (.teamPlace 0) s (fun t => t.ranges == [⟨0, 0, 3, 8⟩] && t.groups.length == 1
      && (t.team? s.nextId).any fun y => y.core == 0 && y.index == 2#32 && y.ngrp == 1) = true
    ∧ idles (.teamPlace 1) s = true
    ∧ (s.stealable 1 = [0] ∧ s.couldPlace 1 0 = true)
    ∧ after (.distributorSteal 1) s (fun t => t.ranges == [⟨0, 0, 2, 5⟩, ⟨0, 1, 5, 8⟩]) = true
    ∧ s.stealable 0 = [] ∧ idles (.distributorSteal 0) s = true := by
  decide +kernel

/-! ## Ends -/

/-- A team with nothing in flight and one with a store that has left its core; a group with a lane left, and one that is
done. -/
theorem witness_Ends :
    after (.teamEnd 0 0x0130#16) base (fun t => t.teams.isEmpty && (mapGet? t.groups 0).isNone) = true
    ∧ after (.teamEnd 0 0x0130#16) (flying (op1 (.store .ef none) [acc1 0#128] []) base) (fun t =>
      (t.team? 0).any (·.ended) && !t.ops.isEmpty && (t.group 0).halted) = true
    ∧ idles (.groupSlotRelease 0) base = true
    ∧ (let s := grp (fun g => { g with exited := 0xFFFFFFFF#32, table := [] }) base
      (s.group 0).done && (s.group 0).flagsSet && s.teamGroups 0 == [(0, s.group 0)]
        && after (.groupSlotRelease 0) s fun t => t.groups.isEmpty && t.agenda.head? == some (.teamEnd 0 0#16)) = true
    ∧ (let o := op1 (.store .ef none) [acc1 0#128] []
      let s := flying o (grp (fun g => { g with exited := 0xFFFFFFFF#32, table := [] }) base)
      o.pastFault && o.kind.goesOn && !isGhost 0 && after (.groupSlotRelease 0) s fun t =>
        (mapGet? t.groups 0).isNone && t.ops.map (·.1) == [7]) = true := by
  decide +kernel

/-! ## The Rennet -/

/-- Compute die 0 with records held and queued for node 0 of launch 0. -/
def withRecords (held : List HeldRecord) (qs : List NodeQueue) : State :=
  (withNode base).setDie 0 { Die.idle with heldRecs := held, queues := qs }

/-- A record that no store has room for. -/
theorem witness_RecordHeld : (({ Die.idle with heldRecs := [⟨3, 0, 0, List.replicate 524289 0#8⟩] } : Die).fits
    (List.replicate 524289 0#8).length) = false := by
  rw [List.length_replicate]
  decide

/-- The node of a store one byte over seven-eighths full. -/
theorem relief_of_length (r : List Byte) (h : r.length = 458753) :
    (withRecords [] [⟨0, 0, [r], 0, 0⟩]).reliefNode 0 = some ⟨0, 0, [r], 0, 0⟩ := by
  have hb : ((withRecords [] [⟨0, 0, [r], 0, 0⟩]).die 0).storeBytes = 458753 := (Nat.zero_add _).trans ((Nat.zero_add _).trans h)
  rw [State.reliefNode, hb]
  rfl

theorem witness_RecordRelief : (withRecords [] [⟨0, 0, [List.replicate 458753 0#8], 0, 0⟩]).reliefNode 0
    = some ⟨0, 0, [List.replicate 458753 0#8], 0, 0⟩ := relief_of_length _ List.length_replicate

/-- A record that fits and a store with none held; a batch 9,999 and 10,000 ns after its last record; a launch that
has stood still for 1 s less 1 ns, and for 1 s. -/
theorem witness_Rennets :
    let r : HeldRecord := ⟨3, 0, 0, [1#8, 2#8]⟩
    let q : NodeQueue := ⟨0, 0, [[1#8, 2#8]], 0, 4⟩
    after (.rennetRecordAccept 0) (withRecords [r] []) (fun t => (t.die 0).heldRecs.isEmpty) = true
    ∧ idles (.rennetRecordAccept 0) (withRecords [] []) = true
    ∧ idles (.rennetBatchTimeout 0 0 0) (at_ns 9999 (withRecords [] [q])) = true
    ∧ after (.rennetBatchTimeout 0 0 0) (at_ns 10000 (withRecords [] [q]))
      (fun t => (t.die 0).toPlace == [⟨0, 0, 4, [[1#8, 2#8]]⟩]) = true
    ∧ idles (.rennetStallEnd 0) (at_ns 999999999 (withRecords [r] [])) = true
    ∧ after (.rennetStallEnd 0)
      (at_ns 1000000000 { withRecords [r] [q] with launches := [(0, { launch1 with counter := 3 })] }) (fun t =>
      (t.die 0).heldRecs.isEmpty && (t.die 0).queues.isEmpty && t.agenda.contains (.teamEnd 0 0#16)
        && (t.launch? 0).any fun l => l.error == 0x0024#16) = true := by
  decide +kernel

end Sys2Proof.Tests
end

