-- ==== Sys2Proof/Tests/Engines.lean ====
section
/-! SUPPORT. Witnesses for the statements about the steps of the Pail, the Churn, the translation units and the time-outs,
and what each step then leaves. -/

set_option Elab.async false

namespace Sys2Proof.Tests

open Machine Stated

/-! ## Copies -/

/-- A copy of 4-byte elements from 0x100 to 0x800 in one dimension. -/
def shape1 (n : Nat) : Shape where
  src := 0x100#64
  srcSpace := 0#16
  dstSpace := 0#16
  fmt := 2
  dims := 1
  stepDim := 0
  red := 0
  comp := false
  dkind := false
  cb := 0
  cbEn := false
  clb := 3
  clbEn := false
  dst := 0x800#64
  dwFirst := 0
  lmap := 0
  sscale := 0
  dscale := 0
  box := [n, 1, 1, 1, 1]
  peer := 0
  remote := false
  repl := 0#32
  stride := [0, 0, 0, 0]
  reserved := false

/-- Copy 4 of that shape, in context 1. -/
def copy1 (n : Nat) : Copy where
  cluster := 0
  core := 0
  group := 0
  team := 0
  grid := 0
  ctx := 1
  batch := 0
  index := 0
  shape := shape1 n
  step := 0
  started := true
  next := 0
  total := 4 * n
  dest := 0
  issueNs := 0
  pc := 0x1000#64
  lanes := 1#32
  error := 0
  fault := none
  teams := []
  carry := []

/-- Copy 4 in a Pail. -/
def copying (c : Copy) (s : State) : State := { s with copies := [(4, c)] }

/-- Pages of context 1 at 0x140000, their translation held, and a word at the source. -/
def paged : State :=
  let s := tables 0x14003B
  let s := { s with mem := memSetAll s.mem 0x140100 [1#8, 2#8, 3#8, 4#8] }
  match s.walk 1 0x345#80 .write with
  | .ok pa k r big => s.tluFill 0 1 0x345#80 pa k r big
  | _ => s

/-- Circuit-live barrier 3 holds a circuit in a state: 4 live, 5 lost. -/
def holding (x : Nat) (s : State) : State := { s.setTicket 0 { Ticket.free with state := x } with clbs := [(3, [0])] }

/-- A piece with more to come and a last one; what memory then has; a barrier that has broken; a piece not translated;
a copy that has not started, and its test. -/
theorem witness_CopyPieces :
    (let c := copy1 40
    let s := copying c paged
    s.copyRuns c && s.pieceMapped c && !s.storeWaits 4 && s.pieceReady 4 c && decide (c.next + c.pieceLen < c.total)
      && s.reds.isEmpty && !s.pieceReadsPoison c
      && s.copyPa c (c.dstVa c.next) .write == some 0x140800 && placeOf s 0x140800 == .near && s.dirty.isEmpty
      && after (.copyPieceDeliver 4) s fun t =>
        mapGet? t.copies 4 == some { c with next := 128, issueNs := s.ns }
          && (List.range 4).map (fun i => t.latestByte (0x140800 + i)) == [1#8, 2#8, 3#8, 4#8]) = true
    ∧ (let c := copy1 32
    let s := copying c paged
    s.copyRuns c && s.pieceReady 4 c && decide (c.total ≤ c.next + c.pieceLen)
      && after (.copyPieceDeliver 4) s fun t => t.copies.isEmpty) = true
    ∧ (let c := copy1 1
    let s := { copying c paged with tlb := [] }
    s.copyRuns c && !s.pieceMapped c && after (.copyPieceDeliver 4) s fun t => t.agenda == [.pageWalk (.copy 4)]) = true
    ∧ (let c := { copy1 1 with started := false }
    let s := copying c paged
    !s.copyRuns c && idles (.copyPieceDeliver 4) s) = true := by
  decide +kernel

/-- A GA store whose acknowledgement from die 1 is missing holds the line of an address. -/
def lineHeldAt (pa : Nat) (s : State) : State :=
  { s with ops := (9, { op1 (.store .ga none) [{ acc1 0#128 with pa := some (BitVec.ofNat 52 pa) }] [] with mask := 2#8 }) :: s.ops }

/-- A piece that waits for its source's line; one put at its destination's line, before and after it is served; a piece
to a peer, with more to come and the last. -/
theorem witness_CopyHolds :
    (let c := copy1 40
    let s := lineHeldAt 0x140100 (copying c paged)
    s.copyRuns c && s.pieceMapped c && !s.storeWaits 4 && !s.pieceReady 4 c && after (.copyPieceDeliver 4) s fun t =>
      mapGet? t.copies 4 == some c && (s.pieceLines 4 c).all fun l => (t.lineQueue l).contains 4) = true
    ∧ (let s := { copying (copy1 40) paged with log := [⟨0x140800, [1#8], 1#8, [], 4, false⟩] }
    s.storeWaits 4 && s.parkServed 0 4 && !(lineHeldAt 0x140800 s).parkServed 0 4
      && idles (.copyPieceDeliver 4) (lineHeldAt 0x140800 s) && after (.copyPieceDeliver 4) s fun t =>
        !t.storeWaits 4 && mapGet? t.copies 4 == some { copy1 40 with next := 128, issueNs := s.ns }) = true
    ∧ ([(40, some 128), (32, none)].all fun x =>
      let c := { copy1 x.1 with shape := { shape1 x.1 with remote := true, peer := 1 } }
      let s := bound (copying c paged)
      s.copyRuns c && s.pieceMapped c && s.pieceReady 4 c && after (.copyPieceDeliver 4) s fun t =>
        match mapGet? t.copies 4 with
        | some d => d.next == 128 && d.out.map (·.peer) == [1] && x.2.all fun n => d.next == n
        | none => false) = true := by
  decide +kernel

/-- Copies that name a circuit-live barrier which is live, broken, and neither. -/
theorem witness_CopyTests :
    (let c := copy1 1
    let b := { c with shape := { c.shape with clb := 3, clbEn := true } }
    let w := { b with started := false }
    (holding 4 base).clbState 3 == 1 && (holding 5 base).clbState 3 == 2 && (holding 3 base).clbState 3 == 3
      && (holding 5 (copying b paged)).copyRuns b
      && after (.copyPieceDeliver 4) (holding 5 (copying b paged)) (fun t => t.copies.isEmpty)
      && after (.clbCopyTest 4) (holding 4 (copying w paged)) (fun t => t.copies == [(4, { w with started := true, issueNs := 0 })])
      && !(holding 5 (copying w paged)).copyRuns w
      && after (.copyPieceDeliver 4) (holding 5 (copying w paged)) (fun t => t.copies.isEmpty)
      && after (.clbCopyTest 4) (holding 5 (copying w paged)) (fun t => t.copies.isEmpty)
      && idles (.clbCopyTest 4) (holding 3 (copying w paged))) = true := by
  decide +kernel

/-! ## The Churn -/

/-- A macro-operation of operation 7 on tile 2, of one step. -/
def macro1 (kind : MacroKind) (begun : Bool) : MacroOp where
  op := 7
  kind := kind
  bs := false
  tile := 2
  steps := 1
  q := 5
  e := 0
  base := 0#80
  bsFmt := 0#32
  step := 0
  taken := 2
  begun := begun
  lastAt := none
  fault := none

/-- A cluster whose queue holds one macro-operation, with two fed tiles of BF16 and the given drain buffer. -/
def churning (m : MacroOp) (drain : List DrainTile) (s : State) : State :=
  (flying (op1 .churnOp [] []) s).modChurn 0 fun x =>
    { x with
      tiles := [(2, [(3, 0x40000000#32)])]
      macros := [m]
      drain := drain
      feed := [⟨1#32, [(0, 0x80#8), (1, 0x3F#8)], true, 0, 0, false⟩, ⟨1#32, [(0, 0x80#8), (1, 0x3F#8)], true, 0, 0, false⟩] }

/-- The operation is at the head and may go on. -/
def atHead (s : State) : Bool :=
  match (s.churn 0).macros with
  | m :: _ => !s.stoppedAt 0 && m.fault.isNone && m.lastAt.isNone
  | [] => false

/-- An operation of one step that the queue holds, and what it leaves. -/
def macroLeaves (i : Instr) (kind : MacroKind) (drain : List DrainTile) (p : Churn → Bool) : Bool :=
  atHead (churning (macro1 kind false) drain base)
    && after i (churning (macro1 kind false) drain base) fun t =>
      (t.churn 0).macros.isEmpty && t.ops.isEmpty && p (t.churn 0)

/-- MZERO, MMOV of both kinds, a full drain buffer, an MMA whose step may go, a halted die, and an MMA 23 and 24
cycles after its last step. -/
theorem witness_MacroOperations :
    macroLeaves (.macroStep 0) .mzero [] (fun x => (x.tile 2).isEmpty) = true
    ∧ macroLeaves (.macroStep 0) .mmovCopy [] (fun x => x.tile 5 == [(3, 0x40000000#32)]) = true
    ∧ macroLeaves (.macroStep 0) .mmovDrain [⟨[], none⟩] (fun x => x.drain.map (·.tile) == [[], [(3, 0x40000000#32)]]) = true
    ∧ (let s := churning (macro1 .mmovDrain false) (List.replicate 4 ⟨[], none⟩) base
      atHead s && idles (.macroStep 0) s) = true
    ∧ (let s := churning (macro1 .mma true) [] base
      atHead s && (macro1 .mma true).missing (s.churn 0) == none) = true
    ∧ (let s := (churning (macro1 .mzero false) [] base).setDie 0 { Die.idle with thermHalt := true }
      s.stoppedAt 0 && idles (.macroStep 0) s) = true
    ∧ (let s := churning { macro1 .mma true with lastAt := some 40 } [] base
      idles (.macroComplete 0) (at_cycle 63 s)
        && after (.macroComplete 0) (at_cycle 64 s) fun t => (t.churn 0).macros.isEmpty && t.ops.isEmpty) = true := by
  decide +kernel

/-- R95: the chunk sum of a row and a column of BF16 whose only elements not 0 are 1.0 and 1.0 is 1, and 2.0 takes it. -/
theorem test_chunk_sum :
    let row := [0x80#8, 0x3F#8] ++ List.replicate 30 0#8
    accumulate 0x40000000#32 (chunkSum 1 0 0 row row) = 0x40400000#32 := by
  decide +kernel

/-- A team ends while a copy of it runs, and while a macro-operation that was queued as it ended does: its slots stay. -/
theorem witness_EndsHeld :
    (let s := copying (copy1 1) base
    !(s.teamKeys 0).isEmpty && after (.teamEnd 0 0x0130#16) s fun t => (t.team? 0).any (·.ended) && t.copies == s.copies
      && (t.group 0).halted) = true
    ∧ (let s := { (base.modChurn 0 fun x => { x with macros := [macro1 .mzero false] }) with
      teams := [(0, { team1 0 with ended := true, macros := [7] })] }
    after (.teamEnd 0 0x0130#16) s fun t => (t.team? 0).any (·.ended) && t.clusters == s.clusters
      && (t.group 0).halted) = true := by
  decide +kernel

/-! ## Scales and walks -/

/-- Cluster 0 runs launch 0's program; TID 6 is registered at address 0x100. -/
def scaled (s : State) : State :=
  { s.modChurn 0 fun x => { x with grid := some 0, scales := [(6, 0x100#80)] } with
    groups := s.groups ++ [(controllerKey 0, { Group.blank with ctx := 1 })] }

/-- A TID with no registration, one whose address is translated (its line held, and not), a byte on its way that
comes, for the array registered and for one since replaced, and an address not translated. -/
theorem witness_Scales :
    mapGet? (base.churn 0).scales 6 = none
    ∧ after (.scaleCacheMissRead 0 6 0) base (fun t => (t.churn 0).scale? (6, 0) == some 0#8) = true
    ∧ (let s := scaled paged
      s.churnPa 0 (0x100#80, .read) == some 0x140100 && !s.readsPoison 0x140100 && s.reds.isEmpty
        && s.lineFree 0 (lineOf 0x140100) && !(lineHeldAt 0x140100 s).lineFree 0 (lineOf 0x140100)
        && idles (.scaleCacheMissRead 0 6 0) (lineHeldAt 0x140100 s)
        && after (.scaleCacheMissRead 0 6 0) s fun t =>
          (t.churn 0).scaleRead == [⟨6, 0, 1#8, s.now + s.nextDelay, false⟩]) = true
    ∧ (let s (stale : Bool) := (scaled paged).modChurn 0 fun x => { x with scaleRead := [⟨6, 0, 1#8, 9, stale⟩] }
      idles (.scaleCacheMissRead 0 6 0) (at_cycle 8 (s false)) && (((s false).churn 0).stepByte == [])
        && after (.scaleCacheMissRead 0 6 0) (at_cycle 9 (s false)) (fun t => (t.churn 0).scaleRead.isEmpty
          && (t.churn 0).scale? (6, 0) == some 1#8)
        && after (.scaleCacheMissRead 0 6 0) (at_cycle 9 (s true)) fun t => (t.churn 0).scaleRead.isEmpty
          && (t.churn 0).scaleByte == [] && (t.churn 0).stepByte.head? == some ((6, 0), 1#8)) = true
    ∧ (let s := { scaled paged with tlb := [] }
      s.churnPa 0 (0x100#80, .read) == none
        && after (.scaleCacheMissRead 0 6 0) s fun t => t.agenda == [.pageWalk (.churnOp 0)]) = true := by
  decide +kernel

/-- A translation succeeds. -/
def walksOk (va : VAddr) (s : State) : Bool :=
  match s.translate 0 1 va .fetch with
  | .ok _ _ _ _ => true
  | _ => false

/-- A fetch whose page is walked for, and one whose leaf is marked for a migration. -/
theorem witness_Walks :
    (let s := { tables 0x14003B with tlb := [] }
    let va := (s.group 0).fetchVa 0x345#64
    walksOk va s && after (.pageWalk (.fetch 0 0x345#64)) s fun t =>
      (t.tluHit 0 1 va).isSome && t.groups == s.groups && t.mem == s.mem) = true
    ∧ (let s := { tables 0x1400BB with tlb := [] }
    (match s.translate 0 1 ((s.group 0).fetchVa 0x345#64) .fetch with
      | .hold => true
      | _ => false) && idles (.pageWalk (.fetch 0 0x345#64)) s) = true := by
  decide +kernel

/-! ## Time-outs -/

/-- A store that has left and whose acknowledgement is lost. -/
def lost1 (left : Bool) : Op := { op1 (.store .ga none) [acc1 0#128] [] with left := left }

/-- That store in flight, 50,000 ns later. -/
def lostStore (left : Bool) (s : State) : State := at_ns 50000 (flying (lost1 left) s)

/-- An acknowledgement lost with no ring for its record and with one, and none lost. -/
theorem witness_AckTimeOuts :
    ((lostStore true base).ackMayBeLost 7 (lost1 true) && (lostStore true base).ackStateFits 7 (lost1 true) .done && (lost1 true).acting.length == 1
      && (base.group 0).engine == .partition && !(lostStore false base).ackMayBeLost 7 (lost1 false)
      && after (.ackLostTimeout 7 .done) (lostStore true base) (fun t => t.agenda.head? == some (.teamEnd 0 0x0123#16))
      && idles (.ackLostTimeout 7 .done) (lostStore false base)
      && after (.ackLostTimeout 7 .done)
        (lostStore true (ctx1 (fun x => { x with fhDesc := 0x1000#64, aring := 0x400#64, arLog := 4 }) paged)) fun t =>
        match (t.group 0).fault with
        | some f => f.cause == 0x23#8 && f.ack && f.state == .done && f.seq == 0
        | none => false) = true := by
  decide +kernel

/-- Commits, remote operations and copies 1 ns before their time-outs and at them. -/
theorem witness_RemoteTimeOuts :
    (let x := inTransaction 0#8 (flying { op1 .xend [] [] with active := 1#32, mask := 2#8 } base)
    idles (.xendAckTimeout 7) (at_ns 49999 x)
      && idles (.xendAckTimeout 7) (at_ns 50000 (inTransaction 0#8 (flying (op1 .xend [] []) base))) && after (.xendAckTimeout 7) (at_ns 50000 x) fun t => t.ops.isEmpty
      && laneOf (t.group 0).tx 0 == none && (laneOf (t.group 0).xcode 0).extractLsb' 0 8 == 2#8) = true
    ∧ (let x := flying (op1 .rld [{ acc1 0#128 with pa := none, peer := some 1 }] [res1]) base
    idles (.fabricTimeout (.op 7)) (at_ns 9999999 x)
      && after (.fabricTimeout (.op 7)) (at_ns 10000000 x) fun t => t.agenda.head? == some (.teamEnd 0 0x0131#16)) = true
    ∧ (let x := copying { copy1 1 with
        shape := { shape1 1 with remote := true, peer := 1 }, out := [⟨1, 1, 0#32, 0, 1, [], [], [], []⟩] } base
    (at_ns 10000000 x).stripeTo 1 == [] && idles (.fabricTimeout (.copy 4)) (at_ns 9999999 x) && after (.fabricTimeout (.copy 4)) (at_ns 10000000 x) fun t => t.copies.isEmpty) = true := by
  decide +kernel

/-- A WWAIT to read again, a CAWAIT whose time has come and one whose time has not, a timer 1 ns before it expires and
then, with a wait for it. -/
theorem witness_WaitTimeOuts :
    (let o := op1 (.wwait 0 (Vector.replicate 32 0#32)) [acc1 0#128] [resU (.pred 2) 32 false]
    let s := flying o base
    s.mayPerform o && o.walked && decide (o.due ≤ s.now)
      && after (.wwaitReread 7) s fun t => after (.variableOpComplete 7) s fun u => t == u) = true
    ∧ (let k := { Ticket.free with state := 3, seq := 1#24 }
    let s := (script (op1 (.cawait 0 1#24 5000) [] [resU (.upred 2) 1 false, resU .latchOnly 32 true])).setTicket 0 k
    idles (.cawaitTimeout 7) (at_ns 5999 s) && (at_ns 6000 s).caExpired 5000
      && after (.cawaitTimeout 7) (at_ns 6000 s) fun t => t.ops.isEmpty) = true
    ∧ (let s := ctx1 (fun x => { x with timers := x.timers.setIfInBounds 7 (some 1000) }) (script (op1 (.tmrWait 7) [] []))
    idles (.timerExpiry 1 7) (at_ns 999 s) && after (.timerExpiry 1 7) (at_ns 1000 s) fun t => t.ops.isEmpty
      && (t.context 1).any fun c => vget c.timers 7 none == none) = true := by
  decide +kernel

end Sys2Proof.Tests
end

