-- ==== Sys2Proof/Tests/Contexts.lean ====
section
/-! SUPPORT. Witnesses for the statements about the steps of firmware that resolve faults, choose what is resident and change
mappings, and what each step then leaves. -/

set_option Elab.async false

namespace Sys2Proof.Tests

open Machine Stated

/-! ## Faults -/

/-- Context 1's rings, in its mapped pages: faults at 0x200 and acknowledgements at 0x400. -/
def rings (s : State) : State :=
  ctx1 (fun x => { x with fhDesc := 0x1000#64, fring := 0x200#64, aring := 0x400#64, frLog := 4, arLog := 4, unresF := [2] }) s

/-- Record 2 of the fault ring resolved as a replay, its handler at its end, and the group that holds the fault. -/
def resolved : State :=
  let s := rings paged
  grp (fun g => { g with fault := some ⟨0x20#8, 2, false, 0x1000#64, 1#32, 0, .noRecord⟩, wait := some ⟨.fault, 0, 0⟩ })
    { s with
      mem := memSetAll s.mem 0x1402B8 [1#8]
      launches := [(9, { launch1 with handler := some (2, 1, 0, 0), done := true })] }

/-- A record resolved, a package under a firmware update, and a record whose page migrates. -/
theorem witness_FaultsResolved :
    (let s := resolved
    !s.fw.quiesced && !s.ringHeld 1 && s.handlersDone 1 == [(9, { launch1 with handler := some (2, 1, 0, 0), done := true })]
      && (s.context 1).any (fun c => c.unresF == [2] && c.unresA.isEmpty)
      && (match s.readRecord 1 false 2 with
        | some r => !recordReserved false r && fieldOf r 0x38 1 == 1
        | none => false)
      && s.faultHolders 1 false 2 != []
      && after (.faultResolution 1) s fun t => (t.group 0).fault == none && (t.context 1).any fun c => c.unresF.isEmpty) = true
    ∧ (let s := { resolved with fw := { resolved.fw with quiesced := true } }
    idles (.faultResolution 1) s) = true
    ∧ (let s := rings { tables 0x1400BB with tlb := [] }
    s.ringHeld 1 && idles (.faultResolution 1) s) = true := by
  decide +kernel

/-- spec/08 R389: the handler's descriptor is all zeros, so its launch fails and the record is resolved as END. -/
theorem test_handler_launch_fails :
    (after (.faultResolution 1) { resolved with launches := [] } fun t =>
      (t.group 0).halted && (t.context 1).any fun c => c.unresF.isEmpty) = true := by
  decide +kernel

/-! ## Residency -/

/-- The partition of cluster 0 shared by contexts 1 and 2: who is resident and standby, and the exchange decided. -/
def sharing (r : Residency) (s : State) : State :=
  let s := ctx1 (fun x => { x with part := 1#64 }) s
  { s with
    contexts := (s.contexts.filter fun c => c.1 = 1) ++ ((s.contexts.filter fun c => c.1 = 1).map fun c => (2, c.2))
    resid := [r] }

/-- Context 1 resident since time 0. -/
def resid1 : Residency := ⟨1#64, some 1, none, 0, none, none, none, false⟩

/-- Queue 1, of priority `p`, that context `c` owns. -/
def owns (c : BitVec 8) (p : BitVec 5) (s : State) : State :=
  { s with queues := [(1, { Queue.reset with en := true, prio := p, ctx := c })] }

/-- A running launch of context 2, whose group is kept beside context 1's. -/
def busy2 (s : State) : State :=
  { s with
    launches := [(0, launch1), (8, { launch1 with ctx := 2, queue := 1 })]
    groups := s.groups ++ [(outKey 2 0, { s.group 0 with ctx := 2, team := 8 })]
    teams := s.teams ++ [(8, { team1 0 with ctx := 2, grid := 8 })] }

/-- The residency after an event meets a test. -/
def resides (i : Instr) (s : State) (p : Residency → Bool) : Bool :=
  after i s fun t => (t.residOf 1#64).any p

/-- A choice at 20,000 ns and 1 ns earlier; a stopped partition at rest and one not; a standby image that goes and one
that stays; an image that comes in. -/
theorem witness_Exchanges :
    (let s := at_ns 20000 (sharing resid1 (busy2 (owns 2#8 5#5 base)))
    (s.noteWork resid1).choice resid1 == some 2 && (s.noteWork resid1).mayDisplace resid1 2
      && !((at_ns 19999 s).noteWork resid1).mayDisplace resid1 2
      && resides (.residentChoice 1#64) s fun r => r == { resid1 with chosen := some 2, stopped := true }) = true
    ∧ (let r := { resid1 with chosen := some 2, stopped := true, standby := some 2 }
    let s := at_ns 30000 (sharing r (busy2 base))
    s.atRest 1#64 && resides (.crockExchange 1#64) s fun x =>
      x == { resid1 with resident := some 2, standby := some 1, sinceNs := 30000 }) = true
    ∧ (let r := { resid1 with chosen := some 2, stopped := true, standby := some 2 }
    let s := { sharing r (busy2 base) with laneBusy := [(0, 99)] }
    !s.atRest 1#64 && idles (.crockExchange 1#64) s) = true
    ∧ (let r := { resid1 with standby := some 2 }
    resides (.imageSpill 1#64) (sharing r base) (fun x => x == resid1)
      && idles (.imageSpill 1#64) (owns 2#8 31#5 (sharing r base))) = true
    ∧ resides (.imageFill 1#64 2) (sharing resid1 base) (fun x => x == { resid1 with standby := some 2 }) = true := by
  decide +kernel

/-- A context due at 3 ms and 1 ns earlier; a quantum's end and 1 ns before it; errors in an image and in a save area. -/
theorem witness_Due :
    (let s := (sharing resid1 (busy2 base)).modContext 2 fun x => { x with gainedAt := 1 }
    (s.demand 2 resid1).isSome && idles (.contextDue 2) (at_ns 3000000 s)
      && after (.contextDue 2) (at_ns 3000001 s) fun t => t.agenda == [.residentChoice 1#64]
        && (t.context 2).any fun c => c.dueSince == some 3000001) = true
    ∧ (let s := sharing { resid1 with quantum := some 500 } base
    idles (.quantumExpiry 1#64) (at_ns 499 s) && resides (.quantumExpiry 1#64) (at_ns 500 s) fun x => x == resid1) = true
    ∧ after (.crockUncorrectable (.team 0)) base
      (fun t => t.agenda.head? == some (.teamEnd 0 0x0026#16) && (t.group 0).halted) = true
    ∧ after (.crockUncorrectable (.image 2)) (owns 2#8 5#5 (sharing resid1 base)) (fun t => !(t.queue 1).en) = true := by
  decide +kernel

/-! ## Mappings -/

/-- A page of near memory that is to move to far memory. -/
theorem witness_OtherKind :
    (let s := { paged with boot := { paged.boot with sweepOk := true } }
    s.migs.isEmpty && s.entryOf 1 0x345#80 0 == some 0x100000
      && placeOf s 0x1010000180000 != placeOf s (entryAddr (s.entryAt 0x100000))
      && idles (.pageMigration 1 0x345#80 0x1010000180000#52) s) = true := by
  decide +kernel

/-- Context 1's page for address 0x345, and where its leaf stands. -/
def leafAt : Nat := 0x100000

/-- A change of the leaf and of an entry that no walk reaches; a migration's start, its next turn, and its end after
50 µs. -/
theorem witness_Mappings :
    (paged.entryOf 1 0x345#80 0 == some leafAt && !paged.unmapsSave (paged.entryAt leafAt) 0x18003B#64 0 && paged.slices.isEmpty
      && after (.mappingChange 1 0x345#80 0 0x18003B#64) paged fun t =>
        t.entryAt leafAt == 0x18003B#64 && t.tlb.all fun x => x.ctx != 1) = true
    ∧ (let s := ctx1 (fun x => { x with part := 1#64, saveOff := 0x140000, saveSz := 0x40000 }) paged
    s.unmapsSave (s.entryAt leafAt) 0x18003B#64 0 && idles (.mappingChange 1 0x345#80 0 0x18003B#64) s) = true
    ∧ (let s := { paged with mem := [] }
    s.entryOf 1 0x345#80 0 == none && idles (.mappingChange 1 0x345#80 0 0x18003B#64) s) = true
    ∧ (paged.pageGood (entryAddr (paged.entryAt leafAt)) && paged.pageGood 0x1000000180000
      && ownerOf 0x1000000180000 != ownerOf (entryAddr (paged.entryAt leafAt))
      && placeOf paged 0x1000000180000 == placeOf paged (entryAddr (paged.entryAt leafAt)) && (paged.entryAt leafAt) == 0x14003B#64
      && after (.pageMigration 1 0x345#80 0x1000000180000#52) paged fun t => t.entryAt leafAt == 0x1400BB#64
        && t.migs == [⟨1, 0#80, 0x140000#52, 0x1000000180000#52, false, 0, []⟩]) = true
    ∧ (let m : Migration := ⟨1, 0#80, 0x140000#52, 0x1000000180000#52, false, 0, []⟩
    let s := { tables 0x1400BB with migs := [m] }
    m.page == pageOf 0x345#80 false && !s.pageHeld 0x140000 && s.entryOf 1 m.page 0 == some leafAt
      && after (.pageMigration 1 0x345#80 0x1000000180000#52) s (fun t =>
        t.entryAt leafAt == 0x100000018003B#64 && t.migs == [{ m with moved := true }])
      && idles (.migrationAbandon 1 0x345#80) (at_ns 49999 s)
      && after (.migrationAbandon 1 0x345#80) (at_ns 50000 s) fun t =>
        t.entryAt leafAt == 0x14003B#64 && t.migs == [{ m with moved := true, newPa := m.oldPa }]) = true := by
  decide +kernel

end Sys2Proof.Tests
end

