-- ==== Sys2Proof/Tests/Fronts.lean ====
section
/-! SUPPORT. Witnesses for the statements about the steps of the host, of the front end and of the command cores, and what each
step then leaves. -/

set_option Elab.async false

namespace Sys2Proof.Tests

open Machine Stated

/-- A started package with requester 4 in a secure session under a certificate of the operator roster. -/
def operated (s : State) : State := { s with
  boot := { s.boot with ready := true }
  asker := 4
  ident := { s.ident with secure := [(4, [1#8])], opSet := true, opRoster := [[1#8]] } }

/-! ## The host -/

/-- Context 1's one window: BAR 2 from 0x1000 on, 256 bytes, to address 0x100, with rights. -/
def window (rights : Byte) (s : State) : State :=
  let s := ctx1 (fun x => { x with hwTab := 0x200000#52, hwCnt := 1 }) s
  { s with mem := memSetAll s.mem 0x200000 (leBytes 8 0x1000 ++ leBytes 10 0x100 ++ [rights] ++ List.replicate 5 0#8 ++ leBytes 8 0x100) }

/-- A window's access reaches one place of the page. -/
def reaches (need : Need) (n pa : Nat) (s : State) : Bool :=
  (s.windowAt 1 0x1000 n).isSome && s.reds.isEmpty
    && hostParts s 1 need (bufferAccesses 0 0x100#80 n) == some (some [(pa, n)])

/-- Accesses of BAR 2 outside the window and across its end, without the right, of a frozen page, and read and written. -/
theorem witness_HostWindows :
    ((window 3#8 paged).windowAt 1 0xFFF 1 == none && (window 3#8 paged).windowAt 1 0x10FF 2 == none
      && after (.hostBar2Access 1 0x10FF (.read 2)) (window 3#8 paged) fun t => t.outbox == [.unsupported]) = true
    ∧ ((window 2#8 paged).windowAt 1 0x10FF 1).any (fun w => !w.rd && w.wr) = true
    ∧ after (.hostBar2Access 1 0x1000 (.read 2)) (window 2#8 paged) (fun t => t.outbox == [.unsupported]) = true
    ∧ (let s := window 3#8 paged
    reaches .read 4 0x140100 s && reaches .write 1 0x140100 s
      && after (.hostBar2Access 1 0x1000 (.read 4)) s (fun t => t.outbox == [.hostRead [1#8, 2#8, 3#8, 4#8] false])
      && after (.hostBar2Access 1 0x1000 (.write [9#8])) s fun t => memGet t.mem 0x140100 == 9#8) = true
    ∧ (let s := window 3#8 { tables 0x1400BB with tlb := [] }
    hostParts s 1 .read (bufferAccesses 0 0x100#80 4) == some none
      && after (.hostBar2Access 1 0x1000 (.read 4)) s fun t =>
        t.inputs == [(s.now + 1, .hostBar2Access 1 0x1000 (.read 4))]) = true := by
  decide +kernel

/-- The coherent window at its last line, and the link's error state. -/
theorem witness_CoherentWindow :
    (let s := { base with mem := memSetAll base.mem (windowPa 0x3FFFF80) [7#8] }
    !s.hostErr && s.reds.isEmpty && s.log.isEmpty && s.dirty.isEmpty
      && after (.hostWindowRead 0x3FFFFFF) s (fun t => t.hostShares == [lineOf (windowPa 0x3FFFFFF)]
        && t.outbox == [.hostRead (7#8 :: List.replicate 127 0#8) false])
      && after (.hostWindowWrite 0x3FFFFFF [5#8]) s fun t =>
        t.latestByte (windowPa 0x3FFFFFF) == 5#8 && t.viewByte 1 (windowPa 0x3FFFFFF) == 5#8) = true
    ∧ after .hostSnoopTimeout base (fun t => t.hostErr) = true
    ∧ ((operated base).accepts 4 && !(operated base).accepts 5
      && after .hostLinkReset { operated base with hostErr := true } fun t => !t.hostErr) = true := by
  decide +kernel

/-! ## Registers -/

/-- Queue 4 in a state. -/
def queue4 (q : Queue) (s : State) : State := s.setQueue 4 q

/-- A started package. -/
def started (s : State) : State := { s with boot := { s.boot with ready := true } }

/-- Doorbells at the bounds of a ring of 16; QCTL of a disabled and an enabled queue, LOGSZ 12 and 13, before a start's
last step too; bases; ICW at the bounds of its budget. -/
theorem witness_RegistersWritten :
    (let s := queue4 { Queue.reset with wptr := 20#64, rptr := 10#64 } base
    idles (.doorbell 4 19#64) s && idles (.doorbell 4 27#64) s
      && after (.doorbell 4 26#64) s fun t => (t.queue 4).wptr == 26#64) = true
    ∧ ([(0x80CC0100#32, 12#4), (0x80CD0100#32, 0#4)].all fun x =>
      after (.qctlWrite 4 x.1) (started (queue4 { Queue.reset with wptr := 9#64, tlv := 5#64 } base)) fun t =>
        t.queue 4 == { Queue.reset with en := true, prio := 12#5, logsz := x.2, ctx := 1#8, tlv := 5#64, tlInit := 5#64, gen := 1 }) = true
    ∧ (!base.boot.ready && after (.qctlWrite 4 0x80CC0100#32) (queue4 { Queue.reset with wptr := 9#64 } base) fun t =>
      !(t.queue 4).en && (t.queue 4).wptr == 9#64) = true
    ∧ after (.qctlWrite 4 0x00CC0100#32) (queue4 { Queue.reset with en := true } base) (fun t => !(t.queue 4).en) = true
    ∧ after (.registerWrite 0x100108 8 0x7000#64) base (fun t => (t.queue 4).qbase == 0x7000#64) = true
    ∧ idles (.registerWrite 0x100108 8 0x7000#64) (queue4 { Queue.reset with en := true } base) = true
    ∧ ([(0#32, 4096#13), (1#32, 1#13), (4096#32, 4096#13), (4097#32, 4096#13)].all fun x =>
      after (.icwWrite 1 x.1) (ctx1 (fun y => { y with icw := 4096#32 }) base) fun t =>
        t.budgetOf 1 == 4096 && State.budgetOf { t with cycle := 256#64 } 1 == x.2.toNat
          && (t.context 1).any fun c => c.icw.extractLsb' 0 13 == x.2) = true := by
  decide +kernel

/-! ## Packets -/

/-- A packet of queue 4: its TYPE, its FLAGS, and zeros. -/
def packet1 (ty flags : Byte) : List Byte := ty :: flags :: List.replicate 62 0#8

/-- A packet in hand, and the state with it. -/
def item1 (bs : List Byte) (l : Option Launch) : FrontItem := ⟨4, 0, none, bs, 0#16, l⟩

/-- The started package with queue 4 of context 1, enabled, and a packet in hand. -/
def inHand1 (x : Option FrontItem) : State :=
  let s := queue4 { Queue.reset with en := true, ctx := 1#8, wptr := 1#64 } (resident1 paged)
  { ctx1 (fun y => { y with part := 1#64 }) s with boot := { s.boot with ready := true }, front := x }

/-- The packet completes at dispatch. -/
def completes (i : Instr) (bs : List Byte) : Bool :=
  after i (inHand1 (some (item1 bs none))) fun t =>
    t.front == none && (t.queue 4).rptr == 1#64 && (t.queue 4).tlv == 1#64 && (t.queue 4).inFlight.isEmpty

/-- A package that has not started; a NOP packet in the ring of queue 4 taken up; packets that complete, a launch with a
reserved bit and the first reserved type among them. -/
theorem witness_Packets :
    (let s := { inHand1 none with boot := { base.boot with ready := false } }
    !s.frontRuns && idles .packetDispatch s) = true
    ∧ (let s := inHand1 none
    s.frontRuns && s.nextQueue (s.enabledQueues.filter fun q => (s.readyItem q).2.isSome) == some 4
      && after .packetDispatch s fun t => t.front == (s.readyItem 4).2 && t.agenda.head? == some (.nopPacket 4)) = true
    ∧ (completes (.nopPacket 4) (packet1 0#8 0#8) && completes (.waitPacket 4) (packet1 4#8 0#8)
      && completes (.flushPacket 4) (packet1 5#8 1#8) && completes (.reservedPacket 4) (packet1 6#8 0#8)
      && [1#8, 2#8, 3#8].all (fun ty => packetReserved (packet1 ty 4#8))
      && completes (.launchPacket 4) (packet1 1#8 4#8) && completes (.graphPacket 4) (packet1 2#8 4#8)
      && completes (.scriptPacket 4) (packet1 3#8 4#8)) = true := by
  decide +kernel

/-- A checked launch of a type, of 8 teams. -/
def checked (ty : Nat) : Launch :=
  { launch1 with queue := 4, packet := { launch1.packet with type := ty, nteam := 8 } }

/-- The package with that launch in hand; its queue's phase. -/
def inHandLaunch (ty : Nat) (ph : BitVec 16) : State :=
  let s := inHand1 (some (item1 (packet1 (BitVec.ofNat 8 ty) 0#8) (some (checked ty))))
  s.setQueue 4 { s.queue 4 with ph := ph }

/-- The launch went out under the next number. -/
def launched (ty : Nat) (t : State) : Bool :=
  let s := inHandLaunch ty 0#16
  t.front == none && (t.queue 4).rptr == 1#64 && decide (s.nextId < t.nextId)
    && (t.launch? s.nextId).any fun l => l.packet == (checked ty).packet && l.startNs == s.ns

/-- Every place for a script taken. -/
def noPlace (s : State) : State :=
  { s with groups := s.groups ++ (List.range 16).map fun i => (scriptKey i, { Group.blank with engine := .circuit }) }

/-- A LAUNCH, a GRAPH, a SCRIPT with a place and without; a change of phase; a held script taken up. -/
theorem witness_LaunchPackets :
    (let s := inHandLaunch 1 0#16
    !s.phaseChange 4 (checked 1).packet && after (.launchPacket 4) s fun t => launched 1 t
      && t.ranges == distribute s.nextId 8 1#64) = true
    ∧ (let s := inHandLaunch 2 0#16
    s.seedCluster (s.partitionOf 1) == some 0
      && after (.graphPacket 4) s fun t => launched 2 t && t.ranges == [⟨s.nextId, 0, 0, 1⟩]) = true
    ∧ (let s := inHandLaunch 3 0#16
    s.freeScript == some 0 && after (.scriptPacket 4) s fun t => launched 3 t
      && (mapGet? t.groups (scriptKey 0)).any fun g => g.engine == .circuit && g.exited == 0xFFFFFFFE#32
        && g.table == [⟨entryPc 0#64 kernel1, 1#32, 0⟩] && g.ctx == 1) = true
    ∧ (let s := noPlace (inHandLaunch 3 0#16)
    s.freeScript == none && after (.scriptPacket 4) s fun t => t.scripts.length == 1 && t.front == none) = true
    ∧ (let s := inHandLaunch 1 9#16
    s.phaseChange 4 (checked 1).packet && after (.phaseCleaning 4) s fun t =>
      (t.queue 4).ph == 0#16 && t.agenda.head? == some (.launchPacket 4)) = true
    ∧ (let s := { inHand1 none with scripts := [item1 (packet1 3#8 0#8) (some (checked 3))] }
    s.frontRuns && s.freeScript != none && s.nextQueue (s.enabledQueues.filter fun q => s.scripts.any fun x => x.queue = q) == some 4
      && after .scriptHeldStart s fun t => t.front == s.scripts.head? && t.scripts.isEmpty
        && t.agenda.head? == some (.scriptPacket 4)) = true := by
  decide +kernel

/-- A SCRIPT of a kernel whose descriptor stands at address 0x600. -/
def scriptPacket : List Byte :=
  [3#8, 0#8, 0#8, 0#8, 0#8, 0#8, 0#8, 0#8] ++ leBytes 8 0x600 ++ leBytes 4 1 ++ List.replicate 44 0#8

/-- That packet in hand, its descriptor in memory: KIND 2, one group, a budget of one, no mirror. -/
def scriptInHand : State :=
  let s := inHand1 (some (item1 scriptPacket none))
  { s with mem := memSetAll s.mem 0x140600 (List.replicate 8 0#8 ++ [2#8, 1#8, 1#8, 0#8] ++ List.replicate 4 0#8
      ++ [0#8, 0#8, 1#8, 0#8] ++ List.replicate 4 0xFF#8 ++ List.replicate 40 0#8) }

/-- A new SCRIPT with others held already, and with no place free; a record whose page migrates. -/
theorem witness_HeldPackets :
    ([{ scriptInHand with scripts := [item1 scriptPacket (some (checked 3))] }, noPlace scriptInHand].all fun s =>
      let x := item1 scriptPacket none
      let u := (s.checkLaunchReads (s.baseLaunch x)).1
      !packetReserved scriptPacket && (packetOf scriptPacket).launchGood
        && (u.freeScript == none || !u.scripts.isEmpty)
        && match (s.checkLaunchReads (s.baseLaunch x)).2 with
        | .pass l => l.packet.type == 3 && after (.scriptPacket 4) s fun t =>
          t.scripts == u.scripts ++ [{ x with launch := some l }] && t.front == none
        | _ => false) = true
    ∧ (let s := { inHand1 (some (item1 (packet1 0#8 0#8) none)) with mem := (tables 0x1400BB).mem, tlb := [] }
    s.completionHeld ⟨4, 0, 0, 0#64, 0, 0#16, false, none, 0⟩ && after (.nopPacket 4) s fun t => t.front == none
      && (t.queue 4).rptr == 1#64 && (t.queue 4).tlv == 0#64 && (t.queue 4).inFlight == [0]
      && t.heldEnds.map (·.queue) == [4]) = true := by
  decide +kernel

/-- A FLUSH of the line at address 0x100 with FLAGS, a slice holding a byte of it that memory has not. -/
def flushing (flags : Byte) : State :=
  let s := inHand1 (some (item1 ([5#8, flags, 0#8, 0#8, 0#8, 0#8, 0#8, 0#8] ++ leBytes 8 0x100 ++ leBytes 8 0x80
    ++ List.replicate 40 0#8) none))
  { s with
    dirty := [(0x140100, 9#8)]
    slices := [⟨0, 1, 2#73, 0x2802, 0, ⟨true, true, false⟩, true⟩] }

/-- WB, INV and both: what memory and the slices then have. -/
theorem witness_FlushedLines :
    ([(3#8, 9#8, 9#8, false), (5#8, 1#8, 1#8, true), (7#8, 9#8, 9#8, true)].all fun x =>
      let s := flushing x.1
      !packetReserved ((s.front.map (·.bytes)).getD []) && s.keyed.isEmpty && s.log.isEmpty
        && (packetOf ((s.front.map (·.bytes)).getD [])).flushGood && s.rangeHas 1 0x100 0x80 0x2802
        && s.latestByte 0x140100 == 9#8 && after (.flushPacket 4) s fun t =>
          memGet t.mem 0x140100 == x.2.1 && t.latestByte 0x140100 == x.2.2.1
            && t.slices.all (fun l => !l.modified) && (x.2.2.2 → t.slices.isEmpty)) = true := by
  decide +kernel

/-- A command core that traps for the first time, again after 1 s, and 1 ns sooner. -/
theorem witness_CommandCoreTraps :
    let k := commandKey 0
    let core (last : List (Nat × Nat)) (ns : Nat) : State :=
      { at_ns ns (onEngine .command base) with
        groups := [(k, { fetchGroup .command with trap := { Group.blank.trap with vec := 0x40#64 } })]
        cmcTrapNs := last
        qlocks := [(3, k)] }
    let again (t : State) : Bool := (mapGet? t.groups k).any (fun g => g.table == [⟨0x40#64, 1#32, 0⟩] && !g.halted) && t.qlocks.isEmpty
    after (.cmcTrap 0) (core [] 5) again = true
    ∧ after (.cmcTrap 0) (core [(0, 5)] 1000000005) again = true
    ∧ after (.cmcTrap 0) (core [(0, 5)] 1000000004)
      (fun t => t.cmcOut == [0] && (mapGet? t.groups k).isNone && t.qlocks.isEmpty) = true := by
  decide +kernel

end Sys2Proof.Tests
end

