-- ==== Sys2Proof/Tests/Links.lean ====
section
/-! SUPPORT. Witnesses for the statements about the steps of the die-to-die links, the ports, their lanes and modules, the fabric
and the switch agents, and what each step then leaves. -/

set_option Elab.async false

namespace Sys2Proof.Tests

open Machine Stated

/-! ## Die-to-die links -/

/-- A flit of a replay buffer that was sent at time 0. -/
def sent0 (q : BitVec 16) : LinkFlit := ⟨q, [], some 0⟩

/-- Link 2 in a state and at a width, the replay buffer of the lower die's end, and the SEQ 5 expected of it. -/
def link2 (st lanes : Nat) (buffer : List LinkFlit) (s : State) : State :=
  s.setLink 2 { Link.reset with
    state := st
    lanes := lanes
    crc := 9
    up := { LinkDir.reset with nextSeq := 9#16, buffer := buffer, expect := 5#16 }
    down := { LinkDir.reset with buffer := [sent0 3#16, sent0 4#16, sent0 6#16], nextSeq := 7#16 } }

/-- A flit of a KIND with SEQ 4 at the start of its payload, whose CRC holds or does not. -/
def flit (kind : Byte) (q a : BitVec 16) (good : Bool) : Flit :=
  let f : Flit := ⟨q, a, kind, 0#24, 4#8 :: List.replicate 239 0#8, 0#64⟩
  { f with crc := (flitBytes f).foldl crcByte (if good then 0#64 else 1#64) }

/-- The published check value of CRC-64/ECMA-182 over the digits 1 to 9. -/
theorem test_crc_check : ((List.range 9).map fun i => BitVec.ofNat 8 (0x31 + i)).foldl crcByte 0#64 = 0x6C40DF5F0B497347#64 := by
  decide +kernel

/-- After an event, link 2 meets a test. -/
def linkIs (i : Instr) (s : State) (p : Link → Bool) : Bool := after i s fun t => p (t.link 2) && t.mem == s.mem

/-- The SEQs of a replay buffer. -/
def seqs (x : LinkDir) : List (BitVec 16) := x.buffer.map (·.seq)

/-- Flits in order, of the buffer and not, doubled and early, with the SEQ on either side of the one expected, a second
early one within 0.1 µs and a fourth failure; bad ones of each KIND; an idle flit; a link without traffic. -/
theorem witness_LinkFlits :
    (let early (n : Nat) (k : Option Nat) : State := (link2 1 64 [] (at_ns 99 base)).setLink 2
      { (link2 1 64 [] base).link 2 with up := { ((link2 1 64 [] base).link 2).up with failures := n, lastNak := k } }
    [(5#16, [sent0 5#16], 6#16), (5#16, [], 5#16), (4#16, [], 5#16), (6#16, [], 5#16)].all (fun x =>
      linkIs (.linkDataFlit 2 true (flit 1#8 x.1 4#16 true)) (link2 1 64 x.2.1 base) fun l =>
        l.up.expect == x.2.2 && seqs l.down == [6#16] && l.crc == 9 && (l.up.nak == (x.1 == 6#16)))
      && linkIs (.linkDataFlit 2 true (flit 1#8 6#16 4#16 true)) (early 1 (some 0)) (fun l => l.up.failures == 1 && !l.up.nak)
      && after (.linkDataFlit 2 true (flit 1#8 6#16 4#16 true)) (early 3 none) fun t => t.agenda == [.linkRetrain 2]) = true
    ∧ ([(Instr.linkDataFlit 2 true (flit 1#8 5#16 4#16 false)), .linkIdleFlit 2 true (flit 0#8 0#16 4#16 false),
      .linkNak 2 true (flit 2#8 0#16 3#16 false)].all fun i =>
      linkIs i (link2 1 64 [] base) fun l => l.crc == 10 && l.up.expect == 5#16 && l.up.nak) = true
    ∧ linkIs (.linkIdleFlit 2 true (flit 0#8 0#16 3#16 true)) (link2 1 64 [] base)
      (fun l => seqs l.down == [4#16, 6#16] && l.up.expect == 5#16) = true
    ∧ (idles (.linkNak 2 true (flit 2#8 0#16 3#16 true)) (link2 2 64 [] base)
      && idles (.linkDataFlit 2 true (flit 1#8 5#16 4#16 true)) (link2 2 64 [] base)
      && idles (.linkResendTimeout 2 true) (link2 2 64 [] base)) = true
    ∧ linkIs (.lkcrcRead 2) (link2 1 64 [] base) (fun l => l.crc == 0) = true := by
  decide +kernel

/-- A message of operation 7 that has reached its home's base die, and one its requester's. -/
theorem witness_LinkMessages :
    ([false, true].all fun back =>
      let m : LinkMsg := ⟨7, 0, if back then linkInto 2 true else 0, if back then 0 else linkInto 2 true, back, true, false⟩
      let r : Req := ⟨7, 0, m.src, m.dst, if back then .back else .out⟩
      let s := { link2 1 64 [⟨5#16, [m], some 0⟩] base with reqs := [r] }
      after (.linkDataFlit 2 true (flit 1#8 5#16 4#16 true)) s fun t =>
        t.reqs == if back then [] else [{ r with stage := .home }]) = true := by
  decide +kernel

/-- NAKs with every flit sent and with one not; a resend time-out at 2,000 ns and 1 ns sooner, and in a round; a full
buffer; a NAK that goes out first. -/
theorem witness_LinkRounds :
    linkIs (.linkNak 2 true (flit 2#8 0#16 3#16 true)) (at_ns 70 (link2 1 64 [] base))
      (fun l => l.down.again == [4#16, 6#16] && l.down.round == none && l.replays == 2) = true
    ∧ (let s := link2 1 64 [⟨8#16, [], none⟩] base
    linkIs (.linkNak 2 false (flit 2#8 0#16 7#16 true)) s fun l => l.up.round == some 8#16 && l.replays == 0) = true
    ∧ (let s := link2 1 64 [sent0 8#16] base
    let busy := s.setLink 2 { s.link 2 with up := { (s.link 2).up with again := [8#16] } }
    idles (.linkResendTimeout 2 true) (at_ns 1999 s) && idles (.linkResendTimeout 2 true) (at_ns 2000 busy)
      && linkIs (.linkResendTimeout 2 true) (at_ns 2000 s) fun l => l.up.again == [8#16] && l.replays == 1) = true
    ∧ (let m : LinkMsg := ⟨7, 0, 0, 1, false, true, false⟩
    let x := { LinkDir.reset with buffer := List.replicate 512 ⟨8#16, List.replicate 15 m, none⟩, queue := [m] }
    fillFlits 9 x == x && (fillFlits 9 { x with buffer := x.buffer.drop 1 }).buffer.length == 512) = true
    ∧ (let s := link2 1 64 [] base
    let s := s.setLink 2 { s.link 2 with up := { (s.link 2).up with nak := true } }
    decide (((s.link 2).dir false).nextNs ≤ s.ns) && ((s.link 2).dir false).round == none
      && ((s.sendLink 2 false).link 2).down.wire.map (fun w => (w.2.kind, w.2.ack)) == [(2#8, 4#16)]) = true := by
  decide +kernel

/-- Four failures, three, and eight resend rounds; lanes all good, half good, and neither half; a down link's state
flit. -/
theorem witness_LinkTraining :
    let fails (n : Nat) : State := base.setLink 2 { Link.reset with state := 1, lanes := 64, up := { LinkDir.reset with failures := n } }
    let rounds : State := base.setLink 2
      { Link.reset with state := 1, lanes := 64, down := { LinkDir.reset with rounds := List.replicate 8 0 } }
    let all := 0xFFFFFFFFFFFFFFFF#64
    let half := 0xFFFFFFFF7FFFFFFF#64
    let none_ := 0x7FFFFFFF7FFFFFFF#64
    (linkIs (.linkRetrain 2) (fails 4) (fun l => l.state == 2 && l.lanes == 64) && idles (.linkRetrain 2) (fails 3)
      && linkIs (.linkRetrain 2) (at_ns 99999 rounds) (fun l => l.state == 2)
      && idles (.linkRetrain 2) (at_ns 100000 rounds)) = true
    ∧ ([(64, all, 1, 64), (32, all, 1, 32), (64, half, 1, 32), (64, 0x7FFFFFFFFFFFFFFF#64, 1, 32), (64, none_, 3, 64)].all fun x =>
      linkIs (.linkRetrainEnd 2 x.2.1) (link2 2 x.1 [sent0 8#16] (at_ns 5000 base)) fun l =>
        l.state == x.2.2.1 && l.lanes == x.2.2.2 && l.step == 5#32
          && (if l.state = 1 then l.up.again == [8#16] && l.down.again == [3#16, 4#16, 6#16] && l.replays == 4 else l.replays == 0)) = true
    ∧ (linkIs (.linkDownRetest 2 half) (link2 3 64 [] base) (fun l => l.state == 1 && l.lanes == 32)
      && idles (.linkDownRetest 2 none_) (link2 3 64 [] base)
      && after (.linkDownRetest 2 all) (link2 3 64 [] base) fun t => t.outbox == [.management 1 [2#8]]) = true
    ∧ (linkIs (.linkStateFlit 2 true (flit 3#8 0#16 0#16 true)) (link2 3 64 [] base)
      (fun l => l.down.buffer.isEmpty && l.down.expect == 7#16 && l.down.told && l.replays == 0)
      && after (.linkStateFlit 2 true (flit 3#8 0#16 0#16 false)) (link2 3 64 [] base) (fun t =>
        (t.link 3).crc == 1 && (t.link 2).up.stateAt.isSome && (t.link 2).down.buffer == ((link2 3 64 [] base).link 2).down.buffer)
      && idles (.linkStateFlit 2 true (flit 3#8 0#16 0#16 true)) (link2 1 64 [] base)) = true := by
  decide +kernel

/-! ## Ports -/

/-- Port 5 with ticket 3 in its slot. -/
def port5 (p : Port) (s : State) : State :=
  (s.setPort 5 { p with ticket := some 3 }).setTicket 3 { Ticket.free with state := 3, seq := 8#24, port := 5, peerPkg := 1 }

/-- After an event, port 5 is dark with a cause, and its ticket is in a state. -/
def dark (i : Instr) (s : State) (cause : BitVec 8) (st : Nat) : Bool :=
  after i s fun t => (t.port 5).state == 0 && (t.port 5).cause == cause && !(t.port 5).lights
    && (t.ticket 3).state == st && (t.ticket 3).cause == cause

/-- After an event, port 5 meets a test. -/
def portIs (i : Instr) (s : State) (p : Port → Bool) : Bool := after i s fun t => p (t.port 5)

/-- A lane at a rate. -/
def laneAt (r : Nat) : OptLane := { OptLane.reset with rate := r, temp := 3500#16, sampled := true }

/-- A port in a state, with four lanes at full rate. -/
def portAt (st : Nat) : Port := { Port.reset with state := st, lights := true, lanes := Vector.replicate 4 (laneAt 4), peerPkg := 1#6 }

/-- A pod roster that holds one key. -/
def podOf (s : State) : State := { s with ident := { s.ident with podSet := true, podRoster := [List.replicate 57 2#8] } }

/-- A key agreement's message, of that peer or another. -/
def share (x : Byte) : List Byte := List.replicate 56 1#8 ++ List.replicate 57 x ++ List.replicate 114 3#8

/-- A port on its way up, at each step's end. -/
theorem witness_PortsUp :
    portIs (.portSettled 5) (port5 { portAt 0 with sinceNs := 7 } base) (fun p => p.state == 1) = true
    ∧ idles (.portSettled 5) (port5 (portAt 1) base) = true
    ∧ (portIs (.portTrained 5 ⟨7#4, 3#4⟩) (port5 (portAt 1) base) (fun p => p.state == 2 && p.keys.agree.isSome)
      && after (.portTrained 5 ⟨7#4, 3#4⟩) (port5 (portAt 1) base) (fun t => t.outbox.length == base.outbox.length + 1)
      && portIs (.portTrained 5 ⟨15#4, 1#4⟩) (port5 (portAt 1) base) (fun p => p.state == 1 && (p.lane 0).usable
        && !(p.lane 1).usable && (p.lane 1).locked)
      && idles (.portTrained 5 ⟨3#4, 3#4⟩) (port5 (portAt 2) base)) = true
    ∧ (let s := port5 (portAt 1) base
    idles (.portLockTimeout 5 1#4) (at_ns 1999999 s)
      && dark (.portLockTimeout 5 1#4)
        (at_ns 2000000 (port5 { portAt 1 with lanes := (portAt 1).lanes.setIfInBounds 0 { laneAt 4 with temp := 9000#16 } } base))
        0x03#8 6
      && dark (.portLockTimeout 5 1#4) (at_ns 2000000 s) 0x02#8 6
      && dark (.portLockTimeout 5 0#4) (at_ns 2000000 s) 0x03#8 6) = true
    ∧ (let s := port5 (portAt 2) (podOf base)
    (share 2#8).length == 227
      && after (.keyAgreementComplete ⟨.port 5, share 2#8, true⟩) s (fun t =>
        (t.port 5).state == 3 && (t.port 5).keyGen == 1 && (t.port 5).keys.agree.isNone && (t.ticket 3).state == 4)
      && portIs (.keyAgreementComplete ⟨.port 5, share 2#8, true⟩) { s with drained := 0x20#16 } (fun p => p.state == 4)
      && dark (.keyAgreementComplete ⟨.port 5, share 3#8, true⟩) s 0x06#8 6
      && dark (.keyAgreementComplete ⟨.port 5, (share 2#8).drop 1, true⟩) s 0x06#8 6
      && dark (.keyAgreementComplete ⟨.port 5, share 2#8, false⟩) s 0x06#8 6
      && dark (.keyAgreementTimeout (.port 5)) s 0x06#8 6) = true := by
  decide +kernel

/-- Sessions, renewed keys, and a live port that goes dark. -/
theorem witness_PortsDown :
    (let s := (podOf base).setSession 6 { Session.closed with state := 1 }
    after (.keyAgreementComplete ⟨.session 6, share 2#8, true⟩) s (fun t =>
        (t.session 6).state == 2 && (t.session 6).keyGen == 1)
      && after (.keyAgreementComplete ⟨.session 6, share 2#8, false⟩) s (fun t => (t.session 6).state == 0)
      && after (.keyAgreementTimeout (.session 6)) s fun t => (t.session 6).state == 0) = true
    ∧ (let p := { portAt 3 with frames := 4294967295 }
    idles (.rekey (.port 5)) (at_ns 3599999999999 (port5 p base))
      && portIs (.rekey (.port 5)) (at_ns 3600000000000 (port5 p base)) (fun q => q.state == 3 && q.keys.agree.isSome)
      && portIs (.rekey (.port 5)) (port5 { p with frames := 4294967296 } base) (fun q => q.keys.agree.isSome)
      && portIs (.rekey (.port 5)) (port5 { p with sent := 4294967296 } base) (fun q => q.keys.agree.isSome)
      && portIs (.keyAgreementComplete ⟨.port 5, share 2#8, true⟩) (port5 p (podOf base)) (fun q => q.state == 3
        && q.keyGen == 1 && q.frames == 0 && q.keys.mark && q.keys.next.isSome)
      && dark (.keyAgreementComplete ⟨.port 5, share 2#8, false⟩) (port5 p (podOf base)) 0x06#8 7) = true
    ∧ (dark (.peerLost 5) (at_ns 100000 (port5 (portAt 3) base)) 0x08#8 7
      && idles (.peerLost 5) (at_ns 99999 (port5 (portAt 3) base))
      && dark (.authFailureDark 5) (port5 { portAt 3 with badAuth := 16 } base) 0x07#8 7
      && dark (.laserChannelFailure 5 3) (port5 (portAt 3) base) 0x04#8 7) = true := by
  decide +kernel

/-! ## Lanes and modules -/

/-- After an event, lane 3 of port 5 meets a test. -/
def laneIs (i : Instr) (l : OptLane) (ns : Nat) (p : OptLane → Bool) : Bool :=
  after i (at_ns ns (port5 { portAt 3 with lanes := (portAt 3).lanes.setIfInBounds 3 l } base)) fun t => p ((t.port 5).lane 3)

/-- Lanes at the edges of their bands, worn lanes, and what software writes. -/
theorem witness_Lanes :
    ([(7000#16, 4), (7001#16, 3), (7200#16, 3), (7201#16, 2), (7601#16, 0)].all fun x =>
      laneIs (.laneRateStepDown 5 3 x.1) (laneAt 4) 0 fun l => l.rate == x.2 && l.temp == x.1) = true
    ∧ (let high (n : Nat) : OptLane := { laneAt 3 with highSince := some n }
    laneIs (.laneRateStepUp 5 3 6951#16) (high 0) 10000000 (fun l => l.rate == 3 && l.highSince == none)
      && laneIs (.laneRateStepUp 5 3 6950#16) (laneAt 3) 10000000 (fun l => l.rate == 3 && l.highSince == some 10000000)
      && laneIs (.laneRateStepUp 5 3 6950#16) (high 1) 10000000 (fun l => l.rate == 3 && l.highSince == some 1)
      && laneIs (.laneRateStepUp 5 3 6950#16) (high 0) 10000000 fun l => l.rate == 4 && l.retraining && l.highSince == none) = true
    ∧ ([(149#16, false), (150#16, true)].all fun x =>
      laneIs (.laneRetire 5 3) { laneAt 4 with bias0 := 100#16, noted := true, bias := x.1 } 0 fun l => l.retire == x.2) = true
    ∧ laneIs (.lstatRetireWrite 5 3 0x80000000#32) (laneAt 4) 0 (fun l => l.retire) = true
    ∧ idles (.lstatRetireWrite 5 3 0x7FFFFFFF#32) base = true
    ∧ laneIs (.pcapWrite 5 1#32) { laneAt 4 with cpl := 0x000300020001#48 } 0 (fun l => l.cpl == 0x000100010001#48) = true
    ∧ idles (.pcapWrite 5 0xFFFFFFFE#32) base = true
    ∧ laneIs (.tapSample 5 3 4#16 0xFFFE#16 2#16)
      { laneAt 4 with cpl := 0x000300020001#48, spl := 0x000300020001#48, modTap := 0x000300020001#48 } 0
      (fun l => l.cpl == 0x000400020004#48 && l.spl == 0x0003FFFEFFFE#48 && l.modTap == 0x000300020002#48) = true
    ∧ laneIs (.laneRetrainEnd 5 3) { laneAt 4 with retraining := true } 0 (fun l => l == laneAt 4) = true := by
  decide +kernel

/-- Monitors of a module at the edge of wear, a module removed, one of 64 channels inserted and one of 32. -/
theorem witness_Modules :
    let worn : OptLane := { laneAt 4 with bias0 := 100#16, noted := true, retire := true, age := 8#32 }
    let s := { port5 { portAt 3 with lanes := (portAt 3).lanes.setIfInBounds 3 worn } base with
      modules := base.modules.setIfInBounds 0 64 }
    ([(129, false), (130, true)].all fun x =>
      after (.moduleMonitorPoll 0 (List.replicate 64 (BitVec.ofNat 16 x.1)) 50) s fun t =>
        ((t.port 5).lane 3).bias == BitVec.ofNat 16 x.1 && ((t.port 5).lane 3).wear == x.2) = true
    ∧ (dark (.laserModuleRemove 0) s 0x04#8 7 && after (.laserModuleRemove 0) s fun t =>
      vget t.modules 0 9 == 0 && !((t.port 5).lane 3).retire && ((t.port 5).lane 3).age == 0#32) = true
    ∧ after (.laserModuleInsert 0 64) { s with modules := s.modules.setIfInBounds 0 0 } (fun t =>
      vget t.modules 0 0 == 64 && t.ports == s.ports) = true
    ∧ portIs (.laserModuleInsert 0 32) base (fun p => p.cause == 0x04#8) = true := by
  decide +kernel

/-! ## The fabric -/

/-- Port 5 live towards peer 1, which is known as given. -/
def towards (l : PeerLink) (s : State) : State := { port5 (portAt 3) s with peerLinks := [(1, l)] }

/-- A load of four bytes that peer 1 asks for in a context. -/
def load4 (ctx : Nat) : PeerReq := ⟨7, ctx, 0x100#80, .load 4⟩

/-- A flit with a load in a context that is bound, which is answered, and in one that is not, which is refused. -/
theorem witness_PeerLoads :
    (let s := towards { PeerLink.idle with nextRecv := 9#32 } (ctx1 (fun x => { x with binds := [(1, 1)] }) paged)
    s.peerAsks.isEmpty && s.reds.isEmpty && ((s.askPlace 1 (load4 1)).bind id).map (·.1) == some 0x140100
      && after (.fabricFlitReceive 5 9#32 .good [load4 1]) s (fun t =>
        t.outbox == [.peerAnswer 1 7 true false [1#8, 2#8, 3#8, 4#8], .fabricAck 1 9#32])
      && s.askPlace 1 (load4 2) == none
      && after (.fabricFlitReceive 5 9#32 .good [load4 2]) s fun t =>
        t.outbox == [.peerAnswer 1 7 false false [], .fabricAck 1 9#32]) = true := by
  decide +kernel

/-- The next flit of a peer, an early one, one already seen, and one not authentic, the fifteenth and the sixteenth in
a row. -/
theorem witness_FabricFlits :
    (let s := towards { PeerLink.idle with nextRecv := 9#32 } base
    after (.fabricFlitReceive 5 9#32 .good []) s (fun t => (t.peerLink 1).nextRecv == 10#32 && (t.port 5).frames == 1 && t.outbox == [.fabricAck 1 9#32])
      && (let r : KeyHalf := ⟨[1#8], 2#96⟩
        let s := s.setPort 5 { s.port 5 with keys := { Keys.off with next := some r } }
        after (.fabricFlitReceive 5 9#32 .marked []) s fun t => (t.port 5).keys == { Keys.off with recv := r })
      && after (.fabricFlitReceive 5 10#32 .good [load4 0]) s (fun t => (t.peerLink 1).nextRecv == 9#32
        && (t.peerLink 1).early == [(10#32, [load4 0])])
      && after (.fabricFlitReceive 5 8#32 .good []) s fun t => t.peerLink 1 == s.peerLink 1) = true
    ∧ ([(14, false), (15, true)].all fun x =>
      after (.fabricFlitReceive 5 9#32 .bad []) (port5 { portAt 3 with badAuth := x.1 } base) fun t =>
        (t.port 5).badAuth == x.1 + 1 && (t.agenda == [.authFailureDark 5]) == x.2) = true
    ∧ idles (.fabricFlitReceive 5 9#32 .good []) (port5 (portAt 2) base) = true
    ∧ after (.fabricFlitReceive 5 9#32 .good [load4 1]) (port5 { portAt 4 with badAuth := 3 } (at_ns 9 base)) (fun t =>
      (t.port 5).badAuth == 0 && (t.port 5).lastNs == 9 && t.outbox == base.outbox) = true
    ∧ after (.fabricFlitAck 1 5#32)
      (towards { PeerLink.idle with
        stripe := [5], unacked := [⟨4#32, 5, 0, false⟩, ⟨5#32, 5, 0, false⟩, ⟨6#32, 5, 0, false⟩] } base)
      (fun t => (t.peerLink 1).unacked == [⟨6#32, 5, 0, false⟩] && (t.port 5).frames == 1) = true
    ∧ (let s := (towards { PeerLink.idle with stripe := [5, 6], unacked := [⟨4#32, 5, 0, false⟩] } base).setPort 6 (portAt 3)
    decide (0 < (s.port 6).rate) && idles (.fabricResendTimeout 1 4#32) (at_ns 19999 s)
      && after (.fabricResendTimeout 1 4#32) (at_ns 20000 s) fun t => (t.peerLink 1).unacked.map (fun u => (u.port, u.ns)) == [(6, 20000)]) = true
    ∧ (let s := (towards PeerLink.idle base).setPort 6 (portAt 3)
    after (.stripeRecompute 1) { s with drained := 0x40#16 } fun t => (t.peerLink 1).stripe == [5]) = true := by
  decide +kernel

/-- The last piece of a copy acknowledged: it stands in its peer's memory, and the copy ends. -/
theorem witness_CopyAcknowledged :
    (let c := { copy1 32 with
      next := 128, shape := { shape1 32 with remote := true, peer := 1 }, out := [⟨1, 1, 5#32, 0, 1, [(0x800#80, [7#8])], [], [], []⟩] }
    let s := copying c (towards { PeerLink.idle with unacked := [⟨5#32, 5, 0, false⟩] } base)
    decide (c.total ≤ c.next) && after (.fabricFlitAck 1 5#32) s fun t =>
      t.copies.isEmpty && t.peerBytes 1 1 0x800#80 1 == [7#8]) = true := by
  decide +kernel

/-! ## Switch agents -/

/-- Slot 3's ticket in a state, its port on module 0, which is present or not. -/
def ticket3 (x : Ticket) (channels : Nat) (s : State) : State :=
  { (port5 { portAt 0 with lights := true } s).setTicket 3 x with modules := s.modules.setIfInBounds 0 channels }

/-- Ticket 8 of slot 3. -/
def tick (st firstRel : Nat) : Ticket := { Ticket.free with state := st, seq := 8#24, port := 5, peerPkg := 1, firstRel := firstRel }

/-- A message of a TYPE about it. -/
def msg3 (kind : Byte) (q : BitVec 24) (v : Word) : SwitchMsg := ⟨1#8, kind, 32#16, 3#8, q, 5#8, 0#56, 0#8, 0#8, 0#8, 0#8, v, 0#64⟩

/-- Session 0 has brought a message. -/
def heard (m : SwitchMsg) (s : State) : State := s.setSession 0 { s.session 0 with inbox := [switchBytes m] }

/-- A CONNECTED with and without light, a REFUSED, a message of another ticket, one that session 0 has not brought, a
RELEASED and a BROKEN. -/
theorem witness_SwitchAnswers :
    (base.names (msg3 2#8 8#24 0#32) 2 == false && (ticket3 (tick 2 0) 64 base).names (msg3 2#8 8#24 0#32) 2
      && after (.connected (msg3 2#8 8#24 0x20000#32)) (heard (msg3 2#8 8#24 0x20000#32) (ticket3 (tick 2 0) 64 base)) (fun t => (t.ticket 3).swus == 0xFFFF#16
        && (t.ticket 3).state == 3 && (t.port 5).lights && (t.port 5).peerPkg == 1#6)
      && portIs (.connected (msg3 2#8 8#24 0#32)) (heard (msg3 2#8 8#24 0#32) (ticket3 (tick 2 0) 0 base)) (fun p => p.state == 0 && p.cause == 0x04#8)
      && after (.refused (msg3 3#8 8#24 0x102#32)) (heard (msg3 3#8 8#24 0x102#32) (ticket3 (tick 2 0) 64 base)) (fun t =>
        (t.ticket 3).state == 5 && (t.ticket 3).cause == 2#8)
      && idles (.connected (msg3 2#8 8#24 0#32)) (ticket3 (tick 2 0) 64 base)
      && ([msg3 2#8 7#24 0#32, { msg3 2#8 8#24 0#32 with rsv := 1#56 }].all fun m =>
        after (.connected m) (heard m (ticket3 (tick 2 0) 64 base)) fun t => t.tickets == (ticket3 (tick 2 0) 64 base).tickets)
      && after (.released (msg3 5#8 8#24 0#32)) (heard (msg3 5#8 8#24 0#32) (ticket3 (tick 4 1) 64 base)) (fun t =>
        (t.ticket 3).state == 0 && (t.ticket 3).seq == 9#24 && (t.port 5).ticket == none)
      && dark (.broken (msg3 6#8 8#24 0#32)) (heard (msg3 6#8 8#24 0#32) (port5 (portAt 3) base)) 0x09#8 7) = true := by
  decide +kernel

/-- HELLOs, and time-outs at their time and 1 ns before it. -/
theorem witness_SwitchTimeOuts :
    after (.hello { msg3 7#8 0#24 0#32 with plane := 15#8 })
      (heard { msg3 7#8 0#24 0#32 with plane := 15#8 } (at_ns 77 { base with silent := 0xFFFF#16 }))
      (fun t => vget t.hellos 15 0 == 77 && t.silent == 0x7FFF#16) = true
    ∧ base.wheyVia 0 = some 0
    ∧ after .helloSend base (fun t => t.outbox.length == 16) = true
    ∧ (idles (.switchSilent 15) (at_ns 299999999 base)
      && after (.switchSilent 15) (at_ns 300000000 base) fun t => t.silent == 0x8000#16) = true
    ∧ ([tick 2 0, tick 4 1].all fun x =>
      idles (.connectRetry 3) (at_ns 9999999 (ticket3 x 64 base))
        && after (.connectRetry 3) (at_ns 10000000 (ticket3 x 64 base)) fun t =>
          t.outbox.length == 1 && (t.ticket 3).sentNs == 10000000) = true
    ∧ (idles (.releaseTimeout 3) (at_ns 10000001 (ticket3 (tick 4 0) 64 base))
      && after (.releaseTimeout 3) (at_ns 10000001 (ticket3 (tick 4 1) 64 base)) fun t => t.agenda.length == 1
        && (t.session 0).inbox.length == 1 && (t.ticket 3).state == 4) = true := by
  decide +kernel

end Sys2Proof.Tests
end

