-- ==== Sys2Proof/Tests/Package.lean ====
section
/-! SUPPORT. Witnesses for the statements about the steps of the Whey plane, of soft errors, power, firmware, management, the
debugger and the responder, and what each step then leaves. -/

set_option Elab.async false

namespace Sys2Proof.Tests

open Machine Stated

/-! ## The Whey plane -/

/-- Session 6 in a state, on port 2, with messages unacknowledged. -/
def session6 (st : Nat) (un : List (Word × List Byte × Nat × Nat)) : State :=
  base.setSession 6 { Session.closed with state := st, ports := 4#8, unacked := un, nextRecv := 9#32, tmoMs := 5, kind := 1 }

/-- A frame of session 6 on port 2. -/
def frame (kind : Byte) (q a : Word) (auth : Bool) : WheyFrame := ⟨2, .ether 0x88B5#16, 1#8, kind, 6#16, q, a, 1#16, 0#144, [7#8], auth, false⟩

/-- A frame of a key agreement of session 6, of the peer of the pod roster or another. -/
def shareFrame (x : Byte) : WheyFrame := { frame 3#8 0#32 8#32 true with len := 227#16, message := share x }

/-- A session's record: its KIND, context 1, port 2, a time of 5 ms. -/
def session1 (kind : Nat) : List Byte :=
  leBytes 1 kind ++ [1#8, 4#8, 0#8] ++ leBytes 4 5 ++ List.replicate 40 0#8

/-- Frames that break framing, one without authentication, messages in order and ahead, an acknowledgement. -/
theorem witness_WheyFrames :
    ([{ frame 1#8 9#32 0#32 true with ver := 2#8 }, { frame 4#8 9#32 0#32 true with auth := true },
      { frame 1#8 9#32 0#32 true with len := 2#16 }, { frame 1#8 9#32 0#32 true with rsv := 1#144 },
      { frame 1#8 9#32 0#32 true with outer := .ether 0x88B6#16 },
      { frame 1#8 9#32 0#32 true with outer := .udp 17#8 64#8 0#16 0#16 true }].all fun f =>
      after (.wheyFrameReceive f) (session6 2 []) fun t => t.wheyDrops == 1 && t.sessions == (session6 2 []).sessions) = true
    ∧ (let s := base.setSession 6 { (session6 2 []).session 6 with kind := 2, rport := 5#16, lport := 7#16 }
    let f := { frame 1#8 9#32 0#32 true with outer := .udp 17#8 64#8 5#16 7#16 true }
    after (.wheyFrameReceive f) s (fun t => (t.session 6).inbox == [[7#8]])
      && after (.wheyFrameReceive { f with outer := .udp 17#8 63#8 5#16 7#16 true }) s fun t => t.wheyDrops == 1) = true
    ∧ (base.wheyPort 2 = true ∧ (session6 2 []).wheyVia 6 = some 2)
    ∧ idles (.wheyFrameReceive (frame 1#8 9#32 0#32 false)) (session6 2 []) = true
    ∧ idles (.wheyFrameReceive (frame 1#8 9#32 0#32 true)) (session6 1 []) = true
    ∧ after (.wheyFrameReceive (frame 1#8 9#32 3#32 true)) (session6 2 [(3#32, [], 0, 1), (4#32, [], 0, 1)]) (fun t =>
      (t.session 6).inbox == [[7#8]] && (t.session 6).nextRecv == 10#32 && t.outbox.length == 1 && (t.session 6).frames == 1
        && (t.session 6).unacked == [(4#32, [], 0, 1)]) = true
    ∧ after (.wheyFrameReceive (frame 1#8 10#32 3#32 true)) (session6 2 []) (fun t =>
      (t.session 6).inbox.isEmpty && t.outbox.length == 1) = true
    ∧ after (.wheyFrameReceive (frame 2#8 0#32 3#32 true)) (session6 2 [(3#32, [], 0, 1)]) (fun t =>
      (t.session 6).unacked.isEmpty && t.outbox.isEmpty) = true := by
  decide +kernel

/-- A peer's part of a key agreement, before the session is open and after; the marked frame of new keys; a switch's
message on session 0. -/
theorem witness_WheyKeys :
    (let s (st : Nat) := podOf (session6 st [])
    after (.wheyFrameReceive (shareFrame 2#8)) (s 1) (fun t => (t.session 6).state == 2 && (t.session 6).keyGen == 1)
      && after (.wheyFrameReceive (shareFrame 3#8)) (s 1) (fun t => (t.session 6).state == 0)
      && after (.wheyFrameReceive (shareFrame 2#8)) (s 2) (fun t => (t.session 6).keyGen == 1 && (t.session 6).keys.next.isSome)
      && after (.wheyFrameReceive (shareFrame 3#8)) (s 2) fun t => (t.session 6).state == 0) = true
    ∧ (let r : KeyHalf := ⟨[1#8], 2#96⟩
    let s := session6 2 []
    let s := s.setSession 6 { s.session 6 with keys := { Keys.off with next := some r } }
    after (.wheyFrameReceive { frame 2#8 0#32 3#32 true with mark := true }) s fun t =>
      (t.session 6).keys == { Keys.off with recv := r }) = true
    ∧ (let m := msg3 2#8 8#24 0#32
    let f := { frame 1#8 0#32 0#32 true with session := 0#16, len := 32#16, message := switchBytes m }
    (base.session 0).nextRecv == 0#32 && after (.wheyFrameReceive f) base fun t =>
      (t.session 0).inbox == [switchBytes m] && t.agenda == [.connected m]) = true := by
  decide +kernel

/-- A message's third interval and 1 ns before it, a session's time and 1 ns before it, and records that open, close,
and are bad. -/
theorem witness_WheySessions :
    (let s := session6 2 [(3#32, [7#8], 0, 2)]
    idles (.wheyRetransmitTimeout 6 3#32) (at_ns 3999999 s) && after (.wheyRetransmitTimeout 6 3#32) (at_ns 4000000 s) fun t =>
      t.outbox.length == 1 && (t.session 6).unacked == [(3#32, [7#8], 4000000, 3)]) = true
    ∧ (let s := session6 2 [(3#32, [7#8], 0, 2)]
    idles (.wheySessionTimeout 6) (at_ns 4999999 s)
      && after (.wheySessionTimeout 6) (at_ns 5000000 s) fun t => (t.session 6).state == 0) = true
    ∧ (sessionGood (session1 0) && sessionGood (session1 1) && !sessionGood (session1 3)
      && after (.wheySessionOpen 6 (session1 0)) (session6 2 []) (fun t => (t.session 6).state == 0)
      && after (.wheySessionOpen 6 (session1 1)) (session6 0 []) (fun t => (t.session 6).state == 1
        && (t.session 6).kind == 1 && (t.session 6).ctx == 1 && (t.session 6).tmoMs == 5 && t.outbox.length == 1)
      && idles (.wheySessionOpen 6 (session1 3)) (session6 0 [])) = true := by
  decide +kernel

/-! ## Soft errors -/

/-- Lines that scrub finds; errors in a core's storage. -/
theorem witness_SoftErrors :
    (placeOf base 0x2000 == .near && idles (.patrolScrub 0x2000#52 .clean) base
      && after (.patrolScrub 0x2000#52 .corrected) base (fun t => (t.rasOf 0).ce == 1#32 && t.poisoned.isEmpty)
      && after (.patrolScrub 0x2001#52 .uncorrectable) base fun t => t.poisonAt 0x2000 && (t.rasOf 0).ue == 1#32
        && (t.rasOf 0).addr == 0x70000000002000#64) = true
    ∧ (let s := grp (fun g => { g with x := mapSet g.x 9 ⟨[4], Vector.replicate 32 0#32, false, 0⟩ }) base
    after (.uncorrectableError (.mainReg 0 9)) s fun t => (t.rasOf 0).ue == 1#32
      && (mapGet? (t.group 0).x 9).any fun e => e.poison) = true
    ∧ after (.uncorrectableError (.operReg 0 3)) base (fun t => (t.group 0).poison == [.oper 3]) = true
    ∧ after (.uncorrectableError (.laneLatch 0)) base (fun t => (List.range 32).all fun l => (laneOf (t.group 0).lat l).poison) = true
    ∧ after (.uncorrectableError (.uniLatch 0)) base (fun t => (t.group 0).ulat.poison) = true
    ∧ after (.uncorrectableError (.deepEntry 0 2)) base
      (fun t => (List.range 32).all fun l => (t.group 0).poison.contains (.deep 2 l)) = true := by
  decide +kernel

/-- Errors in caches, translations, memory, an image, and a Churn at work. -/
theorem witness_LineErrors :
    (let l : SliceLine := ⟨0, 1, 0x40#73, lineOf 0x2000, 0, ⟨true, true, true⟩, true⟩
    after (.uncorrectableError (.slice 0 0x2000#52)) { base with slices := [l] } (fun t => t.poisonAt 0x2000)
      && after (.uncorrectableError (.slice 0 0x2000#52)) { base with slices := [{ l with modified := false }] } fun t =>
        t.slices.isEmpty && !t.poisonAt 0x2000) = true
    ∧ after (.uncorrectableError (.victim 0 1)) { base with victims := [(0, [⟨1, 2#73, (0, 0)⟩, ⟨1, 3#73, (0, 0)⟩])] }
      (fun t => t.victims == [(0, [⟨1, 2#73, (0, 0)⟩])]) = true
    ∧ ((paged.tlb.take 1).map (·.tlu) == [0] && after (.uncorrectableError (.tlu 0 0)) { paged with tlb := paged.tlb.take 1 }
      (fun t => t.tlb.isEmpty)) = true
    ∧ after (.uncorrectableError (.stackedDram 0x2000#52)) base (fun t => t.poisonAt 0x2000
      && (t.rasOf 0).addr == 0x70000000002000#64) = true
    ∧ after (.uncorrectableError (.crock 1)) (owns 1#8 5#5 base) (fun t => !(t.queue 1).en) = true
    ∧ (let s := scaled (churning (macro1 .mma true) [] base)
    (s.group (churnKey 0)).engine == .partition
      && after (.uncorrectableError (.churn 0)) (s.setGroup (churnKey 0) { s.group (churnKey 0) with engine := .churn }) fun t =>
        (t.churn 0).macros.isEmpty && (t.group (churnKey 0)).exited == 0xFFFFFFFF#32) = true
    ∧ after (.rasceRead 0) (base.countCE 0) (fun t => (t.rasOf 0).ce == 0#32) = true
    ∧ after (.rasueRead 3) (base.countUE 3) (fun t => (t.rasOf 3).ue == 0#32) = true := by
  decide +kernel

/-! ## Power -/

/-- Limits of 2,000 W and 40 °C at a clock. -/
def powered (clk : BitVec 8) (f : Power → Power) : State :=
  { base with power := f { base.power with plimit := 2000#16, tlimit := 40#8, clk := clk } }

/-- Samples at and above the limits at the bounds of the clock; the halt at 100 ms, its end at 1 s; limits at the
bounds of their ranges. -/
theorem witness_Power :
    ([(50#8, 2001#16, 40#8, 49#8), (48#8, 2001#16, 40#8, 48#8), (49#8, 2000#16, 41#8, 48#8), (50#8, 2000#16, 40#8, 51#8),
      (96#8, 2000#16, 40#8, 96#8)].all fun x =>
      after (.powerSample x.2.1 x.2.2.1) (at_ns 10000000 (powered x.1 fun p => { p with underNs := some 0 })) fun t =>
        t.power.clk == x.2.2.2) = true
    ∧ after (.powerSample 2000#16 40#8) (at_ns 9999999 (powered 50#8 fun p => { p with underNs := some 0 }))
      (fun t => t.power.clk == 50#8) = true
    ∧ (let s := powered 50#8 fun p => { p with hotNs := some 0 }
    idles .thermalHalt (at_ns 99999999 s) && after .thermalHalt (at_ns 100000000 s) fun t =>
      (List.range 8).all (fun d => (t.die d).thermHalt) && t.power.halted == some 100000000) = true
    ∧ (let s := powered 50#8 fun p => { p with halted := some 0, coolNs := some 0 }
    idles .thermalHaltEnd (at_ns 999999999 s) && after .thermalHaltEnd (at_ns 1000000000 s) fun t =>
      (List.range 8).all (fun d => !(t.die d).thermHalt) && t.power.halted == none && t.power.clk == 48#8) = true
    ∧ ([(0x04B01400#32, 1200#16, 20#8), (0x04AF1300#32, 2000#16, 40#8), (0x09603C00#32, 2400#16, 60#8),
      (0x09613D00#32, 2000#16, 40#8)].all fun x => after (.pwrctlWrite x.1) (powered 50#8 id) fun t =>
        t.power.plimit == x.2.1 && t.power.tlimit == x.2.2) = true := by
  decide +kernel

/-! ## Start and firmware -/

/-- A boot-step record with a good signature. -/
def recorded (b : Boot) : State := { base with boot := { b with signed := b.head, spare := List.replicate 62 0#8 } }

/-- A start whose steps all pass, with no record and with one, one after two failed ones, one whose ALT bit did not help,
and a step that times out. -/
theorem witness_Starts :
    after (.packageStart 0xFFFF#16 []) base (fun t => t.boot.ready && !t.boot.recovery && t.boot.fails == 0#32
      && t.groups.isEmpty && t.contexts.isEmpty) = true
    ∧ (let s := recorded { base.boot with state := 1, step := 5, fails := 2#32 }
    after (.packageStart 0xFFFF#16 []) (recorded base.boot) (fun t => t.boot.ready && t.boot.starts == base.boot.starts + 1#16)
      && after (.packageStart 0xFFFF#16 []) (recorded { base.boot with state := 2, step := 5, alt := 0x20#32 }) (fun t =>
        t.boot.recovery && t.boot.fails == 1#32)
      && after (.packageStart 0xFFFF#16 []) s fun t => t.boot.recovery && !t.boot.ready && t.boot.fails == 3#32) = true
    ∧ idles (.startStepTimeout 1#16 0#16) { base with boot := { base.boot with ready := true } } = true
    ∧ (let s := recorded { base.boot with ready := false, at_ := 5, step := 5, state := 1 }
    idles (.startStepTimeout 1#16 0xFFFF#16) (at_ns 1999999999 s)
      && after (.startStepTimeout 1#16 0xFFFF#16) (at_ns 2000000000 s) fun t => t.boot.ready && t.boot.alt == 0x20#32) = true := by
  decide +kernel

/-- A firmware image. -/
def image (signed : Bool) (version : Nat) : FirmwareImage := ⟨signed, version, 1#8, []⟩

/-- Slots in a state, in a started package. -/
def slots (f : FwSlots → FwSlots) : State :=
  operated { base with fw := f { base.fw with minVer := 4, handed := 0x3000, running := image true 5 } }

/-- A handover structure at 0x3000, of a major version and with a reserved byte. -/
def handover (major reserved : Byte) (s : State) : State := { s with mem := memSetAll s.mem 0x3000 [0#8, major, reserved] }

/-- A heartbeat missed and not, writes of FWSLOT, and the heartbeat that ends an update. -/
theorem witness_Heartbeats :
    (let s := slots fun f => { f with armed := some 50, staged := some (image true 4), quiesced := true }
    idles .heartbeatTimeout (at_ns 49 s) && after .heartbeatTimeout (at_ns 50 s) fun t => t.fw.rollback && t.fw.slot
      && t.fw.running == image true 4 && t.fw.staged == some (image true 5) && t.fw.armed == none
      && vget t.ident.measured 2 [] == vget s.ident.measured 2 [] ++ [[]]) = true
    ∧ (let k := fetchKey .command
    let s := slots fun f => { f with armed := some 50, staged := some (image true 4), quiesced := true }
    after .heartbeatTimeout (at_ns 50 { s with groups := [(k, { fetchGroup .command with halted := true, table := [] })] }) fun t =>
      !(t.group k).halted && (t.group k).table == [⟨(t.group k).trap.vec, 1#32, 0⟩]) = true
    ∧ after (.hbeatWrite 0x80000000#32) (slots id) (fun t => t.fw.hbeat) = true
    ∧ after (.rollbackClear 0x40000000#32) (slots fun f => { f with rollback := true }) (fun t => !t.fw.rollback) = true
    ∧ after (.rollbackClear 0x40000000#32) (slots fun f => { f with rollback := true, rolledAt := some base.now })
      (fun t => t.fw.rollback) = true
    ∧ (let s := slots fun f => { f with quiesced := true }
      after (.hbeatWrite 0x80000000#32) (handover 1#8 0#8 s) (fun t => t.fw.hbeat && !t.fw.quiesced)
        && [handover 2#8 0#8 s, handover 1#8 1#8 s].all fun u => [Instr.hbeatWrite 0x80000000#32, .rollbackClear 0x80000000#32].all fun i =>
          after i u fun t => t.fw.quiesced && t.fw.hbeat == s.fw.hbeat) = true := by
  decide +kernel

/-! ## Management -/

/-- A good record of a context: tables at 1 MiB, a budget of 16, key slot 7, cluster 0, 8 MiB of save area. -/
def record1 : List Byte :=
  leBytes 8 0x100000 ++ leBytes 4 16 ++ leBytes 2 20 ++ [7#8, 1#8] ++ leBytes 8 1 ++ leBytes 8 0 ++ leBytes 4 0x800000
    ++ leBytes 4 0x1000 ++ leBytes 10 0 ++ [4#8, 4#8] ++ List.replicate 76 0#8

/-- A started package whose context 1 is on another partition. -/
def ready1 : State := slots id

/-- A context created from a good record, one from a bad record, and one destroyed. -/
theorem witness_ContextCommands :
    (contextGood record1 && !contextGood (record1.drop 1)
      && ready1.mayCreate 9 (contextOf record1 ⟨[(2, 3)], 1#64, 0#64, 0#64⟩ ready1.ident.draws ready1.ns)
      && after (.contextCreate 9 record1 ⟨[(2, 3)], 1#64, 0#64, 0#64⟩) ready1 (fun t => (t.context 9).any fun c =>
        c.ttbase == 0x100000#52 && c.icw == 16#32 && c.part == 1#64 && c.keySlot == 7 && c.binds == [(2, 3)] && c.ports == 1#64
          && mapGet? t.keySlots 7 == some ready1.ident.draws)
      && after (.contextCreate 9 (record1.drop 1) ⟨[], 0#64, 0#64, 0#64⟩) ready1 fun t =>
        t.outbox == [.refusedCmd 0] && (t.context 9).isNone) = true
    ∧ after (.contextDestroy 1) ready1 (fun t => (t.context 1).isNone && t.groups.isEmpty && t.teams.isEmpty) = true := by
  decide +kernel

/-- The other commands of a started package, and one before it. -/
theorem witness_Commands :
    (after (.fabricBind 1 2 (some 3)) ready1 (fun t => (t.context 1).any fun c => c.binds == [(2, 3)])
      && after (.fabricBind 1 2 none) (ctx1 (fun x => { x with binds := [(2, 3)] }) ready1) (fun t =>
        (t.context 1).any fun c => c.binds.isEmpty)
      && after (.rosterSet true [[1#8]]) ready1 (fun t => t.ident.peerKnown [1#8])
      && after (.rosterSet false [[1#8]]) ready1 (fun t => t.ident.operator [1#8])
      && after (.firmwareStage (image true 6)) ready1 (fun t => t.fw.staged == some (image true 6))
      && after .recordClear ready1 (fun t => t.boot.fails == 0#32)
      && after (.rasRead 0) (ready1.countCE 0) (fun t => (t.rasOf 0).ce == 0#32
        && t.outbox == [.management 7 ([1#8] ++ List.replicate 15 0#8)])
      && after (.powerSet 0x04B01400#32) ready1 fun t => t.power.plimit == 1200#16) = true
    ∧ ([(true, 4, true), (false, 9, false), (true, 3, false)].all fun x =>
      after .firmwareUpdate (slots fun f => { f with staged := some (image x.1 x.2.1) }) fun t =>
        t.fw.quiesced == x.2.2 && (t.fw.running == image x.1 x.2.1) == x.2.2) = true
    ∧ (State.nextEvent { ready1 with agenda := [], inputs := [(0, .powerSet 9 0#32)] }).any (fun x => x.2.asker == 9) = true
    ∧ (let s := { ready1 with boot := { ready1.boot with ready := false, recovery := true } }
    after .recordClear s (fun t => t.boot.fails == 0#32)
      && after (.powerSet 0x04B01400#32) s (fun t => t.outbox == [.refusedCmd 0])
      && after (.powerSet 0x04B01400#32) { ready1 with asker := 5 } fun t => t.outbox == [.refusedCmd 0] && t.power == ready1.power) = true
    ∧ (let s := { ready1 with boot := { ready1.boot with ready := false, recovery := false } }
    after .recordClear s fun t => t.outbox == [.refusedCmd 0] && t.boot == s.boot) = true := by
  decide +kernel

/-! ## The debugger and the responder -/

/-- Requester 4 attached to context 1, which has all of die 0; the group stopped. -/
def stopped1 : State :=
  grp (fun g => { g with stop := some ⟨0x2000#64, 3#32⟩, q := g.q.setIfInBounds 5 0x77#32 })
    (ctx1 (fun x => { x with attached := some 4, part := 0xFF#64 }) (slots id))

/-- Requests granted and refused. -/
theorem witness_Debugger :
    (after (.debugAttach 4 1) ready1 (fun t => (t.context 1).any fun c => c.attached == some 4)
      && after (.debugAttach 4 1) stopped1 (fun t => t.outbox == [.refusedCmd 1])
      && after (.debugDetach 4 1) stopped1 (fun t => (t.context 1).any fun c => c.attached == none)
      && after (.debugDetach 5 1) stopped1 fun t => t.outbox == [.refusedCmd 1]) = true
    ∧ (stopped1.ownsDie 4 0 && !stopped1.ownsDie 4 1
      && after (.debugHalt 4 0) stopped1 (fun t => (t.die 0).dbgHalt == [4]
        && t.outbox == (stopped1.group 0).table.map (fun e => .stopReport (recordCore (stopped1.group 0) 0) 0 e.pc e.lanes)
        && after (.debugResume 4 (.die 0)) t (fun u => (u.die 0).dbgHalt.isEmpty)
        && after (.debugDetach 4 1) t fun u => (u.die 0).dbgHalt.isEmpty)
      && after (.debugHalt 4 1) stopped1 (fun t => t.outbox == [.refusedCmd 1])
      && after (.debugResume 4 (.die 0)) stopped1 fun t => t.outbox == [.refusedCmd 1]) = true
    ∧ (stopped1.attachedBy 4 1 && stopped1.mayInspect 4 0 (stopped1.group 0) && !stopped1.mayInspect 5 0 (stopped1.group 0)
      && after (.debugResume 4 (.group 0)) stopped1 (fun t => (t.group 0).stop == none && (t.group 0).wait == none
        && (t.group 0).epoch == (stopped1.group 0).epoch + 1)
      && after (.debugResume 4 (.group 0)) ready1 (fun t => t.outbox == [.refusedCmd 1])
      && after (.debugRead 4 0 (.uni 5)) stopped1 (fun t => t.outbox == [.debugValue [0x77#128]])
      && after (.debugWrite 4 0 (.uni 5) ⟨0x99#128, false⟩) stopped1 (fun t => vget (t.group 0).q 5 0#32 == 0x99#32)
      && after (.debugWrite 4 0 .stopAddress ⟨0x123456789#128, false⟩) stopped1 (fun t =>
        (t.group 0).stop == some ⟨0x123456780#64, 3#32⟩)
      && after (.debugRead 5 0 (.uni 5)) stopped1 (fun t => t.outbox == [.refusedCmd 1])
      && after (.spdmSessionEnd 4) stopped1 fun t => ((t.context 1).any fun c => c.attached == none) && !t.accepts 4) = true := by
  decide +kernel

/-- A command core and the circuit processor that HALT has stopped, restarted by the debugger of their context. -/
theorem witness_EngineRestart :
    (let k := fetchKey .command
    let s := { stopped1 with groups := [(k, { fetchGroup .command with halted := true })] }
    s.attachedBy 4 (s.group k).ctx && (s.group k).stop == none
      && after (.debugResume 4 (.group k)) s fun t => !(t.group k).halted) = true
    ∧ (let k := fetchKey .circuit
    let s := { onEngine .circuit stopped1 with cpHalt := true }
    s.attachedBy 4 (s.group k).ctx && (s.group k).stop == none
      && after (.debugResume 4 (.group k)) s fun t => !t.cpHalt && t.groups == s.groups) = true := by
  decide +kernel

/-- FINISH after KEY_EXCHANGE. -/
theorem test_spdm_finish :
    let s := { operated base with asker := 7 }
    (after (.keyExchange []) s (fun t => after (.finish ⟨[1#8], []⟩) t fun u => u.accepts 7 && u.outbox.length == 2)
      && after (.finish ⟨[1#8], []⟩) s (fun u => !u.accepts 7)) = true := by
  decide +kernel

end Sys2Proof.Tests
end

