-- ==== Sys2Proof/Tests/Clauses.lean ====
section
/-! SUPPORT. Witnesses for the clauses of the statements that the files before this one leave: loads served from an L1 or
a store queue, results of STX and LOOP, commits with stores, barriers of a cluster and a die, words read again, traps of a
waiting group, and the Whey words as they end. -/

set_option Elab.async false

namespace Sys2Proof.Tests

open Machine Stated

/-! ## Loads and results -/

/-- A line of core 0's L1 whose every byte is 9. -/
def l1line : L1Line where
  ctx := 1
  vline := vlineOf 0x2000#80
  pline := lineOf 0x2000
  data := List.replicate 128 9#8
  rights := ⟨true, true, true⟩
  hint := 0
  lastUse := 0
  owner := (0, 0)
  poison := false

/-- A load of lane 0 of 4 or 8 bytes at 0x2000. -/
def load1 (n : Nat) : Op := op1 (.load false none 0) [{ acc1 0#128 with size := n }] [{ res1 with width := 8 * n }]

/-- A store of the lane that is older than its load and has not performed. -/
def older1 : Op := op1 (.store .ef none) [{ acc1 0x0807060504030201#128 with size := 8 }] []

/-- A load binds the bytes of an L1 line though memory has others, those of its lane's own older store, and 64 bits. -/
theorem witness_LoadsServed :
    (let s := { with2000 [1#8] (flying (load1 4) base) with l1 := [(0, [l1line])] }
    ((s.l1Hit 0 (s.group 0).ctx 0x2000#80).isSome && l1Core 0 == some 0 && s.forwarded (load1 4) (acc1 0#128) == none
      && s.mayPerform (load1 4)
      && after (.variableOpComplete 7) s fun t => laneOf (vget (t.group 0).o 3 (Vector.replicate 32 0#32)) 0 == 0x09090909#32)
      = true)
    ∧ (let o := { load1 4 with seq := 1, acc := [{ acc1 0#128 with va := 0x2002#80, pa := some 0x2002#52 }] }
    let s := { base with ops := [(6, older1), (7, o)] }
    (s.mayPerform o && after (.variableOpComplete 7) s fun t =>
      laneOf (vget (t.group 0).o 3 (Vector.replicate 32 0#32)) 0 == 0x06050403#32) = true)
    ∧ after (.variableOpComplete 7) (with2000 [1#8, 2#8, 3#8, 4#8, 5#8, 6#8, 7#8, 8#8] (flying (load1 8) base)) (fun t =>
      laneOf (vget (t.group 0).o 3 (Vector.replicate 32 0#32)) 0 == 0x04030201#32
        && laneOf (vget (t.group 0).o 4 (Vector.replicate 32 0#32)) 0 == 0x08070605#32) = true := by
  decide +kernel

/-- A LOOP that turns back to 0x1000, and the word after it. -/
def turn1 : Turn := ⟨.loop, 0, 0x1000#64, 0x1010#64, [(0x1000#64, 1#32)]⟩

/-- The entries of an STX and the turn of a LOOP land. -/
theorem witness_OtherResultsLand :
    after (.fixedResultWriteback 7) (flying (op1 (.deepStore [(0, 5, 42#32), (1, 5, 43#32)]) [] []) base)
      (fun t => t.ops.isEmpty && (t.group 0).deepWord 5 0 == 42#32 && (t.group 0).deepWord 5 1 == 43#32) = true
    ∧ after (.fixedResultWriteback 7) (flying (op1 (.turn turn1) [] [])
        (grp (fun g => { g with q := g.q.setIfInBounds 62 3#32 }) base))
      (fun t => t.ops.isEmpty && vget (t.group 0).q 62 0#32 == 2#32) = true := by
  decide +kernel

/-- What each die reads at a byte that one store, seen by die 0 alone, covers, and at one that none covers. -/
theorem witness_DiesRead :
    unseen.viewByte 0 0x2000 = 7#8 ∧ unseen.viewByte 1 0x2000 = memGet unseen.mem 0x2000 ∧ unseen.latestByte 0x2000 = 7#8
    ∧ unseen.latestByte 0x2001 = memGet unseen.mem 0x2001 := by
  decide +kernel

/-- An IADD that reads a special register, at a cycle whose upper half is 1. -/
def special1 (idx : Nat) : Instr := .iadd (wd 0 r4 (sp idx) r4 zr 0)

/-- What the word reads of it in lane 3. -/
def readsSpecial (idx : Nat) : Val :=
  let s := at_cycle 0x100000007 base
  match (special1 idx).info with
  | some info => rawVal s (s.ctx info) (.v true) (intForm 0) (sp idx) 3
  | none => 0#128

/-- The lane, the team's groups, the low half of the cycle; the upper half that its read captures. -/
theorem witness_SpecialRegisters :
    readsSpecial 0x10 = 3#128 ∧ readsSpecial 0x1B = 1#128 ∧ readsSpecial 0x1E = 7#128
    ∧ after (special1 0x1E) (at_ (special1 0x1E) (at_cycle 0x100000007)) (fun t => (t.group 0).clockh == 1#32) = true := by
  decide +kernel

/-! ## Transactions -/

/-- The XEND of lane 0, whose transaction has read 0x2000 and stored to two bytes. -/
def committing (b : Byte) (s : State) : State :=
  grp (fun g => { g with tx := g.tx.setIfInBounds 0 (some ⟨0x3000#64, 0, [], [(0x2000, b)], [(0x2000, 5#8), (0x2001, 6#8)], false, false⟩) })
    (flying { op1 .xend [] [] with seq := 5 } s)

/-- Dies 2 and 3 share a slice that holds the line of the commit, and no link brings their answer. -/
def cutOff (s : State) : State :=
  { s with slices := [⟨baseOf 2, 1, vlineOf 0x2000#80, lineOf 0x2000, 0, ⟨true, true, true⟩, false⟩]
           links := Vector.replicate 4 { Link.reset with state := 2 } }

/-- A commit with stores, that every die sees; one whose value does not stand; one that lacks an acknowledgement. -/
theorem witness_Commits :
    (let s := committing 0#8 base
    (match mapGet? s.ops 7 with
      | some o => s.mayPerform o && !s.xendWaits 7 o && s.xendMissing o == 0#8
      | none => false) && placeOf s 0x2000 == .near && after (.variableOpComplete 7) s fun t => t.ops.isEmpty
        && laneOf (t.group 0).tx 0 == none && laneOf (t.group 0).xcode 0 == 0#32 && t.latestByte 0x2000 == 5#8
        && t.latestByte 0x2002 == s.latestByte 0x2002
        && (List.range 8).all fun d => t.viewByte d 0x2000 == 5#8 && t.viewByte d 0x2001 == 6#8) = true
    ∧ (let s := committing 1#8 base
    after (.variableOpComplete 7) s fun t => t.latestByte 0x2000 == 0#8 && (laneOf (t.group 0).xcode 0).setWidth 8 == 2#8) = true
    ∧ (let s := cutOff (committing 0#8 base)
    (match mapGet? s.ops 7 with
      | some o => s.mayPerform o && !s.xendWaits 7 o && s.xendMissing o == 12#8
      | none => false) && after (.variableOpComplete 7) s fun t => t.latestByte 0x2000 == 0#8 && t.group 0 == s.group 0
        && (mapGet? t.ops 7).any fun o => o.kind == .xend && o.mask == 12#8) = true := by
  decide +kernel

/-! ## Barriers -/

/-- Groups 0 and 1 of two teams or of one, the first waiting at a barrier that has its party, the second about to
arrive. -/
def twoAt (at_ : BarAt) (count : Nat) (apart : Bool) : State :=
  let g := base.group 0
  let lanes : LaneMask := 0xFFFFFFFF#32
  let w (x : Group) : Group := { x with table := [], waiting := [⟨at_.place, fetchPc, lanes⟩] }
  let two := if apart then 1 else 0
  let s := { base with
    groups := [(0, w g), (1, { w g with team := two, grp := 1, occ := 1, barExec := [(at_.slot, lanes, count)] })]
    teams := (List.range (two + 1)).map fun t => (t, { team1 0 with ngrp := 2 }) }
  s.setBarrier at_ ⟨true, count, [s.barParty at_ 0], []⟩

/-- The second party of a team's, a cluster's and a die's barrier completes it, and the first's group goes on; on a
halted die the arrival stands. -/
theorem witness_BarrierReleases :
    ([(BarAt.team 0 3, false, 2), (.team 0 3, false, 0), (.cluster 0 0, false, 2), (.cluster 0 0, true, 0), (.die 0 0, true, 2)].all
      fun x =>
      let s := twoAt x.1 x.2.2 x.2.1
      (s.barsOf 1).contains x.1 && (s.group 1).executedBar x.1.slot != 0#32 && (s.group 1).reachedBar x.1.slot && s.barDrained x.1 1
        && ((s.tryArrive x.1 1).barrier x.1) == Barrier.closed && (List.range 2).all fun k =>
          ((s.tryArrive x.1 1).group k).waitingMask x.1.place == 0#32 && lanesAt ((s.tryArrive x.1 1).group k) fetchPc == 0xFFFFFFFF#32
          && ((s.tryArrive x.1 1).group k).epoch == (s.group k).epoch + 1) = true
    ∧ (let at_ : BarAt := .die 0 0
    let s := (twoAt at_ 2 true).setDie 0 { (twoAt at_ 2 true).die 0 with thermHalt := true }
    s.dieHalted 0 && (s.tryArrive at_ 1).barrier at_ == ⟨true, 2, [0, 1], []⟩) = true := by
  decide +kernel

/-- Counts that a barrier of a team, a cluster and a die refuses: above its limit, and not the one it was opened with. -/
theorem witness_BarrierMismatch :
    ([(Instr.bar (wd 0 zr im zr zr 0), 2), (.barc (wd 0 zr im zr zr 0), 257), (.bard (wd 0 zr im zr zr 0), 513)].all fun x =>
      let i := match x.1 with
        | .bar f => Instr.bar { f with imm := BitVec.ofNat 32 x.2 }
        | .barc f => .barc { f with imm := BitVec.ofNat 32 x.2 }
        | .bard f => .bard { f with imm := BitVec.ofNat 32 x.2 }
        | j => j
      after i (at_ i (inTeam 0)) fun t => t.agenda.contains (.teamEnd 0 0x010A#16)) = true := by
  decide +kernel

/-! ## Waits -/

/-- A WWAIT of lane 0 for the word at 0x2000 to be the lane's operand. -/
def waitWord (x : Word) : State :=
  flying { op1 (.wwait 0 (Vector.replicate 32 x)) [{ acc1 0#128 with val := notRead }] [res1] with holds := true }
    (with2000 [1#8, 2#8, 3#8, 4#8] base)

/-- A word read again whose condition holds, and one whose does not. -/
theorem witness_WordsReadAgain :
    after (.variableOpComplete 7) (waitWord 0x04030201#32) (fun t => t.ops.isEmpty && (t.group 0).epoch == (base.group 0).epoch + 1
      && laneOf (vget (t.group 0).o 3 (Vector.replicate 32 0#32)) 0 == 0x04030201#32) = true
    ∧ after (.variableOpComplete 7) (waitWord 0#32) (fun t => t.groups == (waitWord 0#32).groups
      && (mapGet? t.ops 7).any fun o => o.kind == .wwait 0 (Vector.replicate 32 0#32)) = true := by
  decide +kernel

/-- The group has a trap vector. -/
def vectored (s : State) : State := grp (fun g => { g with trap := { g.trap with vec := 0x4000#64 } }) s

/-- The overrun and the copy-error trap of a group with a trap vector. -/
theorem witness_WaitTraps :
    after (.variableOpComplete 7) (vectored (atCb ⟨-24, true, true⟩)) (fun t => (t.group 0).trap
      == ⟨true, 0x0B#8, 7#32, 0x1000#64, 1#32, 0x4000#64⟩) = true
    ∧ after (.variableOpComplete 7) (vectored (atTwait 0 [⟨3, 1, 0, [(2, 6)]⟩])) (fun t => (t.group 0).trap
      == ⟨true, 0x0E#8, 0x00030206#32, 0x1000#64, 1#32, 0x4000#64⟩ && (t.group 0).batches.isEmpty) = true := by
  decide +kernel

/-- A TMR.CANCEL of timer 7 ends a wait of another script of its context on it. -/
theorem witness_TimerCancelled :
    (let i := Instr.tmrCancel (wd 24 zr im zr zr 7)
    let s := ctx1 (fun x => { x with timers := x.timers.setIfInBounds 7 (some 1000) }) (at_ i (onEngine .circuit))
    let s := flying { op1 (.tmrWait 7) [] [] with group := 0x4041 } (s.setGroup 0x4041 (s.group 0x4040))
    s.timerArmed (s.group 0x4041).ctx 7 && after i s fun t => t.ops.isEmpty && !t.timerArmed (t.group 0x4041).ctx 7) = true := by
  decide +kernel

/-- An event of a queue, by its number in bits 55:48. -/
def event1 (q x : Nat) : DWord := BitVec.ofNat 64 (q * 2 ^ 48 + x)

/-- EVTAKE of three events, the second of the queue with the highest PRIO, and while a firmware update goes on. -/
theorem witness_EventsByPriority :
    (let o := op1 .evtake [] [resU (.uni 4) 64 true]
    let s := ({ command o with events := [event1 1 7, event1 2 8, event1 2 9], heldEvts := [3#64] }).setQueue 2
      { Queue.reset with prio := 5#5 }
    after (.variableOpComplete 7) s (fun t => t.ops.isEmpty && t.events == [event1 1 7, event1 2 9, 3#64] && t.heldEvts.isEmpty
      && vget (t.group (fetchKey .command)).q 4 0#32 == 8#32 && vget (t.group (fetchKey .command)).q 5 0#32 == 0x20000#32)
    && after (.variableOpComplete 7) { s with fw := { s.fw with quiesced := true } } fun t => t.events == s.events && !t.ops.isEmpty)
      = true := by
  decide +kernel

/-- Control registers of a command core, and read-only ones of the circuit processor. -/
theorem witness_EngineRegisters :
    ([Instr.crd (wd 0 r4 zr zr zr 0x200), .crd (wd 0 r4 zr zr zr 0xFFF), .cwr (wd 0 zr r4 zr zr 0x200), .cwr (wd 0 zr r4 zr zr 0xFFF)].all
      fun i => issues i (at_ i (onEngine .command)) fun s c => (s.group c.key).engine == .command) = true
    ∧ ([Instr.cwr (wd 0 zr r4 zr zr 0x100), .cwr (wd 0 zr r4 zr zr 0x17F)].all
      fun i => issues i (at_ i (onEngine .circuit)) fun s c => (s.group c.key).engine == .circuit) = true := by
  decide +kernel

/-! ## Whey words -/

/-- A script's operation on session 6, which is open or closed and has the given messages. -/
def whey (k : OpKind) (acc : List Access) (st : Nat) (inbox : List (List Byte)) : State :=
  (script (op1 k acc [resU (.uni 4) 32 true])).setSession 6
    { Session.closed with state := st, ports := 4#8, kind := 1, nextSend := 5#32, nextRecv := 9#32, inbox := inbox }

/-- A buffer that is not yet known, of no bytes. -/
def noBuffer : Access := { acc1 0#128 with size := 0, skip := true, pa := none }

/-- The register that a Whey word brings its answer in. -/
def answer (t : State) : Word := vget (t.group (fetchKey .circuit)).q 4 0#32

/-- A WSEND of 4 bytes on a session that is open and on one that has closed. -/
theorem witness_MessagesSent :
    (let s := with2000 [1#8, 2#8, 3#8, 4#8] (whey (.wsend 6 4) [acc1 0#128] 2 [])
    s.wheyVia 6 == some 2 && l1Core (fetchKey .circuit) == none && after (.variableOpComplete 7) s fun t => t.ops.isEmpty
      && (t.session 6).unacked == [(5#32, [1#8, 2#8, 3#8, 4#8], s.ns, 0)] && (t.session 6).nextSend == 6#32 && t.outbox.length == 1)
      = true
    ∧ after (.variableOpComplete 7) (whey (.wsend 6 4) [acc1 0#128] 0 []) (fun t => t.ops.isEmpty && t.outbox.isEmpty) = true := by
  decide +kernel

/-- A WRECV that waits, that takes a buffer for its message, that writes it, and of a session that has closed. -/
theorem witness_MessagesReceived :
    after (.variableOpComplete 7) (whey (.wrecv 6 4) [noBuffer] 2 []) (fun t => (mapGet? t.ops 7).any fun o => o.acc == [noBuffer])
      = true
    ∧ after (.variableOpComplete 7) (whey (.wrecv 6 4) [noBuffer] 2 [[7#8, 8#8, 9#8, 10#8, 11#8]]) (fun t =>
      (mapGet? t.ops 7).any fun o => !o.walked && o.acc.map (fun a => (a.va, a.size, a.skip)) == [(0x2000#80, 0, true), (0x2000#80, 4, false)]) = true
    ∧ after (.variableOpComplete 7) (whey (.wrecv 6 4) [noBuffer, acc1 0#128] 2 [[7#8, 8#8, 9#8, 10#8, 11#8], [1#8]]) (fun t =>
      t.ops.isEmpty && (t.session 6).inbox == [[1#8]] && (List.range 5).map (fun i => t.latestByte (0x2000 + i)) == [7#8, 8#8, 9#8, 10#8, 0#8]
        && answer t == 5#32) = true
    ∧ after (.variableOpComplete 7) (whey (.wrecv 6 4) [noBuffer] 0 []) (fun t => t.ops.isEmpty && answer t == 0#32) = true := by
  decide +kernel

end Sys2Proof.Tests
end

