-- ==== Sys2Proof/Tests/Slice0.lean ====
section
/-! SUPPORT. Well-formedness, one ill-formed word for each check of spec/02 R24; words that the spec prints, decoded; small tests
whose results are worked from the spec's text; and the witnesses that the other test files leave. -/

set_option Elab.async false

namespace Sys2Proof.Tests

open Machine Stated

/-! ## Well-formedness -/

/-- A word is refused on the partition with the number of a check. -/
def fails (n : Nat) (i : Instr) : Bool :=
  !i.wellFormedOn .partition && match i.info with
    | some info => info.failedCheck .partition == some n
    | none => false

/-- R24: an ill-formed term for each check, 2 to 11: a codepoint of another engine, a reserved MOD, a guard, NX of the
wrong pipe, a selector the instruction claims, SF beyond the counters, and each operand outside its class. -/
theorem test_ill_formed :
    (fails 2 (.mma (wd 0 zr zr zr zr 0x23)) && fails 3 (.iadd (wd 1 r4 r4 r4 zr 0))
      && fails 4 (.uiadd { wd 0 r4 r4 r4 zr 0 with guardSel := 5#3 })
      && fails 5 (.uiadd { wd 0 r4 r4 r4 zr 0 with nx := .jt })
      && fails 6 (.fadd { wd 4 r4 r4 r4 zr 0 with nx := .jt }) && fails 7 (.iadd { wd 0 r4 r4 r4 zr 0 with sf := 13#4 })
      && fails 8 (.iadd (wd 0 im r4 r4 zr 0)) && fails 9 (.iadd (wd 0 r4 (sp 0x61) r4 zr 0))
      && fails 10 (.iadd (wd 0 r4 r4 (sp 0x61) zr 0)) && fails 11 (.iadd (wd 0 r4 r4 r4 r4 0))) = true := by
  decide +kernel

/-- The partition refuses a word with the number of a check. -/
def refuses (w : InstrWord) (n : Nat) : Bool :=
  match decode .partition w with
  | .error m => m == n
  | .ok _ => false

/-- R24: a reserved bit is check 1, and the printed row of spec/05 that R102 refuses is check 6. -/
theorem test_refused_words :
    (refuses 0x0040_7C00_C00C_00C0_0000_0001_0000_0000 1 && refuses 0x1005_7014_00C0_12C0_0500_0010_0000_0002 6) = true := by
  decide +kernel

/-- A well-formed word of each engine. -/
theorem test_well_formed :
    ((Instr.iadd (wd 0 r4 r4 r4 zr 0)).wellFormedOn .partition && (Instr.mma (wd 0 zr zr zr zr 0x23)).wellFormedOn .churn
      && (Instr.crel (wd 0 zr r4 zr zr 0)).wellFormedOn .circuit && (Instr.evtake (wd 0 r4 zr zr zr 0)).wellFormedOn .command)
      = true := by
  decide +kernel

/-! ## Words that the spec prints -/

/-- A word of the table decodes to an instruction. -/
def reads (w : Nat) (i : Instr) : Bool := decodeTableWord 128 w == some i

/-- Lane register `n`, and with the mark of its last use. -/
def x_ (n : Nat) : Operand := field .main n
def x' (n : Nat) : Operand := field .main n true
/-- Space register `n`, lane predicate `n`, uniform predicate `n`, as spec/02 R46 numbers them. -/
def s_ (n : Nat) : Operand := sp (0x60 + n)
def k_ (n : Nat) : Operand := sp (0x40 + n)
def h_ (n : Nat) : Operand := sp (0x48 + n)

/-- spec/02: control fields. -/
theorem test_words_control :
    (reads 0x0400_700C_0040_0AC0_0100_0000_0000_0000 (.iadd { wd 0 (x_ 3) (x_ 1) (x' 2) zr 0 with st := 1#4 })
      && reads 0x0042_7C00_C00C_00C0_0000_0010_0000_0004 (.nop { wd 2 zr zr zr zr 4 with nx := .jt })
      && reads 0x0400_7018_018C_04C0_0000_0008_0000_0003 (.iadd { wd 0 (x_ 6) (x_ 6) im zr 3 with nx := .jmp })
      && reads 0x8400_70F8_C00C_04C0_0000_0000_0000_0004 (.uiadd (wd 0 (x_ 62) zr im zr 4))
      && reads 0x0040_7C00_C00C_00C0_0000_0048_0000_0000 (.nop { wd 0 zr zr zr zr 0 with nx := .exit })
      && reads 0x8041_7C00_C00C_00C0_0000_0028_0000_0012 (.unop { wd 1 zr zr zr zr 0x12 with nx := .juf })) = true := by
  decide +kernel

/-- spec/05, 06, 12, 16, 19: arithmetic, conversions, D8, permutes and deep windows. -/
theorem test_words_compute :
    (reads 0x1005_7014_00C0_12C0_0500_0020_0000_0002 (.fadd { wd 5 (x_ 5) (x_ 3) (x' 4) zr 2 with st := 5#4, nx := .jut })
      && reads 0x1843_7018_008C_00C0_0500_0000_0000_0000 (.cvtf2i { wd 3 (x_ 6) (x_ 2) zr zr 0 with st := 5#4 })
      && reads 0x0500_7020_0080_0C02_2500_0000_0000_0000 (.imad { wd 0 (x_ 8) (x_ 2) (x_ 3) (x' 8) 0 with st := 5#4 })
      && reads 0x0430_7028_0100_18C0_0300_0000_0000_0000 (.iadd { wd 0x30 (x_ 10) (x_ 4) (x_ 6) zr 0 with st := 3#4 })
      && reads 0x08C0_7014_0040_0800_C300_0000_0000_0096 (.lut3 { wd 0 (x_ 5) (x_ 1) (x_ 2) (x_ 3) 0x96 with st := 3#4 })
      && reads 0x0A60_701C_018C_04C0_0300_0000_0000_0804 (.bxtr { wd 0x20 (x_ 7) (x_ 6) im zr 0x804 with st := 3#4 })
      && reads 0x0C10_7D08_010C_00C0_0300_0000_0000_0000 (.icmp { wd 0x10 (k_ 2) (x_ 4) zr zr 0 with st := 3#4 })
      && reads 0x1900_7030_00C0_10C0_0500_0000_0000_0000 (.d8pack { wd 0 (x_ 12) (x_ 3) (x_ 4) zr 0 with st := 5#4 })
      && reads 0x1CC0_7018_014C_04C0_0700_0000_0000_0001 (.permx { wd 0 (x_ 6) (x_ 5) im zr 1 with st := 7#4 })
      && reads 0x1F00_7008_024C_00C0_0500_0000_0000_0004 (.ldx .b32 { wd 0 (x_ 2) (x_ 9) zr zr 4 with st := 5#4 })
      && reads 0x1F40_7C00_0240_08C0_0000_0000_0000_0005 (.stx .b32 (wd 0 zr (x_ 9) (x_ 2) zr 5))
      && reads 0x8EC0_7010_01CC_04C0_0700_0000_0000_0003 (.ureadl { wd 0 (x_ 4) (x_ 7) im zr 3 with st := 7#4 })
      && reads 0x0E88_7008_010C_00C0_0000_0000_0000_0000 (.movq (wd 8 (x_ 2) (x_ 4) zr zr 0))
      && reads 0x07B0_7020_022C_40C0_0300_0000_0000_0000 (.lea { wd 0x30 (x_ 8) (x' 8) (sp 0x10) zr 0 with st := 3#4 })
      && reads 0x0440_7028_C780_1CC0_0300_0000_0000_0000 (.isub { wd 0 (x_ 10) (sp 0x1E) (x_ 7) zr 0 with st := 3#4 })
      && reads 0x8840_7018_0180_34C0_0300_4000_0000_0000 (.uor { wd 0 (x_ 6) (x_ 6) (x_ 13) zr 0 with st := 3#4, wt := 4#12 }))
      = true := by
  decide +kernel

/-- spec/07: memory, fences and transactions. -/
theorem test_words_memory :
    (reads 0x2100_7010_020D_84C0_0000_0100_0000_0040 (.ld .b32 { wd 0 (x_ 4) (x_ 8) (s_ 1) zr 0x40 with sf := 1#4 })
      && reads 0x2218_7018_030D_88C0_0000_0100_0000_0000 (.lda .b32 { wd 0x18 (x_ 6) (x_ 12) (s_ 2) zr 0 with sf := 1#4 })
      && reads 0x2758_7C00_030D_8801_C000_0200_0000_0004 (.str .b32 .ga { wd 0x18 zr (x_ 12) (s_ 2) (x_ 7) 4 with sf := 2#4 })
      && reads 0x2500_7C00_008D_8401_6000_0000_0400_0000 (.st .b32 .ef (wd 0 zr (x_ 2) (s_ 1) (x' 5) 0x4000000))
      && reads 0x2859_7014_028D_8001_8000_0300_0000_0000
        (.atom .add .ga { wd 0x19 (x_ 5) (x_ 10) (s_ 0) (x_ 6) 0 with sf := 3#4 })
      && reads 0x2C24_7C00_028D_8001_8000_0000_0000_0000 (.red .add .ef (wd 0x24 zr (x_ 10) (s_ 0) (x_ 6) 0))
      && reads 0x302B_7010_0200_1802_8000_0100_0000_0000
        (.ratom .add { wd 0x2B (x_ 4) (x_ 8) (x_ 6) (x_ 10) 0 with sf := 1#4 })
      && reads 0x3418_7C00_C00C_00C0_0000_0000_0000_0000 (.fence (wd 0x18 zr zr zr zr 0))
      && reads 0x3441_7C00_C00C_00C0_0000_0000_0000_0000 (.fencex (wd 1 zr zr zr zr 0))
      && reads 0x3488_7C00_C00C_00C0_0000_0000_0000_0000 (.drain (wd 8 zr zr zr zr 0))
      && reads 0x3500_7C00_C00C_00C0_0000_0000_0000_0003 (.xbegin (wd 0 zr zr zr zr 3))
      && reads 0x3540_7C00_C00C_00C0_0000_0000_0000_0000 (.xend (wd 0 zr zr zr zr 0))) = true := by
  decide +kernel

/-- spec/07, 08, 20: barriers, the Pail, the Churn, circuits, traps and leases. -/
theorem test_words_units :
    (reads 0x38C0_7C00_C04C_00C0_0000_1000_0000_0002 (.bard { wd 0 zr im zr zr 2 with wt := 1#12 })
      && reads 0x3940_7D4C_C00C_00C0_0000_0000_0000_0000 (.join (wd 0 (sp 0x53) zr zr zr 0))
      && reads 0x39C8_7024_020D_8400_C000_0000_0000_0000 (.wwait (wd 8 (x_ 9) (x_ 8) (s_ 1) (x_ 3) 0))
      && reads 0x3A10_7C00_01CC_00C0_0000_0000_0000_0000 (.cbpost (wd 0x10 zr (x_ 7) zr zr 0))
      && reads 0xC000_7C00_020D_84C0_0000_0100_0000_0040 (.tcopy { wd 0 zr (x_ 8) (s_ 1) zr 0x40 with sf := 1#4 })
      && reads 0xC080_7C00_C04C_00C0_0000_0000_0000_0001 (.twait (wd 0 zr im zr zr 1))
      && reads 0xC0C0_7C00_C04C_00C0_0000_0000_0000_0060 (.lease (wd 0 zr im zr zr 0x60))
      && reads 0x3C00_7C00_020D_8401_0000_0200_0000_0000 (.tfeed { wd 0 zr (x_ 8) (s_ 1) (x_ 4) 0 with sf := 2#4 })
      && reads 0x3C18_7C00_00AD_8401_8000_0200_0000_0000 (.tfeedStab { wd 0x18 zr (x' 2) (s_ 1) (x_ 6) 0 with sf := 2#4 })
      && reads 0x3C40_7C00_028D_84C0_0000_0300_0000_0000 (.tdrain { wd 0 zr (x_ 10) (s_ 1) zr 0 with sf := 3#4 })
      && reads 0x3C80_7C00_020D_8401_0000_0400_0000_0000 (.emit { wd 0 zr (x_ 8) (s_ 1) (x_ 4) 0 with sf := 4#4 })
      && reads 0xE000_7C00_C00C_00C0_0000_0100_0000_0023 (.mma { wd 0 zr zr zr zr 0x23 with sf := 1#4 })
      && reads 0xE048_7C00_020D_8403_4000_0100_0000_0020 (.mmag { wd 8 zr (x_ 8) (s_ 1) (x_ 13) 0x20 with sf := 1#4 })
      && reads 0xE880_7C00_0280_1CC0_0000_0000_0000_0000 (.cuse (wd 0 zr (x_ 10) (x_ 7) zr 0))
      && reads 0xE8C0_7C00_028C_00C0_0000_0000_0000_0000 (.crel (wd 0 zr (x_ 10) zr zr 0))
      && reads 0xE900_7D28_018C_00C0_0000_0000_0000_0000 (.pldrain (wd 0 (h_ 2) (x_ 6) zr zr 0))
      && reads 0xE980_7C00_020D_8403_0000_0100_0000_0000 (.wsend { wd 0 zr (x_ 8) (s_ 1) (x_ 12) 0 with sf := 1#4 })
      && reads 0x3E00_7C00_C04C_00C0_0000_0000_0000_002A (.trap (wd 0 zr im zr zr 0x2A))
      && reads 0xC440_7018_C04C_00C0_0000_0000_0000_0002 (.crd (wd 0 (x_ 6) im zr zr 2))
      && reads 0xC400_7C00_C00C_00C0_0000_0000_0000_0000 (.eret (wd 0 zr zr zr zr 0))) = true := by
  decide +kernel

/-! ## Results worked in the spec -/

/-- The result in lane 0 of a lane word that issues with x4 = `a` and x5 = `b`, as it is in flight. -/
def gives (i : Instr) (a b : Word) (v : BitVec 128) : Bool :=
  after i (at_ i fun s => xr 4 a (xr 5 b s)) fun t => t.ops.any fun p => p.2.res.any fun r => laneOf r.vals 0 == v

/-- x5. -/
def r5 : Operand := field .main 5

/-- R117, with A = 0x7FFF_FFFF and B = 1: `iadd.s32`, `iadd.sat.s32` and `iadd.sat.b32`. -/
theorem test_wrap_and_saturate :
    (gives (.iadd (wd 0 r4 r4 r5 zr 0)) 0x7FFFFFFF#32 1#32 0x80000000#128
      && gives (.iadd (wd 0x20 r4 r4 r5 zr 0)) 0x7FFFFFFF#32 1#32 0x7FFFFFFF#128
      && gives (.iadd (wd 0x28 r4 r4 r5 zr 0)) 0x7FFFFFFF#32 1#32 0x80000000#128) = true := by
  decide +kernel

/-- R122: the printed BXTR of 0x0000_0F30 gives 0xFFFF_FFF3. -/
theorem test_bit_field : gives (.bxtr (wd 0x20 r4 r4 im zr 0x804)) 0xF30#32 0#32 0xFFFFFFF3#128 = true := by
  decide +kernel

/-- R118: a division by zero, and the most negative number by -1. -/
theorem test_division :
    (gives (.idiv (wd 0 r4 r4 r5 zr 0)) 7#32 0#32 0xFFFFFFFF#128 && gives (.irem (wd 0 r4 r4 r5 zr 0)) 7#32 0#32 7#128
      && gives (.idiv (wd 0 r4 r4 r5 zr 0)) 0x80000000#32 0xFFFFFFFF#32 0x80000000#128
      && gives (.irem (wd 0 r4 r4 r5 zr 0)) 0xFFFFFFF9#32 2#32 0xFFFFFFFF#128) = true := by
  decide +kernel

/-- spec/06, packing one block: 0.75, -0.09375 and 2^-11 with no block scale and with the scale -2. -/
theorem test_pack :
    (gives (.d8pack (wd 0 r4 r4 r5 zr 0)) 0x3F400000#32 0#32 0x2C#128
      && gives (.d8pack (wd 0 r4 r4 r5 zr 0)) 0xBDC00000#32 0#32 0x97#128
      && gives (.d8pack (wd 0 r4 r4 r5 zr 0)) 0x3A000000#32 0#32 0x05#128
      && gives (.d8pack (wd 0 r4 r4 r5 zr 0)) 0x3F400000#32 0xFFFFFFFE#32 0x3C#128
      && gives (.d8pack (wd 0 r4 r4 r5 zr 0)) 0xBDC00000#32 0xFFFFFFFE#32 0xFC#128
      && gives (.d8pack (wd 0 r4 r4 r5 zr 0)) 0x3A000000#32 0xFFFFFFFE#32 0x13#128) = true := by
  decide +kernel

/-- R86, R128: NaN converts to 0; a negated source of FABS gives -|A|. -/
theorem test_float_corners :
    (gives (.cvtf2i (wd 0 r4 r4 zr zr 0)) 0x7FC00000#32 0#32 0#128
      && gives (.fabs (wd 0 r4 (field .main 4 false true) zr zr 0)) 0xC0000000#32 0#32 0xC0000000#128) = true := by
  decide +kernel

/-! ## Witnesses left -/

/-- A main-file register that is mapped and one that is not, for SourceOperands. -/
theorem witness_SourceOperands :
    (let s := at_ (.iadd (wd 0 r4 r4 r5 zr 0)) (xr 4 9#32)
    (mapGet? (s.group s.cur.group).x 4).isSome && (mapGet? (s.group s.cur.group).x 5).isNone) = true := by
  decide +kernel

/-- A step goes to a next state that meets a test. -/
noncomputable def steps (s : State) (p : State → Bool) : Bool :=
  match step s with
  | .next t => p t
  | _ => false

/-- The head of the agenda; an input whose cycle has come, and one whose cycle has not. -/
theorem witness_StepsOfEvents :
    let s := { base with chosen := [], agenda := [] }
    steps { s with agenda := [.lkcrcRead 0, .helloSend] } (fun t => t.agenda == [.helloSend]) = true
    ∧ steps (at_cycle 7 { s with inputs := [(7, .lkcrcRead 0)] }) (fun t => t.inputs.isEmpty) = true
    ∧ steps (at_cycle 6 { s with inputs := [(7, .lkcrcRead 0)] }) (fun t => t.cycle == 7#64 && t.inputs.length == 1) = true
    ∧ steps { at_cycle 6 s with baseDue := 1 } (fun t => t.cycle == 6#64 && t.baseCycle == 1#64 && t.baseDue == 0) = true := by
  decide +kernel

/-- R18: at 2.4 GHz the second of two core cycles from reset ends the first base-die cycle, and the third the second. -/
theorem test_clocks :
    (State.reset.coreTick.baseDue = 0 ∧ State.reset.coreTick.coreTick.baseDue = 1
      ∧ State.reset.coreTick.coreTick.coreTick.baseDue = 2) := by
  decide +kernel

/-- Canonical memory before a step that goes on. -/
theorem witness_StepKeepsMemoryCanonical :
    Memory.wf (with2000 [1#8] base).mem = true ∧ steps (with2000 [1#8] base) (fun t => Memory.wf t.mem) = true := by
  decide +kernel

end Sys2Proof.Tests
end

section
/-! PROOFS. The load clause of `Stated.LoadsBind` asks for a word that no result writes. A result of `width` bits outside
the rename map fills `regsFor width` registers: above 32 bits `width / 32`, rounded down. `Stated.HoldsValue` speaks of
every word that begins below `width`, which rounds up, and the clause bounds the width by 128 alone. The two agree at
1, 32, 64 and 128 bits, the widths that `Info.dBits` gives a result; at 33 bits they do not. -/

namespace Sys2Proof.UnevenWidth

open Machine Stated

/-- Lane 0's access to the eight bytes at physical address 0x2000. -/
def access : Access where
  lane := 0
  va := 0x2000#80
  size := 8
  data := 0#128
  pa := some 0x2000#52
  skip := false
  bound := false
  val := 0#128
  peer := none

/-- A result of 33 bits for lane 0 of operand-file register 3: its second word falls to register 4. -/
def result : RegResult where
  dest := .oper 3
  width := 33
  vals := Vector.replicate 32 0#128
  lanes := 1#32
  targets := []
  uniform := false
  latch := false

/-- A load of those bytes, past its fault point. -/
def load : Op where
  group := 0
  seq := 0
  pc := 0#64
  npc := 0#64
  lanes := 1#32
  active := 1#32
  uni := false
  flag := 0
  issueNs := 0
  due := 0
  kind := .load false none 0
  acc := [access]
  res := [result]
  walked := true
  left := false
  holds := false
  ackLost := none
  mask := 0#8

/-- The reset state with one group, the load in flight as operation 7, and the byte at 0x2004 set to 1. -/
def start : State :=
  { State.reset with groups := [(0, Group.blank)], ops := [(7, load)], mem := [(0x2004, 1#8)] }

/-- What lane 0 of an operand-file register of the group holds once the load has bound. -/
def registerAfter (n : Nat) : Option Word :=
  match exec (.variableOpComplete 7) start with
  | .next t => (mapGet? t.groups 0).map fun g => laneOf (vget g.o n (Vector.replicate 32 0#32)) 0
  | _ => none

/-- The load is past its fault point and nothing keeps it back. -/
theorem ready_load : Ready start 7 load := by
  unfold Ready
  decide +kernel

/-- Its one access reads near memory, outside a transaction. -/
theorem oneAccess_load : OneAccess start load access 0x2000#52 := by
  unfold OneAccess
  decide +kernel

/-- The eight bytes are the number 2^32, whose second word is 1. -/
theorem secondWord_loaded :
    low 32 (numberAt (start.viewByte (dieOf load.group)) (0x2000#52).toNat access.size >>> (32 * 1)) = 1#32 := by
  decide +kernel

/-- `regsFor 33` is 1: register 4 keeps its 0. -/
theorem registerAfter_second : registerAfter 4 = some 0#32 := by
  decide +kernel

end Sys2Proof.UnevenWidth

namespace Sys2Proof

open Machine Stated UnevenWidth

/-- Refutes O23: a load into operand-file registers as a result of 33 bits, a width that no word issues but that the
statement allows. The eight bytes read are 2^32, so the statement asks for 1 in the register after the destination; the
load completes and leaves that register as it was. -/
theorem not_loadsAndStores : ¬ Obligations.LoadsAndStores := by
  rintro ⟨⟨hloads, -⟩, -⟩
  obtain ⟨hmemory, -, -⟩ := hloads start 7 load access 0x2000#52 result false none 0 ready_load oneAccess_load
    rfl rfl rfl (by decide) (by decide) (by decide) (by decide +kernel)
  obtain ⟨t, hstep, -, hbound, -⟩ := hmemory (by decide +kernel) fun _ _ _ => rfl
  obtain ⟨-, g, hgroup, hwords⟩ := hbound (by decide +kernel)
  have hasked : laneOf (vget g.o 4 (Vector.replicate 32 0#32)) 0 = 1#32 :=
    ((hwords 1 (by decide)).1 3 rfl (by decide)).trans secondWord_loaded
  have hleft : registerAfter 4 = some 1#32 := by
    have hgroup : mapGet? t.groups 0 = some g := hgroup
    simp [registerAfter, hstep, hgroup, hasked]
  exact absurd (registerAfter_second.symm.trans hleft) (by decide)

end Sys2Proof
end

section
/-! PROOFS. The deep window: LDX and STX (spec/03 R77, spec/06 R138). First what lanes and words of several registers are,
then the entries that a word names, then what the meanings of LDX and STX answer, and the statement from these. -/

namespace Sys2Proof.Machine

/-! ## Lanes and words -/

theorem mem_lanesOf {m : LaneMask} {l : Nat} : l ∈ lanesOf m ↔ l < 32 ∧ m.getLsbD l = true := by
  simp [lanesOf]

theorem laneOf_ofFn {α : Type} (f : Fin 32 → α) {l : Nat} (h : l < 32) : laneOf (Vector.ofFn f) l = f ⟨l, h⟩ := by
  simp [laneOf, Nat.mod_eq_of_lt h]

@[simp] theorem wordsVal_zero (get : Nat → Word) : wordsVal get 0 = 0#128 := rfl

theorem wordsVal_succ (get : Nat → Word) (n : Nat) :
    wordsVal get (n + 1) = wordsVal get n + (get n).setWidth 128 <<< (32 * n) := by
  have hshift : (get n).setWidth 128 <<< (32 * n) = BitVec.ofNat 128 ((get n).toNat * 2 ^ (32 * n)) := by
    apply BitVec.eq_of_toNat_eq
    simp [Nat.shiftLeft_eq, Nat.mod_mul_mod]
  simp only [wordsVal, List.range_succ, List.foldl_append, List.foldl_cons, List.foldl_nil, BitVec.ofNat_add, hshift]

/-- A word and one that stands above it have no bit in common. -/
theorem add_shiftLeft_word (x y : Word) :
    x.setWidth 128 + y.setWidth 128 <<< 32 = x.setWidth 128 ||| y.setWidth 128 <<< 32 := by
  apply BitVec.add_eq_or_of_and_eq_zero
  ext i hi
  by_cases h : i < 32
  · simp [h]
  · simp [BitVec.getLsbD_of_ge x i (by omega)]

/-- The words of an access of width `.b32` or `.b64` as one value. -/
theorem wordsVal_width2 (get : Nat → Word) (w : Width2) :
    wordsVal get (w.bytes / 4) = (get 0).setWidth 128 ||| if w = .b64 then (get 1).setWidth 128 <<< 32 else 0#128 := by
  cases w with
  | b32 => simp [Width2.bytes, wordsVal_succ]
  | b64 => simp [Width2.bytes, wordsVal_succ, add_shiftLeft_word]

/-! ## The entries that a word names -/

section
variable {s : State} {c : Ctx} {words l : Nat}

/-- The trap names the lane that the statement calls lowest. -/
theorem deepTrap_eq_some (h : Stated.Lowest c (Stated.beyondDeep s c words) l) : deepTrap s c words = some l := h

theorem deepTrap_eq_none (h : ∀ l ∈ lanesOf c.active, Stated.beyondDeep s c words l = false) :
    deepTrap s c words = none :=
  List.find?_eq_none.2 fun l hl => Bool.eq_false_iff.1 (h l hl)

theorem mem_deepCells (v : Nat → Nat → Nat → Word) (k : Nat) (x : Word) :
    (l, k, x) ∈ deepCells s c words v ↔
      l ∈ lanesOf c.active ∧ ∃ n, n < words ∧ k = deepEntry s c l + n ∧ x = v l n k := by
  simp only [deepCells, List.mem_flatMap, List.mem_map, List.mem_range, Prod.mk.injEq]
  constructor
  · rintro ⟨_, hl, n, hn, rfl, rfl, rfl⟩
    exact ⟨hl, n, hn, rfl, rfl⟩
  · rintro ⟨hl, n, hn, rfl, rfl⟩
    exact ⟨l, hl, n, hn, rfl, rfl, rfl⟩

end

/-! ## What LDX and STX answer -/

/-- The values that LDX reads, lane by lane. -/
def ldxVals (w : Width2) (s : State) (c : Ctx) : Lanes Val :=
  Vector.ofFn fun i : Fin 32 => wordsVal (fun k => (s.group c.key).deepWord (deepEntry s c i + k) i) (w.bytes / 4)

/-- The effect of an STX. -/
def stxEffect (w : Width2) (s : State) (c : Ctx) : Effect where
  res := []
  kind := some (.deepStore (deepCells s c (w.bytes / 4) fun l k _ => (srcVal s c 1 l).extractLsb' (32 * k) 32))
  undo := [.deep (deepCells s c (w.bytes / 4) fun l _ e => (s.group c.key).deepWord e l) []]

section
variable {s : State} {c : Ctx} (w : Width2)

theorem ldxAct_trap {l : Nat} (h : deepTrap s c (w.bytes / 4) = some l) :
    ldxAct w s c = .trap 0x05#8 (BitVec.ofNat 32 l) := by
  simp only [ldxAct, h]

theorem stxAct_trap {l : Nat} (h : deepTrap s c (w.bytes / 4) = some l) :
    stxAct w s c = .trap 0x05#8 (BitVec.ofNat 32 l) := by
  simp only [stxAct, h]

/-- Within the deep window and without poison in the group, LDX reads. -/
theorem ldxAct_go (h : deepTrap s c (w.bytes / 4) = none) (hp : (s.group c.key).poison = []) :
    ldxAct w s c = .go (resultEffect c (ldxVals w s c)) := by
  simp [ldxAct, h, hp, ldxVals]

theorem stxAct_go (h : deepTrap s c (w.bytes / 4) = none) : stxAct w s c = .go (stxEffect w s c) := by
  simp only [stxAct, h, stxEffect]

theorem laneOf_ldxVals {l : Nat} (h : l < 32) :
    laneOf (ldxVals w s c) l = ((s.group c.key).deepWord (deepEntry s c l) l).setWidth 128
      ||| if w = .b64 then ((s.group c.key).deepWord (deepEntry s c l + 1) l).setWidth 128 <<< 32 else 0#128 := by
  rw [ldxVals, laneOf_ofFn _ h, wordsVal_width2, Nat.add_zero]

end

end Sys2Proof.Machine

namespace Sys2Proof.Stated

open Machine

/-! ## A word that issues -/

variable {i : Instr} {act : State → Ctx → Act}

/-- An instruction that runs as a word of its meaning `act` starts with the effect that `act` answers. -/
theorem Starts.of_act {may : State → Ctx → Prop} {P : State → Ctx → Effect → Prop}
    (hexec : ∀ s, exec i s = issueWord i act s)
    (hact : ∀ s c, may s c → ∃ e, act s c = .go e ∧ P s c e) : Starts i may P := by
  rintro s s' c ⟨hinfo, hc, hgroup, hgate, hlink, hactive⟩ hmay
  obtain ⟨e, hgo, hP⟩ := hact s c hmay
  exact ⟨e, (hexec s).trans (issueWord_go hinfo hc hgroup hgate hlink hactive hgo), hP⟩

/-- An instruction that runs as a word of its meaning `act` takes the trap that `act` answers. -/
theorem Traps.of_act {when_ : State → Ctx → Prop} {cause : BitVec 8} {detail : State → Ctx → Word}
    (hexec : ∀ s, exec i s = issueWord i act s)
    (hact : ∀ s c, when_ s c → act s c = .trap cause (detail s c)) : Traps i when_ cause detail := by
  rintro s s' c ⟨hinfo, hc, hgroup, hgate, hlink, hactive⟩ holder hwhen
  have htrap := issueWord_trap hinfo hc hgroup hgate hlink hactive (hact s c hwhen)
  rw [hexec, htrap, holder]
  rfl

theorem plain_resultEffect (c : Ctx) (vals : Lanes Val) : Plain (resultEffect c vals) :=
  ⟨rfl, rfl, rfl, rfl, fun _ _ => rfl⟩

/-- The result of a computation is for its word's destination, with the values it was given. -/
theorem resultIs_resultOf {c : Ctx} {vals : Lanes Val} {want : Nat → Val}
    (h : ∀ l, l < 32 → laneOf vals l = want l) : ResultIs c (resultOf c vals) want :=
  ⟨rfl, rfl, rfl, rfl, rfl, fun l hl _ => h l hl⟩

end Sys2Proof.Stated

namespace Sys2Proof

open Machine Stated

/-- Settles O13: LDX and STX answer their trap when `deepTrap` finds a lane, and it finds the lowest lane whose entries
lie beyond DEEP; else they answer the read of the lanes' entries and the write with the old values to undo it. -/
theorem deepWindow : Obligations.DeepWindow := by
  intro w f
  have hldx : ∀ s, exec (.ldx w f) s = issueWord (.ldx w f) (ldxAct w) s := fun _ => rfl
  have hstx : ∀ s, exec (.stx w f) s = issueWord (.stx w f) (stxAct w) s := fun _ => rfl
  refine ⟨Starts.of_act hldx ?reads, Starts.of_act hstx ?writes,
    fun l => Traps.of_act hldx fun s c h => ldxAct_trap w (deepTrap_eq_some h),
    fun l => Traps.of_act hstx fun s c h => stxAct_trap w (deepTrap_eq_some h)⟩
  case reads =>
    rintro s c ⟨hwithin, hpoison⟩
    exact ⟨_, ldxAct_go w (deepTrap_eq_none hwithin) hpoison, plain_resultEffect c _, rfl, _, rfl,
      resultIs_resultOf fun l hl => laneOf_ldxVals w hl⟩
  case writes =>
    intro s c hwithin
    exact ⟨_, stxAct_go w (deepTrap_eq_none hwithin), rfl, rfl, _, _, rfl, rfl,
      fun l k v => mem_deepCells _ k v, fun l k v => mem_deepCells _ k v⟩

end Sys2Proof
end

section
/-! PROOFS. What the device registers read as at reset (spec/14 R267, spec/17 R314, R315, spec/18 R345, spec/21 R367,
R376): the block that an offset lies in, blocks of registers at their reset values, and the reset state's blocks. -/

namespace Sys2Proof.Machine

/-! ## The block that an offset lies in -/

section
variable (s : State)

theorem State.devWord_queue {q r : Nat} (hq : q < 256) (hr : r < 8) :
    s.devWord (0x100000 + 0x40 * q + 8 * r) = (s.queue q).reg (8 * r) := by
  have hblock : (0x100000 + 0x40 * q + 8 * r - 0x100000) / 0x40 = q := by omega
  have hoff : (0x100000 + 0x40 * q + 8 * r) % 0x40 = 8 * r := by omega
  rw [State.devWord, if_pos (by simp; omega), hblock, hoff]

theorem State.devWord_port {p : Nat} (hp : p < 64) : s.devWord (0x200000 + 0x200 * p) = (s.port p).reg 0 := by
  have hblock : (0x200000 + 0x200 * p - 0x200000) / 0x200 = p := by omega
  have hoff : (0x200000 + 0x200 * p) % 0x200 = 0 := by omega
  rw [State.devWord, if_neg (by simp; omega), if_pos (by simp; omega), hblock, hoff]

theorem State.devWord_link {k : Nat} (hk : k < 4) :
    s.devWord (0x300000 + 0x40 * k) = (vget s.links k Link.reset).reg 0 := by
  have hblock : (0x300000 + 0x40 * k - 0x300000) / 0x40 = k := by omega
  have hoff : (0x300000 + 0x40 * k) % 0x40 = 0 := by omega
  rw [State.devWord, if_neg (by simp; omega), if_neg (by simp; omega), if_pos (by simp; omega), hblock, hoff]

theorem State.devWord_ras {b : Nat} (hb : b < 4) : s.devWord (0x400000 + 0x1000 * b) = (s.rasOf b).reg 0 := by
  have hblock : (0x400000 + 0x1000 * b - 0x400000) / 0x1000 = b := by omega
  have hoff : (0x400000 + 0x1000 * b) % 0x1000 = 0 := by omega
  rw [State.devWord, if_neg (by simp; omega), if_neg (by simp; omega), if_neg (by simp; omega),
    if_pos (by simp; omega), hblock, hoff, State.rasOf]

theorem State.devWord_power : s.devWord 0x500000 = s.power.regs := rfl

end

/-! ## Blocks at their reset values -/

@[simp] theorem Queue.reg_reset (off : Nat) : Queue.reset.reg off = 0 := by
  unfold Queue.reg
  split <;> rfl

/-- PSTAT of a dark port, of which neither a cause nor a peer is known. -/
@[simp] theorem Port.reg_reset_zero : Port.reset.reg 0 = 0 := rfl

@[simp] theorem Link.reg_reset_zero : Link.reset.reg 0 = 0 := rfl

@[simp] theorem RasLog.reg_cleared_zero : (RasLog.mk 0#32 0#32 0#64).reg 0 = 0 := rfl

/-! ## The reset state's blocks -/

theorem vget_replicate {α : Type} (n i : Nat) (x : α) : vget (Vector.replicate n x) i x = x := by
  simp only [vget, Vector.getElem?_replicate]
  split <;> rfl

@[simp] theorem State.reset_queue (q : Nat) : State.reset.queue q = Queue.reset := rfl

@[simp] theorem State.reset_port (p : Nat) : State.reset.port p = Port.reset := rfl

@[simp] theorem State.reset_link (k : Nat) : vget State.reset.links k Link.reset = Link.reset := vget_replicate 4 k _

@[simp] theorem State.reset_rasOf (b : Nat) : State.reset.rasOf b = ⟨0#32, 0#32, 0#64⟩ := vget_replicate 4 b _

/-- PWRCTL in the lower half, PWRSTAT in the upper. -/
theorem State.reset_power_regs : State.reset.power.regs = 2400 * 2 ^ 16 + 45 * 2 ^ 8 + 96 * 2 ^ 32 := rfl

end Sys2Proof.Machine

namespace Sys2Proof

open Machine

/-- Settles O49: each offset is read through the block it lies in, and each block is at its reset value. -/
theorem resetValues : Obligations.ResetValues := by
  refine ⟨fun q hq r hr => ?queue, ?power, fun p hp => ⟨?port, rfl⟩, fun k hk => ⟨?link, ?log⟩, rfl, rfl, rfl, rfl, rfl⟩
  case queue => rw [State.devWord_queue _ hq hr, State.reset_queue, Queue.reg_reset]
  case power => rw [State.devWord_power, State.reset_power_regs]
  case port => rw [State.devWord_port _ hp, State.reset_port, Port.reg_reset_zero]
  case link => rw [State.devWord_link _ hk, State.reset_link, Link.reg_reset_zero]
  case log => rw [State.devWord_ras _ hk, State.reset_rasOf, RasLog.reg_cleared_zero]

end Sys2Proof
end
